-- ==== Sys2Proof/Word.lean ====
section
/-! DEFINITION. The word types of the NF2416: the bytes of the line and the counters that wrap. -/

namespace Sys2Proof

/-- One byte of a frame or of a record (Table 10-6, R164). -/
abbrev Byte := BitVec 8

/-- A sweep number: a 32-bit count that wraps (Table 0-2, R121). -/
abbrev SweepNo := BitVec 32

/-- The lead byte of a request frame (Table 10-6). -/
def requestLead : Byte := 0xC3

/-- The lead byte of a reply frame (Table 10-7). -/
def replyLead : Byte := 0x3C

end Sys2Proof
end

