-- ==== Sys2Proof/Syntax.lean ====
section
/-! DEFINITION. The commands of the NF2416, one constructor for each row of spec/opcode_table.json, with their operands.
A request row is the event at the end of the last CRC byte of a frame of that kind (R155, R157). Its operand is the frame's
payload, byte by byte as R164 lays it out, so that every refusal of the spec can be given. A timer or pin row names the
timer or pin it happens at. -/

namespace Sys2Proof

/-- The two pulse lines of a probe port (Chapter 5, 5.1). -/
inductive PinLine where
  | f
  | d
  deriving DecidableEq, Repr

/-- A level of a probe line, sampled or filtered (R79). -/
inductive PinLevel where
  | low
  | high
  deriving DecidableEq, Repr

/-- A run of consecutive ticks at which a probe line was sampled at one level (R79, assumption 8). -/
structure SampleRun where
  level : PinLevel
  ticks : Nat
  deriving DecidableEq, Repr

/-- A level of a wet line (Table 7-3): DRY, WET and OPEN. -/
inductive WetLevel where
  | dry
  | wet
  | openTape
  deriving DecidableEq, Repr

/-- Whom a frame was addressed to: the part's own address (R155) or the broadcast address (R157). -/
inductive Dest where
  | own
  | broadcast
  deriving DecidableEq, Repr

/-- Why a complete frame is discarded (R154, R157). -/
inductive DiscardCause where
  | crcMismatch
  | foreignAddress
  | broadcastIgnored
  deriving DecidableEq, Repr

/-- Why a frame being collected is abandoned (R153). -/
inductive AbandonCause where
  | gap
  | framingError
  | length
  deriving DecidableEq, Repr

/-- What the start-up path reads from outside the part (R169): the straps (R152), the resistance at each sense pin in ohms
(R111), and the bits of the stored CRC that the nonvolatile memory reads back wrong, 0 for a memory without a fault
(assumption 20). -/
structure StartPins where
  adr     : BitVec 5
  baud1   : Bool
  baud0   : Bool
  sense   : Vector Nat 8
  nvFlips : BitVec 16
  deriving DecidableEq, Repr

/-- The commands, in the order of the table. -/
inductive Instr where
  | powerOn (pins : StartPins)
  | resetPinAssert
  | resetPinRelease (pins : StartPins)
  | ident (payload : List Byte)
  | status (payload : List Byte)
  | pointWrite (payload : List Byte)
  | pointRead (payload : List Byte)
  | surfaceWrite (payload : List Byte)
  | surfaceRead (payload : List Byte)
  | globalWrite (payload : List Byte)
  | globalRead (payload : List Byte)
  | outputWrite (payload : List Byte)
  | outputRead (payload : List Byte)
  | wetlineWrite (payload : List Byte)
  | wetlineRead (payload : List Byte)
  /-- The four SWEEP rows: `rest` is the payload after its action byte (Table 10-13). -/
  | sweepRun (dest : Dest) (rest : List Byte)
  | sweepStop (dest : Dest) (rest : List Byte)
  | sweepOnce (dest : Dest) (rest : List Byte)
  | sweepInterval (dest : Dest) (rest : List Byte)
  | noticeRead (payload : List Byte)
  | noticeDrop (payload : List Byte)
  | rankRead (payload : List Byte)
  | snapArm (dest : Dest) (payload : List Byte)
  | snapRead (payload : List Byte)
  | wetAck (payload : List Byte)
  | purge (payload : List Byte)
  | save (payload : List Byte)
  | load (payload : List Byte)
  | restart (dest : Dest) (payload : List Byte)
  | unknownKind (kind : Byte) (payload : List Byte)
  | frameDiscard (cause : DiscardCause)
  | frameAbandon (cause : AbandonCause)
  | replyStart
  | replyEnd
  | secondsCount
  | sweepTimerExpiry
  /-- The capture rows name the job by its port and line: the units are interchangeable (R83). The line is sampled HIGH up to
  the tick its filtered level takes that level, which is the edge. -/
  | startEdge (port : Fin 24) (line : PinLine)
  /-- The closing edge, at the tick the unit's counts are `total` and `high` (R84). -/
  | captureJobComplete (port : Fin 24) (line : PinLine) (total high : Nat)
  | captureWindowExpiry (port : Fin 24) (line : PinLine)
  | heaterPeriodStart (port : Fin 24)
  | heaterOnTimeEnd (port : Fin 24)
  | purgeTimerExpiry (port : Fin 24)
  | recoveryTimerExpiry (port : Fin 24)
  /-- A classification at which the sense pin shows `ohms` (R111). -/
  | rawLevelChange (line : Fin 8) (ohms : Nat)
  | debounceExpiry (line : Fin 8)
  | minOnExpiry (out : Fin 2)
  | minOffExpiry (out : Fin 2)
  /-- The end of the nonvolatile write, with whether its verify matches (R167). -/
  | saveComplete (verified : Bool)
  /-- One good character, after `silence` ticks since the previous byte's stop bit ended (R153). -/
  | byteReceived (byte : Byte) (silence : Nat)
  /-- The line was sampled at one level for a further run of ticks (R79): the filtered level changes when they bring its
  differing ticks to 25, and is left as it was when they do not. -/
  | filteredLevelChange (port : Fin 24) (line : PinLine) (samples : SampleRun)
  | powerLoss
  deriving DecidableEq, Repr

/-- The kind codes of Table 10-3. -/
def knownKinds : List Byte :=
  [0x01, 0x02, 0x10, 0x11, 0x12, 0x13, 0x14, 0x15, 0x16, 0x17, 0x18, 0x19,
   0x20, 0x21, 0x22, 0x23, 0x24, 0x25, 0x26, 0x27, 0x30, 0x31, 0x32]

end Sys2Proof
end

