-- ==== Sys2Proof/Decode.lean ====
section
/-! DEFINITION. The command a word of spec/opcode_table.json spells. The table gives no row any bits: the commands of this
block are the requests of its line and the events at its timers and pins, so no word spells one. What the bytes of the
line mean is Machine/Frame.lean. -/

namespace Sys2Proof

/-- The command that an `nbits` wide word `w` spells by the table's bits: none, since no row has bits. -/
def decodeTableWord (_nbits _w : Nat) : Option Instr := none

end Sys2Proof
end

