-- ==== Sys2Proof/Machine/Records.lean ====
section
/-! DEFINITION. The records of the eleven blocks (Table 0-1), as plain data, with the codes the line carries for their
enumerated values (R164). Times are in ticks of the reference clock; a running timer is held as the tick it expires at. -/

namespace Sys2Proof.Machine

/-- A set of qualifiers (00_scope.md 3.5). -/
structure Quals where
  clamped   : Bool := false
  held      : Bool := false
  saturated : Bool := false
  lowDew    : Bool := false
  deriving DecidableEq, Repr

/-- Kind of a point (R58). -/
inductive PointKind where
  | off
  | air
  | surface
  deriving DecidableEq, Repr

/-- Health of a point (Table 4-5). -/
inductive Health where
  | off
  | new
  | good
  | holding
  | fault
  deriving DecidableEq, Repr

/-- Purge phase of a point (Table 6-1). -/
inductive Phase where
  | none
  | waiting
  | heating
  | recovering
  | soaked
  deriving DecidableEq, Repr

/-- Cause of a failed conversion (Table 4-3). -/
inductive FailCause where
  | fWindow
  | dWindow
  | dDuty
  | rhBand
  deriving DecidableEq, Repr

/-- Risk state of a surface (Table 3-1). -/
inductive RiskState where
  | unused
  | dry
  | watch
  | near
  | dew
  | wet
  | unknown
  deriving DecidableEq, Repr

/-- Combination mode of a surface (R11). -/
inductive CombineMode where
  | worst
  | mean
  | first
  deriving DecidableEq, Repr

/-- Trip level of an output line (Table 9-4). -/
inductive TripLevel where
  | watch
  | near
  | dew
  | wet
  deriving DecidableEq, Repr

/-- Contact sense of an output line (Table 9-4). -/
inductive ContactSense where
  | closedOnDemand
  | openOnDemand
  deriving DecidableEq, Repr

/-- State of an output line (Table 9-5). -/
inductive LineState where
  | off
  | on
  | onHeld
  | offHeld
  deriving DecidableEq, Repr

/-- Mode of the sweep controller (Table 8-1). -/
inductive SweepMode where
  | stopped
  | continuous
  deriving DecidableEq, Repr

/-- Origin of a purge queue entry (R98). -/
inductive PurgeOrigin where
  | auto
  | manual
  deriving DecidableEq, Repr

/-- Kind of a notice (Table 9-2). -/
inductive NoticeKind where
  | startup
  | surface
  | trend
  | point
  | wetline
  | overrun
  | saved
  | snapshot
  deriving DecidableEq, Repr

/-- Status of a reply (Table 10-4). -/
inductive Status where
  | ok
  | okAdjusted
  | unknownKind
  | badLength
  | badIndex
  | badValue
  | busy
  | badState
  | stillWet
  deriving DecidableEq, Repr

/-- State of the receiver (Table 10-2). -/
inductive Receiver where
  | hunt
  | frame
  | answer
  deriving DecidableEq, Repr

/-- Whether the part has supply, and whether RESETn holds it (R169): no supply with RESETn high or low, supply with RESETn
low, and supply with RESETn high. -/
inductive Power where
  | off
  | offHeld
  | held
  | running
  deriving DecidableEq, Repr

/-- Configuration of a point (Table 4-1). -/
structure PointCfg where
  kind    : PointKind
  cDry    : Nat
  cWet    : Nat
  tOffset : Int
  deriving DecidableEq, Repr

/-- A member of an air list (R17). -/
structure Member where
  point  : Fin 24
  weight : Nat
  deriving DecidableEq, Repr

/-- Configuration of a surface (Table 2-1). -/
structure SurfaceCfg where
  enabled        : Bool
  surfacePoint   : Fin 24
  airList        : List Member
  mode           : CombineMode
  watch          : Int
  alarm          : Int
  hysteresis     : Int
  riseCount      : Nat
  fallCount      : Nat
  holdSweeps     : Nat
  wetLine        : Option (Fin 8)
  forecastSweeps : Nat
  deriving DecidableEq, Repr

/-- The global settings record (Table 10-9). -/
structure GlobalCfg where
  faultCount   : Nat
  nF           : Nat
  nD           : Nat
  window       : Nat
  satCount     : Nat
  maxPurges    : Nat
  heaterDuty   : Nat
  purgeTime    : Nat
  recoveryTime : Nat
  deriving DecidableEq, Repr

/-- Configuration of an output line (Table 9-4); bit n of `members` stands for surface Sn. -/
structure OutputCfg where
  members      : BitVec 16
  tripLevel    : TripLevel
  unknownTrips : Bool
  minOn        : Nat
  minOff       : Nat
  contact      : ContactSense
  deriving DecidableEq, Repr

/-- The wet-line configuration (R118). -/
structure WetCfg where
  enabled  : Vector Bool 8
  debounce : Nat
  deriving DecidableEq, Repr

/-- A configuration image (R165). -/
structure Image where
  points    : Vector PointCfg 24
  surfaces  : Vector SurfaceCfg 16
  globals   : GlobalCfg
  wet       : WetCfg
  outputs   : Vector OutputCfg 2
  startMode : SweepMode
  interval  : Nat
  deriving DecidableEq, Repr

/-- The reading group of an AIR point (R59) with the qualifier set of each value. -/
structure AirReading where
  rh   : Nat
  rhQ  : Quals
  t    : Int
  tQ   : Quals
  tc   : Int
  e    : Nat
  td   : Int
  dewQ : Quals
  deriving DecidableEq, Repr

/-- The reading group of a point: its members are present together or absent together (R59). -/
inductive Readings where
  | absent
  | air (r : AirReading)
  | surface (t : Int) (tQ : Quals)
  deriving DecidableEq, Repr

/-- A frozen dew point with the Tc recorded beside it (R99). -/
structure Frozen where
  td : Int
  tc : Int
  q  : Quals
  deriving DecidableEq, Repr

/-- The runtime part of a point (Table 4-2). -/
structure PointRun where
  health      : Health
  phase       : Phase
  failRun     : Nat
  satRun      : Nat
  purgeCount  : Nat
  readings    : Readings
  frozen      : Option Frozen
  lastGood    : Option SweepNo
  lastFailure : Option (FailCause × SweepNo)
  deriving DecidableEq, Repr

/-- A point record: the working configuration and the runtime part. Its written configuration is in the written image. -/
structure PointRec where
  cfg : PointCfg
  run : PointRun
  deriving DecidableEq, Repr

/-- The working copies of the global settings that are adopted at a sweep start (R71, R80, R110). -/
structure WorkGlobals where
  faultCount : Nat
  satCount   : Nat
  maxPurges  : Nat
  nF         : Nat
  nD         : Nat
  window     : Nat
  deriving DecidableEq, Repr

/-- The current values of a surface, present together (R18). -/
structure Values where
  sweep   : SweepNo
  ts      : Int
  tsQ     : Quals
  td      : Int
  tdQ     : Quals
  margin  : Int
  marginQ : Quals
  deriving DecidableEq, Repr

/-- The runtime part of a surface (Table 2-2). -/
structure SurfaceRun where
  state     : RiskState
  riseRun   : Nat
  fallRun   : Nat
  heldAge   : Nat
  live      : Bool
  values    : Option Values
  ring      : List Int
  forecast  : Option Nat
  trendFlag : Bool
  deriving DecidableEq, Repr

/-- A surface record: the working configuration and the runtime part. Its written configuration is in the written image. -/
structure SurfaceRec where
  cfg : SurfaceCfg
  run : SurfaceRun
  deriving DecidableEq, Repr

/-- An entry of the ranking list (R53). -/
structure RankEntry where
  surface : Fin 16
  state   : RiskState
  margin  : Int
  held    : Bool
  deriving DecidableEq, Repr

/-- The ranking list with the sweep number of its latest rebuild (R53). -/
structure Ranking where
  sweep   : SweepNo
  entries : List RankEntry
  deriving DecidableEq, Repr

/-- A capture job (R81). -/
structure Job where
  port : Fin 24
  line : PinLine
  n    : Nat
  deriving DecidableEq, Repr

/-- A capture unit (Table 5-3). `takenAt` is the tick the job was taken at, `windowEnds` the tick its window expires at. -/
inductive CaptureUnit where
  | idle
  | armed (job : Job) (takenAt windowEnds : Nat)
  | counting (job : Job) (windowEnds periods total high : Nat)
  deriving DecidableEq, Repr

/-- The outcome of a capture job that the point unit is handed (Table 5-4). -/
inductive JobOutcome where
  | fDone (c64 : Nat)
  | dDone (total high : Nat)
  | failed (cause : FailCause)
  deriving DecidableEq, Repr

/-- An outcome handed on, kept until its point is converted (R88). -/
structure EndedJob where
  port    : Fin 24
  line    : PinLine
  outcome : JobOutcome
  deriving DecidableEq, Repr

/-- The level filter of one probe line (R79): its filtered level, the level sampled last, the number of consecutive ticks up
to tick `sampledAt` at which the sampled level has differed from the filtered one, and that tick. `resting` is set while the
line has rested HIGH since the power-on, sampled at HIGH at every tick (R93). -/
structure LineFilter where
  level     : PinLevel
  sampled   : PinLevel
  differing : Nat
  sampledAt : Nat
  resting   : Bool
  deriving DecidableEq, Repr

/-- The capture block: the job queue, the four units, the filters of the 24 F and the 24 D lines and the outcomes of the sweep
in flight whose points are not converted yet. -/
structure Capture where
  queue    : List Job
  units    : Vector CaptureUnit 4
  fFilter  : Vector LineFilter 24
  dFilter  : Vector LineFilter 24
  outcomes : List EndedJob
  deriving DecidableEq, Repr

/-- An entry of the purge queue (R98). -/
structure PurgeEntry where
  point  : Fin 24
  origin : PurgeOrigin
  deriving DecidableEq, Repr

/-- A heater grant held by a point, with its PWM period and its purge timer (R98, R101). `duty` is the duty the period in
progress runs with, `energised` whether the heater line is on. -/
structure Grant where
  point       : Fin 24
  duty        : Nat
  energised   : Bool
  periodStart : Nat
  purgeEnds   : Nat
  deriving DecidableEq, Repr

/-- The purge controller (R98): the grants held (at most two), the purge queue and the recovery timers. -/
structure Purge where
  grants   : List Grant
  queue    : List PurgeEntry
  recovery : Vector (Option Nat) 24
  deriving DecidableEq, Repr

/-- A wet line (Table 7-1). Its enabled value is in the written image. -/
structure WetLine where
  raw       : Option WetLevel
  timer     : Option Nat
  debounced : Option WetLevel
  latch     : Bool
  deriving DecidableEq, Repr

/-- A point as the snapshot records it (R134). -/
structure SnapPoint where
  kind   : PointKind
  health : Health
  phase  : Phase
  rh     : Option (Nat × Quals)
  t      : Option (Int × Quals)
  td     : Option (Int × Quals)
  frozen : Option (Int × Quals)
  deriving DecidableEq, Repr

/-- A surface as the snapshot records it (R134). -/
structure SnapSurface where
  state  : RiskState
  live   : Bool
  margin : Option (Int × Quals)
  ts     : Option (Int × Quals)
  td     : Option (Int × Quals)
  deriving DecidableEq, Repr

/-- A snapshot with its sweep number (R134). -/
structure Snapshot where
  sweep    : SweepNo
  points   : Vector SnapPoint 24
  surfaces : Vector SnapSurface 16
  deriving DecidableEq, Repr

/-- The sweep controller (Table 8-1). -/
structure Sweep where
  mode         : SweepMode
  interval     : Nat
  pendingIv    : Option Nat
  timer        : Option Nat
  inFlight     : Bool
  number       : SweepNo
  overrunCount : Nat
  arm          : Bool
  snapSweep    : Option SweepNo
  buffer       : Option Snapshot
  ready        : Bool
  deriving DecidableEq, Repr

/-- A notice (Table 9-1). -/
structure Notice where
  kind      : NoticeKind
  subject   : Nat
  fromValue : Nat
  toValue   : Nat
  sweep     : SweepNo
  value     : Int
  quals     : Quals
  deriving DecidableEq, Repr

/-- The notice queue (R136). -/
structure NoticeQueue where
  list     : List Notice
  overflow : Bool
  deriving DecidableEq, Repr

/-- An output line with its two timers (R142). -/
structure OutLine where
  state  : LineState
  minOn  : Option Nat
  minOff : Option Nat
  deriving DecidableEq, Repr

/-- The reply in progress (R156), assembled at the request event. `sending` is set from its first bit to its last, while
RSDE is driven (R152). -/
structure Reply where
  kind    : Byte
  status  : Status
  summary : List Byte
  payload : List Byte
  sending : Bool
  deriving DecidableEq, Repr

/-- The link controller (R152, R153, R161). `secondEnds` is the tick the next whole second passes at. -/
structure Link where
  address    : BitVec 5
  baud1      : Bool
  baud0      : Bool
  receiver   : Receiver
  buffer     : List Byte
  reply      : Option Reply
  seconds    : BitVec 32
  secondEnds : Nat
  deriving DecidableEq, Repr

/-- A configuration image followed by its CRC-16 (R165). -/
structure SavedImage where
  image : Image
  crc   : BitVec 16
  deriving DecidableEq, Repr

/-- The configuration store (R165). A saved image that is invalid is absent. `nv` is the content of the nonvolatile memory,
absent when no SAVE has left an image there that can pass its check: none was made, its verify failed, or it was cut short
(R167, R169). `saving` is the copy of a SAVE in flight. -/
structure Store where
  written : Image
  saved   : Option SavedImage
  nv      : Option SavedImage
  dirty   : Bool
  nvFault : Bool
  saving  : Option Image
  deriving DecidableEq, Repr

/-- What the owning block of a request gives back (R155). -/
structure Answer where
  status  : Status
  payload : List Byte
  deriving DecidableEq, Repr

end Sys2Proof.Machine
end

