-- ==== Sys2Proof/Machine/Flags.lean ====
section
/-! DEFINITION. Qualifier sets, the codes of enumerated values, and the severity order of the risk states. -/

namespace Sys2Proof.Machine

/-- Union of qualifier sets (R9, R12, R13). -/
def Quals.union (a b : Quals) : Quals :=
  { clamped := a.clamped || b.clamped, held := a.held || b.held
    saturated := a.saturated || b.saturated, lowDew := a.lowDew || b.lowDew }

/-- The set with HELD added (R23, R66). -/
def Quals.addHeld (q : Quals) : Quals := { q with held := true }

/-- The set of a frozen dew point: HELD and SATURATED added (R99). -/
def Quals.freeze (q : Quals) : Quals := { q with held := true, saturated := true }

/-- A flag as the bit of weight `w`. -/
def flagBit (b : Bool) (w : Nat) : Nat := if b then w else 0

/-- The low four bits of the qualifier byte (Table 10-8). -/
def Quals.bits (q : Quals) : Nat :=
  flagBit q.clamped 1 + flagBit q.held 2 + flagBit q.saturated 4 + flagBit q.lowDew 8

/-- Kind codes (R164). -/
def PointKind.code : PointKind → Nat
  | .off => 0
  | .air => 1
  | .surface => 2

/-- Health codes (Table 4-5). -/
def Health.code : Health → Nat
  | .off => 0
  | .new => 1
  | .good => 2
  | .holding => 3
  | .fault => 4

/-- Phase codes (Table 6-1). -/
def Phase.code : Phase → Nat
  | .none => 0
  | .waiting => 1
  | .heating => 2
  | .recovering => 3
  | .soaked => 4

/-- Cause codes (Table 4-3). -/
def FailCause.code : FailCause → Nat
  | .fWindow => 1
  | .dWindow => 2
  | .dDuty => 3
  | .rhBand => 4

/-- State codes (Table 3-1). -/
def RiskState.code : RiskState → Nat
  | .unused => 0
  | .dry => 1
  | .watch => 2
  | .near => 3
  | .dew => 4
  | .wet => 5
  | .unknown => 6

/-- Mode codes (R164). -/
def CombineMode.code : CombineMode → Nat
  | .worst => 0
  | .mean => 1
  | .first => 2

/-- The risk state a trip level names (Table 9-4). -/
def TripLevel.risk : TripLevel → RiskState
  | .watch => .watch
  | .near => .near
  | .dew => .dew
  | .wet => .wet

/-- Contact sense codes (R164). -/
def ContactSense.code : ContactSense → Nat
  | .closedOnDemand => 0
  | .openOnDemand => 1

/-- Line state codes (Table 9-5). -/
def LineState.code : LineState → Nat
  | .off => 0
  | .on => 1
  | .onHeld => 2
  | .offHeld => 3

/-- Sweep mode codes (R161). -/
def SweepMode.code : SweepMode → Nat
  | .stopped => 0
  | .continuous => 1

/-- Notice kind codes (Table 9-2). -/
def NoticeKind.code : NoticeKind → Nat
  | .startup => 1
  | .surface => 2
  | .trend => 3
  | .point => 4
  | .wetline => 5
  | .overrun => 6
  | .saved => 7
  | .snapshot => 8

/-- Status codes (Table 10-4). -/
def Status.code : Status → Nat
  | .ok => 0
  | .okAdjusted => 1
  | .unknownKind => 2
  | .badLength => 3
  | .badIndex => 4
  | .badValue => 5
  | .busy => 6
  | .badState => 7
  | .stillWet => 8

/-- Level codes (Table 7-2): 0 when absent. -/
def wetLevelCode : Option WetLevel → Nat
  | none => 0
  | some .dry => 1
  | some .wet => 2
  | some .openTape => 3

/-- NO is 0 and YES is 1 (R164). -/
def boolCode (b : Bool) : Nat := if b then 1 else 0

/-- Position in the severity order of R35; 0 for the two states that stand outside it. -/
def RiskState.severity : RiskState → Nat
  | .unused => 0
  | .unknown => 0
  | .dry => 1
  | .watch => 2
  | .near => 3
  | .dew => 4
  | .wet => 5

/-- `a` is above `b` in the order of R35. -/
def RiskState.above (a b : RiskState) : Bool := b.severity < a.severity

/-- The lower of two states of the order (R39). -/
def RiskState.lower (a b : RiskState) : RiskState := if a.above b then b else a

/-- The condition code of a point (R70): 10 × health + phase. -/
def PointRun.condition (r : PointRun) : Nat := 10 * r.health.code + r.phase.code

end Sys2Proof.Machine
end

