-- ==== Sys2Proof/Machine/Arith.lean ====
section
/-! DEFINITION. The arithmetic of Chapter 1 and of the conversions: rounding, the saturation table, the five stages of the
dew-point calculator, the combination modes, the margin and its raw level. -/

namespace Sys2Proof.Machine

/-- R1: the quotient a/b rounded, for b above 0: the floor of (2a + b) / (2b). -/
def roundDiv (a b : Int) : Int := (2 * a + b) / (2 * b)

/-- R1: the ceiling of a/b, for b above 0. -/
def ceilDiv (a b : Nat) : Nat := (a + b - 1) / b

/-- Table 1-2: E[0] to E[30], in Pa. -/
def vapourTable : List Nat :=
  [287, 336, 391, 455, 528, 611, 706, 813, 934, 1071, 1226, 1400, 1595, 1814, 2059, 2333, 2637, 2977, 3353, 3771, 4234,
   4745, 5309, 5931, 6616, 7367, 8192, 9096, 10085, 11166, 12345]

/-- E[k] (R2). -/
def vapourAt (k : Nat) : Nat := vapourTable.getD k 0

/-- Stage 1 (R4): the clamped temperature. -/
def clampTemp (t : Int) : Int := max (-1000) (min 5000 t)

/-- Stage 2 (R5): the interval that holds tc. -/
def tableInterval (tc : Int) : Nat := min 29 ((tc + 1000) / 200).toNat

/-- Stage 2 (R5): the saturation vapour pressure at tc. -/
def satPressure (tc : Int) : Int :=
  let i := tableInterval tc
  let r := tc + 1000 - 200 * i
  vapourAt i + roundDiv (((vapourAt (i + 1) : Int) - vapourAt i) * r) 200

/-- Stage 3 (R6): the vapour pressure of the air. -/
def airPressure (es : Int) (rh : Nat) : Int := roundDiv (es * rh) 10000

/-- Stage 4 (R7): the largest j in 0..29 with E[j] ≤ e. -/
def inverseInterval (e : Int) : Nat :=
  (List.range 30).foldl (fun j k => if (vapourAt k : Int) ≤ e then k else j) 0

/-- Stage 4 (R7): the raw dew point and whether the table floor was taken. -/
def rawDewPoint (e : Int) : Int × Bool :=
  if e < vapourAt 0 then (-1000, true)
  else if (vapourAt 30 : Int) ≤ e then (5000, false)
  else
    let j := inverseInterval e
    (-1000 + 200 * j + roundDiv (200 * (e - vapourAt j)) ((vapourAt (j + 1) : Int) - vapourAt j), false)

/-- What the calculator returns to the point unit (R3). -/
structure DewPoint where
  tc : Int
  e  : Int
  td : Int
  q  : Quals
  deriving DecidableEq, Repr

/-- The dew-point calculator (R3 to R9): stages 1 to 5, each on the result of the one before. -/
def dewPoint (t : Int) (rh : Nat) (rhQ : Quals) : DewPoint :=
  let tc := clampTemp t
  let e := airPressure (satPressure tc) rh
  let raw := rawDewPoint e
  { tc := tc, e := e, td := min raw.1 tc
    q := { clamped := rhQ.clamped || decide (tc ≠ t), held := rhQ.held, saturated := rhQ.saturated
           lowDew := rhQ.lowDew || raw.2 } }

/-- What a usable air member brings to the combination (Section 1.4). -/
structure Contribution where
  weight : Nat
  td     : Int
  q      : Quals
  deriving DecidableEq, Repr

/-- R12: the union of the qualifier sets of the contributing members. -/
def unionQuals (ms : List Contribution) : Quals := ms.foldl (fun q m => q.union m.q) {}

/-- R10 to R12: the combined dew point of the usable members, in list order, with its qualifier set. -/
def combine (mode : CombineMode) (ms : List Contribution) : Option (Int × Quals) :=
  match ms with
  | [] => none
  | m :: rest =>
    match mode with
    | .first => some (m.td, m.q)
    | .worst => some (rest.foldl (fun a x => max a x.td) m.td, unionQuals ms)
    | .mean =>
      some (roundDiv ((ms.map fun x => (x.weight : Int) * x.td).sum) ((ms.map fun x => (x.weight : Int)).sum),
        unionQuals ms)

/-- R37: the raw level of a margin against watch and alarm. -/
def rawLevel (c : SurfaceCfg) (m : Int) : RiskState :=
  if m ≤ 0 then .dew else if m < c.alarm then .near else if m < c.watch then .watch else .dry

/-- R61: the raw RH of an F count. -/
def rawRh (c : PointCfg) (c64 : Nat) : Int :=
  roundDiv (10000 * ((c64 : Int) - c.cDry)) ((c.cWet : Int) - c.cDry)

/-- R61: the raw RH lies in band. -/
def rhInBand (raw : Int) : Bool := -2500 ≤ raw && raw ≤ 12500

/-- R61: the measured RH of a raw RH in band. -/
def measuredRh (raw : Int) : Nat := (max 0 (min 10000 raw)).toNat

/-- R61: the qualifier set of the measured RH. -/
def measuredRhQuals (raw : Int) : Quals := { clamped := decide (raw < 0) || decide (10000 < raw) }

/-- R62: the temperature of a D job. -/
def temperature (c : PointCfg) (total high : Nat) : Int :=
  roundDiv (15000 * (high : Int)) total - 5000 + c.tOffset

/-- R86: the F count normalised to 64 periods. -/
def normalise64 (ticks n : Nat) : Nat := (roundDiv ((ticks : Int) * 64) n).toNat

/-- R87: the duty of a D job is below 2 % or above 98 %. -/
def dutyBad (total high : Nat) : Bool := 50 * high < total || 49 * total < 50 * high

/-- R48: the forecast of a trend ring, oldest first. -/
def forecastOf (ring : List Int) : Option Nat :=
  if ring.length < 8 then none
  else
    let newest := ring.getLastD 0
    let drop := ring.headD 0 - newest
    if newest ≤ 0 then some 0
    else if 1 ≤ drop then some (min 255 (ceilDiv (newest * 7).toNat drop.toNat))
    else none

end Sys2Proof.Machine
end

