-- ==== Sys2Proof/Config.lean ====
section
/-! DEFINITION. What an installation or the model fixes once: the rate of the reference clock in the units the rules
use, and the straps and tape levels that the state after reset stands for (assumption 2). The spec leaves no result of an
operation undefined, so there is no free value here. -/

namespace Sys2Proof.Config

/-- Ticks of the 4 MHz reference clock in one second (00_scope.md, 3.1). -/
def ticksPerSecond : Nat := 4000000

/-- Ticks in one tenth of a second, the unit of the debounce time (Chapter 7, 7.1). -/
def ticksPerTenth : Nat := 400000

/-- Ticks in one millisecond, the unit of the capture window (Table 5-2). -/
def ticksPerMs : Nat := 4000

/-- Ticks that one per cent of heater duty lasts: 10 ms (R101). -/
def ticksPerDutyPercent : Nat := 40000

/-- Consecutive ticks a sampled level differs before the filtered level takes it (R79): 6.25 µs. -/
def filterTicks : Nat := 25

/-- The longest silence inside a frame, 3.0 ms in ticks (R153). -/
def maxSilence : Nat := 12000

/-- DESIGN CHOICE (assumption 2): the address the state after reset is strapped to. -/
def resetAddress : BitVec 5 := 1

end Sys2Proof.Config
end

