-- ==== Sys2Proof/Machine/Defaults.lean ====
section
/-! DEFINITION. The factory defaults (Table 11-1) and the values each block takes at power-on, at the reset pin and, for the
runtime parts, at RESTART, as each chapter gives them. -/

namespace Sys2Proof.Machine

/-- Table 11-1, a point. -/
def PointCfg.factory : PointCfg := { kind := .off, cDry := 30000, cWet := 36000, tOffset := 0 }

/-- Table 11-1, a surface. -/
def SurfaceCfg.factory : SurfaceCfg :=
  { enabled := false, surfacePoint := 0, airList := [{ point := 0, weight := 1 }], mode := .worst
    watch := 500, alarm := 200, hysteresis := 50, riseCount := 2, fallCount := 4, holdSweeps := 3
    wetLine := none, forecastSweeps := 12 }

/-- Table 11-1, the global settings. -/
def GlobalCfg.factory : GlobalCfg :=
  { faultCount := 2, nF := 64, nD := 4, window := 250, satCount := 3, maxPurges := 3
    heaterDuty := 75, purgeTime := 60, recoveryTime := 180 }

/-- Table 11-1, OUT_A. -/
def OutputCfg.factoryA : OutputCfg :=
  { members := 0, tripLevel := .near, unknownTrips := false, minOn := 300, minOff := 300, contact := .closedOnDemand }

/-- Table 11-1, OUT_B. -/
def OutputCfg.factoryB : OutputCfg :=
  { members := 0, tripLevel := .dew, unknownTrips := true, minOn := 0, minOff := 0, contact := .openOnDemand }

/-- Table 11-1, the wet lines. -/
def WetCfg.factory : WetCfg := { enabled := Vector.replicate 8 false, debounce := 20 }

/-- Table 11-1, the whole image. -/
def Image.factory : Image :=
  { points := Vector.replicate 24 .factory, surfaces := Vector.replicate 16 .factory, globals := .factory
    wet := .factory, outputs := #v[.factoryA, .factoryB], startMode := .stopped, interval := 10 }

/-- The health a point starts afresh with (R72, R73): OFF for kind OFF, else NEW. -/
def PointKind.startHealth : PointKind → Health
  | .off => .off
  | _ => .new

/-- The runtime part of a point after the resets (R73, R74). -/
def PointRun.fresh (k : PointKind) : PointRun :=
  { health := k.startHealth, phase := .none, failRun := 0, satRun := 0, purgeCount := 0, readings := .absent
    frozen := none, lastGood := none, lastFailure := none }

/-- A point record on a configuration just taken at power-on (R73). -/
def PointRec.fresh (c : PointCfg) : PointRec := { cfg := c, run := .fresh c.kind }

/-- The runtime part of a surface with cleared values, runs and ring and held_age 0 (R18, R30). -/
def SurfaceRun.cleared (st : RiskState) : SurfaceRun :=
  { state := st, riseRun := 0, fallRun := 0, heldAge := 0, live := false, values := none, ring := []
    forecast := none, trendFlag := false }

/-- A surface record on a configuration just taken at power-on (R30). -/
def SurfaceRec.fresh (c : SurfaceCfg) : SurfaceRec :=
  { cfg := c, run := .cleared (if c.enabled then .unknown else .unused) }

/-- The working global settings taken from an image (R73, R80, R109). -/
def GlobalCfg.work (g : GlobalCfg) : WorkGlobals :=
  { faultCount := g.faultCount, satCount := g.satCount, maxPurges := g.maxPurges, nF := g.nF, nD := g.nD
    window := g.window }

/-- A level filter at a power-on that ends at tick `now`: its filtered level is LOW, and it has sampled nothing yet (R79,
R93). -/
def LineFilter.fresh (now : Nat) : LineFilter :=
  { level := .low, sampled := .low, differing := 0, sampledAt := now, resting := true }

/-- The capture block at a power-on that ends at tick `now` (R93). -/
def Capture.fresh (now : Nat) : Capture :=
  { queue := [], units := Vector.replicate 4 .idle, fFilter := Vector.replicate 24 (.fresh now)
    dFilter := Vector.replicate 24 (.fresh now), outcomes := [] }

/-- The purge controller at power-on (R109). -/
def Purge.fresh : Purge := { grants := [], queue := [], recovery := Vector.replicate 24 none }

/-- The sweep controller at power-on, before the last start-up step (R121). -/
def Sweep.fresh (m : SweepMode) (interval : Nat) : Sweep :=
  { mode := m, interval := interval, pendingIv := none, timer := none, inFlight := false, number := 0
    overrunCount := 0, arm := false, snapSweep := none, buffer := none, ready := false }

/-- The ranking list after the resets (R55). -/
def Ranking.fresh : Ranking := { sweep := 0, entries := [] }

/-- The notice queue after the resets (R141). -/
def NoticeQueue.fresh : NoticeQueue := { list := [], overflow := false }

/-- An output line after the resets (R149). -/
def OutLine.fresh : OutLine := { state := .off, minOn := none, minOff := none }

/-- A wet line at power-on, before its first classification (R111, R120). -/
def WetLine.fresh : WetLine := { raw := none, timer := none, debounced := none, latch := false }

/-- A wet line at its first classification (R111): a raw level change, which starts the debounce of an enabled line. -/
def WetLine.classified (level : WetLevel) (enabled : Bool) (ends : Nat) : WetLine :=
  { WetLine.fresh with raw := some level, timer := if enabled then some ends else none }

/-- The link controller once the start-up sequence has finished at tick `now` (R152, R161, R169). -/
def Link.fresh (adr : BitVec 5) (baud1 baud0 : Bool) (now : Nat) : Link :=
  { address := adr, baud1 := baud1, baud0 := baud0, receiver := .hunt, buffer := [], reply := none
    seconds := 0, secondEnds := now + Config.ticksPerSecond }

/-- The STARTUP notice (R137): `cause` 1 for power-on and 2 for the reset pin, `load` 0 for a good image and 1 for factory
defaults. -/
def Notice.startup (cause load : Nat) : Notice :=
  { kind := .startup, subject := 0, fromValue := cause, toValue := load, sweep := 0, value := 0, quals := {} }

end Sys2Proof.Machine
end

