-- ==== Sys2Proof/Machine/Operands.lean ====
section
/-! DEFINITION. The fields of payloads and records (R164): multi-byte fields high byte first, signed fields in two's
complement; limiting a number to its range (3.6); reading the configuration records of the write requests; the CRC of R154. -/

namespace Sys2Proof.Machine

/-- One byte. -/
def u8 (n : Nat) : List Byte := [BitVec.ofNat 8 n]

/-- Two bytes, high byte first. -/
def u16 (n : Nat) : List Byte := [BitVec.ofNat 8 (n / 256), BitVec.ofNat 8 n]

/-- Four bytes, high byte first. -/
def u32 (n : Nat) : List Byte :=
  [BitVec.ofNat 8 (n / 16777216), BitVec.ofNat 8 (n / 65536), BitVec.ofNat 8 (n / 256), BitVec.ofNat 8 n]

/-- A signed 16-bit field in two's complement. -/
def s16 (i : Int) : List Byte := u16 (BitVec.ofInt 16 i).toNat

/-- Byte `k` of a payload, 0 beyond its end. -/
def byteAt (p : List Byte) (k : Nat) : Nat := (p.getD k 0).toNat

/-- The unsigned 16-bit field at offset `k`. -/
def u16At (p : List Byte) (k : Nat) : Nat := byteAt p k * 256 + byteAt p (k + 1)

/-- The signed 16-bit field at offset `k`. -/
def s16At (p : List Byte) (k : Nat) : Int := (BitVec.ofNat 16 (u16At p k)).toInt

/-- A number limited to lo..hi (3.6). -/
def limitNat (lo hi x : Nat) : Nat := max lo (min hi x)

/-- A signed number limited to lo..hi (3.6). -/
def limitInt (lo hi x : Int) : Int := max lo (min hi x)

/-- OK when what was stored is what was written, OK_ADJUSTED when a field was limited (R158). -/
def writeStatus (limited : Bool) : Status := if limited then .okAdjusted else .ok

/-- A NO/YES byte is one of the two codes. -/
def isBoolCode (n : Nat) : Bool := n ≤ 1

/-- Kind of a POINT_WRITE record, when its code is one of the set (R75). -/
def pointKindOf (n : Nat) : Option PointKind :=
  match n with
  | 0 => some .off
  | 1 => some .air
  | 2 => some .surface
  | _ => none

/-- Mode of a SURFACE_WRITE record, when its code is one of the set (R32). -/
def combineModeOf (n : Nat) : Option CombineMode :=
  match n with
  | 0 => some .worst
  | 1 => some .mean
  | 2 => some .first
  | _ => none

/-- Trip level of an OUTPUT_WRITE record, carried as its state code (R164). -/
def tripLevelOf (n : Nat) : Option TripLevel :=
  match n with
  | 2 => some .watch
  | 3 => some .near
  | 4 => some .dew
  | 5 => some .wet
  | _ => none

/-- Contact sense of an OUTPUT_WRITE record. -/
def contactOf (n : Nat) : Option ContactSense :=
  match n with
  | 0 => some .closedOnDemand
  | 1 => some .openOnDemand
  | _ => none

/-- R76: a point configuration with its numeric fields limited. -/
def PointCfg.limit (c : PointCfg) : PointCfg :=
  { c with cDry := limitNat 1000 60000 c.cDry, cWet := limitNat 1000 60000 c.cWet
           tOffset := limitInt (-500) 500 c.tOffset }

/-- R33: a surface configuration with its numeric fields limited, alarm against watch as limited. -/
def SurfaceCfg.limit (c : SurfaceCfg) : SurfaceCfg :=
  { c with
    airList := c.airList.map fun m => { m with weight := limitNat 1 15 m.weight }
    watch := limitInt 50 1500 c.watch
    alarm := limitInt 10 (limitInt 50 1500 c.watch) c.alarm
    hysteresis := limitInt 0 300 c.hysteresis
    riseCount := limitNat 1 8 c.riseCount
    fallCount := limitNat 1 16 c.fallCount
    holdSweeps := limitNat 0 15 c.holdSweeps
    forecastSweeps := limitNat 0 60 c.forecastSweeps }

/-- R78, R94, R110: the global settings with every field but the divisors limited. -/
def GlobalCfg.limit (g : GlobalCfg) : GlobalCfg :=
  { g with
    faultCount := limitNat 1 8 g.faultCount
    window := limitNat 20 500 g.window
    satCount := limitNat 1 10 g.satCount
    maxPurges := limitNat 1 5 g.maxPurges
    heaterDuty := limitNat 10 100 g.heaterDuty
    purgeTime := limitNat 10 600 g.purgeTime
    recoveryTime := limitNat 30 900 g.recoveryTime }

/-- R150: an output configuration with its two times limited. -/
def OutputCfg.limit (c : OutputCfg) : OutputCfg :=
  { c with minOn := limitNat 0 3600 c.minOn, minOff := limitNat 0 3600 c.minOff }

/-- R118: a wet-line configuration with its debounce time limited. -/
def WetCfg.limit (c : WetCfg) : WetCfg := { c with debounce := limitNat 5 300 c.debounce }

/-- The configuration a POINT_WRITE payload of a given kind carries (Table 10-10). -/
def pointCfgAt (k : PointKind) (p : List Byte) : PointCfg :=
  { kind := k, cDry := u16At p 2, cWet := u16At p 4, tOffset := s16At p 6 }

/-- The member slot `j` of a SURFACE_WRITE payload (Table 10-11). -/
def memberAt (p : List Byte) (j : Nat) : Member :=
  { point := Fin.ofNat 24 (byteAt p (4 + 2 * j)), weight := byteAt p (5 + 2 * j) }

/-- The configuration a SURFACE_WRITE payload carries (Table 10-11), once its indexes and structure are checked. -/
def surfaceCfgAt (m : CombineMode) (p : List Byte) : SurfaceCfg :=
  { enabled := byteAt p 1 = 1
    surfacePoint := Fin.ofNat 24 (byteAt p 2)
    airList := (List.range (byteAt p 3)).map (memberAt p)
    mode := m
    watch := s16At p 13
    alarm := s16At p 15
    hysteresis := s16At p 17
    riseCount := byteAt p 19
    fallCount := byteAt p 20
    holdSweeps := byteAt p 21
    wetLine := if byteAt p 22 = 1 then some (Fin.ofNat 8 (byteAt p 23)) else none
    forecastSweeps := byteAt p 24 }

/-- R32 check 3: every index of a SURFACE_WRITE payload is in range. -/
def surfaceIndexesOk (p : List Byte) : Bool :=
  byteAt p 0 < 16 && byteAt p 2 < 24
    && (!(1 ≤ byteAt p 3 && byteAt p 3 ≤ 4) || (List.range (byteAt p 3)).all fun j => byteAt p (4 + 2 * j) < 24)
    && (!(byteAt p 22 = 1) || byteAt p 23 < 8)

/-- R32 check 4, but for the mode: enabled, the member count, the wet_line presence and the distinct points of the list. -/
def surfaceStructureOk (p : List Byte) : Bool :=
  isBoolCode (byteAt p 1) && (1 ≤ byteAt p 3 && byteAt p 3 ≤ 4) && isBoolCode (byteAt p 22)
    && decide ((List.range (byteAt p 3)).map fun j => byteAt p (4 + 2 * j)).Nodup

/-- The settings a GLOBAL_WRITE payload carries (Table 10-9). -/
def globalCfgAt (p : List Byte) : GlobalCfg :=
  { faultCount := byteAt p 0, nF := u16At p 1, nD := byteAt p 3, window := u16At p 4, satCount := byteAt p 6
    maxPurges := byteAt p 7, heaterDuty := byteAt p 8, purgeTime := u16At p 9, recoveryTime := u16At p 11 }

/-- R94: the divisors lie in their sets. -/
def GlobalCfg.divisorsOk (g : GlobalCfg) : Bool :=
  (g.nF = 16 || g.nF = 64 || g.nF = 256) && (g.nD = 1 || g.nD = 4 || g.nD = 16)

/-- The configuration an OUTPUT_WRITE payload carries (Table 10-13). -/
def outputCfgAt (t : TripLevel) (k : ContactSense) (p : List Byte) : OutputCfg :=
  { members := BitVec.ofNat 16 (u16At p 1), tripLevel := t, unknownTrips := byteAt p 4 = 1
    minOn := u16At p 5, minOff := u16At p 7, contact := k }

/-- The configuration a WETLINE_WRITE payload carries (Table 10-13). -/
def wetCfgAt (p : List Byte) : WetCfg :=
  { enabled := Vector.ofFn fun i => byteAt p i = 1, debounce := u16At p 8 }

/-- One bit of the CRC of R154: the generator is 0x1021, most significant bit first. -/
def crcBit (r : BitVec 16) : BitVec 16 := if r.msb then (r <<< 1) ^^^ 0x1021#16 else r <<< 1

/-- One byte of the CRC of R154. -/
def crcByte (r : BitVec 16) (b : Byte) : BitVec 16 :=
  let r0 := r ^^^ ((b.zeroExtend 16) <<< 8)
  crcBit (crcBit (crcBit (crcBit (crcBit (crcBit (crcBit (crcBit r0)))))))

/-- The CRC of a string of bytes (R154): the register starts at 0xFFFF. -/
def crc16 (bs : List Byte) : BitVec 16 := bs.foldl crcByte 0xFFFF#16

end Sys2Proof.Machine
end

