-- ==== Sys2Proof/Machine/Images.lean ====
section
/-! DEFINITION. The byte layouts of the configuration records (Section 10.8), and an image as the nonvolatile memory holds it:
those records one after another, followed by their CRC-16 (R165). -/

namespace Sys2Proof.Machine

/-- A configuration record of a point (Table 10-10). -/
def pointCfgRecord (p : Fin 24) (c : PointCfg) : List Byte :=
  u8 p ++ u8 c.kind.code ++ u16 c.cDry ++ u16 c.cWet ++ s16 c.tOffset

/-- A member slot of a surface record; zeros beyond the member count (R33). -/
def memberSlot (l : List Member) (j : Nat) : List Byte :=
  match l[j]? with
  | none => u8 0 ++ u8 0
  | some m => u8 m.point ++ u8 m.weight

/-- A configuration record of a surface (Table 10-11). -/
def surfaceCfgRecord (i : Fin 16) (c : SurfaceCfg) : List Byte :=
  u8 i ++ u8 (boolCode c.enabled) ++ u8 c.surfacePoint ++ u8 c.airList.length
    ++ (memberSlot c.airList 0 ++ memberSlot c.airList 1 ++ memberSlot c.airList 2 ++ memberSlot c.airList 3)
    ++ u8 c.mode.code ++ s16 c.watch ++ s16 c.alarm ++ s16 c.hysteresis
    ++ u8 c.riseCount ++ u8 c.fallCount ++ u8 c.holdSweeps
    ++ (match c.wetLine with
        | none => u8 0 ++ u8 0
        | some l => u8 1 ++ u8 l)
    ++ u8 c.forecastSweeps

/-- The global settings record (Table 10-9). -/
def globalRecord (g : GlobalCfg) : List Byte :=
  u8 g.faultCount ++ u16 g.nF ++ u8 g.nD ++ u16 g.window ++ u8 g.satCount ++ u8 g.maxPurges ++ u8 g.heaterDuty
    ++ u16 g.purgeTime ++ u16 g.recoveryTime

/-- An output configuration (Table 10-13). -/
def outputCfgRecord (o : Fin 2) (c : OutputCfg) : List Byte :=
  u8 o ++ u16 c.members.toNat ++ u8 c.tripLevel.risk.code ++ u8 (boolCode c.unknownTrips) ++ u16 c.minOn ++ u16 c.minOff
    ++ u8 c.contact.code

/-- The wet-line configuration (Table 10-13). -/
def wetCfgRecord (c : WetCfg) : List Byte :=
  (List.finRange 8).flatMap (fun i => u8 (boolCode c.enabled[i])) ++ u16 c.debounce

/-- The bytes of an image, its items in the order R165 lists them, each under its layout of Section 10.8 (assumption
21). Irreducible, so that no proof evaluates a CRC over it unasked. -/
@[irreducible] def Image.bytes (i : Image) : List Byte :=
  (List.finRange 24).flatMap (fun p => pointCfgRecord p i.points[p])
    ++ (List.finRange 16).flatMap (fun k => surfaceCfgRecord k i.surfaces[k])
    ++ globalRecord i.globals ++ wetCfgRecord i.wet
    ++ (List.finRange 2).flatMap (fun o => outputCfgRecord o i.outputs[o])
    ++ u8 i.startMode.code ++ u16 i.interval

/-- R165: an image followed by the CRC-16 computed over it. -/
def Image.seal (i : Image) : SavedImage := { image := i, crc := crc16 i.bytes }

/-- R169 step 3: the image passes its check when the CRC computed over it is the one read back, `flips` being the bits of the
stored CRC that read back wrong. -/
def SavedImage.passes (m : SavedImage) (flips : BitVec 16) : Bool := crc16 m.image.bytes = m.crc ^^^ flips

end Sys2Proof.Machine
end

