-- ==== Sys2Proof/Machine/State.lean ====
section
/-! DEFINITION. The state of the NF2416: one field for each block of Table 0-1, the clock the timers are read against, and the
queue of the commands that wait. -/

namespace Sys2Proof.Machine

/-- The whole machine. -/
structure State where
  /-- The model's clock, in ticks of the reference clock (assumption 1). -/
  now      : Nat
  power    : Power
  link     : Link
  store    : Store
  /-- The point table (R57). -/
  points   : Vector PointRec 24
  /-- The working copies of fault_count and of the capture and purge settings (R57, R80, R110). -/
  work     : WorkGlobals
  capture  : Capture
  purge    : Purge
  /-- The surface table (R16). -/
  surfaces : Vector SurfaceRec 16
  ranking  : Ranking
  /-- The wet lines W0 to W7 (Table 7-1). -/
  wet      : Vector WetLine 8
  sweep    : Sweep
  notices  : NoticeQueue
  /-- OUT_A and OUT_B (R142). -/
  outputs  : Vector OutLine 2
  /-- The commands that wait, first in, first out (assumption 17). -/
  pending  : List Instr
  deriving DecidableEq, Repr

/-- Why the machine stops with a fault. No rule of the spec stops the part, so there is no reason (assumption 3). -/
inductive Fault where
  deriving DecidableEq, Repr

/-- Why a command has no meaning. -/
inductive Refusal where
  /-- Raised by `exec` alone, for a command whose meaning is not written; no arm raises it in this model. Safe. -/
  | notModelled (mnemonic : String)
  deriving DecidableEq, Repr

/-- The machine right after the start-up sequence of a power-on (R169) on a part whose nonvolatile memory fails its check:
factory defaults, DIRTY and NV_FAULT set, the STARTUP notice in the queue. The straps and the tape levels that R152 and R111
read from outside stand at the values of assumption 2. -/
def State.reset : State :=
  { now := 0
    power := .running
    link := .fresh Config.resetAddress false false 0
    store := { written := .factory, saved := some Image.factory.seal, nv := none, dirty := true, nvFault := true, saving := none }
    points := Vector.replicate 24 (.fresh .factory)
    work := GlobalCfg.factory.work
    capture := .fresh 0
    purge := .fresh
    surfaces := Vector.replicate 16 (.fresh .factory)
    ranking := .fresh
    wet := Vector.replicate 8 (.classified .openTape false 0)
    sweep := .fresh .stopped 10
    notices := { list := [.startup 1 1], overflow := false }
    outputs := Vector.replicate 2 .fresh
    pending := [] }

end Sys2Proof.Machine
end

