-- ==== Sys2Proof/Machine/Ops.lean ====
section
/-! DEFINITION. The operations every block shares: the clock and its timers, the notice queue, and the single-record updates
of the tables. -/

namespace Sys2Proof.Machine

/-- The level filter of a probe line (R79). -/
def Capture.filter (c : Capture) (line : PinLine) (port : Fin 24) : LineFilter :=
  match line with
  | .f => c.fFilter[port]
  | .d => c.dFilter[port]

/-- The filtered level of a probe line (R79). -/
def Capture.level (c : Capture) (line : PinLine) (port : Fin 24) : PinLevel := (c.filter line port).level

/-- `n` ticks counted by a unit (R84): into the total, and into the high count where the line stands HIGH. -/
def CaptureUnit.count (level : PinLine → Fin 24 → PinLevel) (n : Nat) : CaptureUnit → CaptureUnit
  | .counting j w periods total high =>
    .counting j w periods (total + n) (high + if level j.line j.port = .high then n else 0)
  | u => u

/-- `n` ticks of the reference clock pass: the clock moves on and every unit in COUNTING counts them (R84). -/
def State.elapse (s : State) (n : Nat) : State :=
  { s with
    now := s.now + n
    capture := { s.capture with units := Vector.ofFn fun k => (s.capture.units[k]).count s.capture.level n } }

/-- Time passes up to tick `t`, where it has not passed already. -/
def State.elapseTo (s : State) (t : Nat) : State := s.elapse (t - s.now)

/-- The idle step (assumption 1): one tick of the reference clock passes; a part that does not run counts nothing. -/
def State.tick (s : State) : State :=
  match s.power with
  | .running => s.elapse 1
  | _ => { s with now := s.now + 1 }

/-- The expiry of a timer started now for `n` units; a time of 0 starts no timer (R143). -/
def startTimer (now n unit : Nat) : Option Nat := if n = 0 then none else some (now + n * unit)

/-- The time remaining of a timer in whole units, rounded up, 0 when it is stopped (R119, R151). -/
def remaining (now : Nat) (timer : Option Nat) (unit : Nat) : Nat :=
  match timer with
  | none => 0
  | some t => ceilDiv (t - now) unit

/-- A notice arrives at the queue (R136). -/
def NoticeQueue.arrive (q : NoticeQueue) (n : Notice) : NoticeQueue :=
  if q.list.length < 32 then { q with list := q.list ++ [n] } else { q with overflow := true }

/-- Notices are offered, in order (R136). -/
def State.offer (s : State) (ns : List Notice) : State :=
  { s with notices := ns.foldl NoticeQueue.arrive s.notices }

/-- The notices of one event in ascending subject, those of one subject in the order they were made (R70, R100). -/
def bySubject (ns : List Notice) : List Notice := ns.insertionSort fun a b => a.subject ≤ b.subject

/-- Replaces the runtime part of point `p`. -/
def State.setRun (s : State) (p : Fin 24) (r : PointRun) : State :=
  { s with points := s.points.set p { s.points[p] with run := r } }

/-- Replaces the record of wet line `l`. -/
def State.setWet (s : State) (l : Fin 8) (w : WetLine) : State := { s with wet := s.wet.set l w }

/-- Replaces the written image by an accepted configuration write, which sets DIRTY (R165). -/
def State.writeImage (s : State) (i : Image) : State :=
  { s with store := { s.store with written := i, dirty := true } }

/-- The line is enabled in the configuration in force, which is the written one (R118). -/
def State.lineEnabled (s : State) (l : Fin 8) : Bool := s.store.written.wet.enabled[l]

/-- The latch a working wet_line names is set (R41). -/
def State.latchOf (s : State) (c : SurfaceCfg) : Bool :=
  match c.wetLine with
  | none => false
  | some l => (s.wet[l]).latch

end Sys2Proof.Machine
end

