-- ==== Sys2Proof/Machine/Capture.lean ====
section
/-! DEFINITION. The capture block (Chapter 5): the job queue, the arbiter, the ends of jobs and their outcomes, withdrawal. -/

namespace Sys2Proof.Machine

/-- The job a unit holds (Table 5-3). -/
def CaptureUnit.job? : CaptureUnit → Option Job
  | .idle => none
  | .armed j _ _ => some j
  | .counting j _ _ _ _ => some j

/-- The unit holds the job of a line of a port. -/
def CaptureUnit.holds (port : Fin 24) (line : PinLine) (u : CaptureUnit) : Bool :=
  match u.job? with
  | none => false
  | some j => j.port = port && j.line = line

/-- The unit holds a job of a port. -/
def CaptureUnit.holdsPort (port : Fin 24) (u : CaptureUnit) : Bool :=
  match u.job? with
  | none => false
  | some j => j.port = port

/-- The unit that holds the job of a line of a port. -/
def Capture.unitOf (c : Capture) (port : Fin 24) (line : PinLine) : Option (Fin 4) :=
  (List.finRange 4).find? fun k => (c.units[k]).holds port line

/-- A job of the port waits in the queue or is held by a unit (R88). -/
def Capture.outstanding (c : Capture) (port : Fin 24) : Bool :=
  c.queue.any (fun j => j.port = port) || (List.finRange 4).any fun k => (c.units[k]).holdsPort port

/-- No job waits and no unit holds one (R89). -/
def Capture.allEnded (c : Capture) : Bool :=
  c.queue.isEmpty && (List.finRange 4).all fun k => (c.units[k]).job? = none

/-- The arbiter gives the head job to unit `k` when it is IDLE (R83, R84): the unit is ARMED and its window starts. -/
def Capture.giveOne (now window : Nat) (c : Capture) (k : Fin 4) : Capture :=
  match c.units[k], c.queue with
  | .idle, j :: rest =>
    { c with queue := rest, units := c.units.set k (.armed j now (now + window * Config.ticksPerMs)) }
  | _, _ => c

/-- The arbiter repeats the giving while a unit is IDLE and the queue is not empty (R83). -/
def State.giveJobs (s : State) : State :=
  { s with capture := (List.finRange 4).foldl (Capture.giveOne s.now s.work.window) s.capture }

/-- The jobs a point contributes to a sweep (R81, Table 5-1). -/
def jobsOf (w : WorkGlobals) (p : Fin 24) (r : PointRec) : List Job :=
  match r.cfg.kind with
  | .off => []
  | .surface => [{ port := p, line := .d, n := w.nD }]
  | .air =>
    if r.run.phase = .heating || r.run.phase = .recovering then []
    else [{ port := p, line := .f, n := w.nF }, { port := p, line := .d, n := w.nD }]

/-- The job queue of a sweep (R81): the walk from P0 to P23. -/
def State.buildJobs (s : State) : State :=
  { s with
    capture := { s.capture with
      queue := (List.finRange 24).flatMap fun p => jobsOf s.work p s.points[p]
      outcomes := [] } }

/-- Withdrawal of a point's jobs at a heater grant (R91): the waiting ones leave the queue, the units that hold one become
IDLE, and the outcomes already handed on in this sweep are discarded with the conversion. -/
def Capture.withdraw (c : Capture) (p : Fin 24) : Capture :=
  { c with
    queue := c.queue.filter fun j => j.port ≠ p
    units := Vector.ofFn fun k => if (c.units[k]).holdsPort p then .idle else c.units[k]
    outcomes := c.outcomes.filter fun o => o.port ≠ p }

/-- RESTART discards every job and stops every unit; the filters are kept (R92). -/
def Capture.discardAll (c : Capture) : Capture :=
  { c with queue := [], units := Vector.replicate 4 .idle, outcomes := [] }

/-- The filter of a line is replaced. -/
def Capture.setFilter (c : Capture) (line : PinLine) (port : Fin 24) (f : LineFilter) : Capture :=
  match line with
  | .f => { c with fFilter := c.fFilter.set port f }
  | .d => { c with dFilter := c.dFilter.set port f }

/-- The filter of a line is replaced. -/
def State.setFilter (s : State) (line : PinLine) (port : Fin 24) (f : LineFilter) : State :=
  { s with capture := s.capture.setFilter line port f }

/-- R79: the differing ticks that one more tick at `v` would continue. -/
def LineFilter.running (f : LineFilter) (v : PinLevel) : Nat :=
  if f.level ≠ v && f.sampled = v then f.differing else 0

/-- A run of `n` further ticks at `v`, met at tick `now`, follows the latest sample at once: the clock has not passed the tick
such a run ends at (assumption 8). -/
def LineFilter.follows (f : LineFilter) (now : Nat) (v : PinLevel) (n : Nat) : Bool :=
  now ≤ f.sampledAt + min n (Config.filterTicks - f.running v)

/-- R79: the differing ticks that a run continues: those counted up to the latest sample when it follows them at once. -/
def LineFilter.carried (f : LineFilter) (now : Nat) (v : PinLevel) (n : Nat) : Nat :=
  if f.follows now v n then f.running v else 0

/-- The ticks of a run that the filter takes: a run that changes the filtered level ends at the change. -/
def LineFilter.taken (f : LineFilter) (now : Nat) (v : PinLevel) (n : Nat) : Nat :=
  min n (Config.filterTicks - f.carried now v n)

/-- A tick at the filtered level that ended the ticks counted before a run which does not follow them (assumption 8). -/
def LineFilter.gap (f : LineFilter) (now : Nat) (v : PinLevel) (n : Nat) : Nat :=
  if f.follows now v n || f.running v = 0 then 0 else 1

/-- The tick a run ends at: its ticks follow the latest sample, or are the latest ones where the clock is past them
(assumption 8). -/
def LineFilter.endsAt (f : LineFilter) (now : Nat) (v : PinLevel) (n : Nat) : Nat :=
  max now (f.sampledAt + f.gap now v n + f.taken now v n)

/-- R79: the filtered level takes `v`: the sampled level has then differed from it for 25 consecutive ticks. -/
def LineFilter.changes (f : LineFilter) (now : Nat) (v : PinLevel) (n : Nat) : Bool :=
  f.level ≠ v && decide (Config.filterTicks ≤ f.carried now v n + f.taken now v n)

/-- R93: the line has rested HIGH since the power-on, up to the end of a run at `v`. -/
def LineFilter.rests (f : LineFilter) (now : Nat) (v : PinLevel) (n : Nat) : Bool :=
  f.resting && v = .high && f.follows now v n

/-- R79: the filter after a run. -/
def LineFilter.sample (f : LineFilter) (now : Nat) (v : PinLevel) (n : Nat) : LineFilter :=
  if f.level = v || f.changes now v n then
    { level := v, sampled := v, differing := 0, sampledAt := f.endsAt now v n, resting := false }
  else
    { level := f.level, sampled := v, differing := f.carried now v n + f.taken now v n
      sampledAt := f.endsAt now v n, resting := f.rests now v n }

/-- Unit `k` is replaced. -/
def State.setUnit (s : State) (k : Fin 4) (u : CaptureUnit) : State :=
  { s with capture := { s.capture with units := s.capture.units.set k u } }

/-- The outcome of a job whose closing edge came (R86, R87). -/
def closedOutcome (j : Job) (total high : Nat) : JobOutcome :=
  match j.line with
  | .f => .fDone (normalise64 total j.n)
  | .d => if dutyBad total high then .failed .dDuty else .dDone total high

/-- The outcome of a job whose window expired (R85). -/
def windowOutcome (j : Job) : JobOutcome :=
  match j.line with
  | .f => .failed .fWindow
  | .d => .failed .dWindow

/-- The outcome handed on for a line of a port (R88). -/
def Capture.outcomeOf (c : Capture) (port : Fin 24) (line : PinLine) : Option JobOutcome :=
  (c.outcomes.find? fun o => o.port = port && o.line = line).map EndedJob.outcome

end Sys2Proof.Machine
end

