-- ==== Sys2Proof/Machine/Purge.lean ====
section
/-! DEFINITION. The purge controller (Chapter 6): POINT notices, the heater arbiter and its grants, the purge queue, the
aborts at adoption. -/

namespace Sys2Proof.Machine

/-- The value and qualifiers a POINT notice carries (R70): RH of an AIR point, T of a SURFACE point, or the absent code. -/
def PointRun.noticeValue (r : PointRun) : Int × Quals :=
  match r.readings with
  | .absent => (-32768, {})
  | .air a => (a.rh, a.rhQ)
  | .surface t q => (t, q)

/-- GOOD or HOLDING (R70, R106). -/
def Health.goodOrHolding (h : Health) : Bool := h = .good || h = .holding

/-- A change of health or phase that is notified (R70): every one but GOOD to HOLDING and back with the phase unchanged. -/
def pointNoticeDue (old new : PointRun) : Bool :=
  (old.health ≠ new.health || old.phase ≠ new.phase)
    && !(old.phase = new.phase && old.health.goodOrHolding && new.health.goodOrHolding)

/-- The POINT notice of a change (R70). -/
def pointNotice (num : SweepNo) (p : Fin 24) (old new : PointRun) : List Notice :=
  if pointNoticeDue old new then
    [{ kind := .point, subject := p, fromValue := old.condition, toValue := new.condition, sweep := num
       value := new.noticeValue.1, quals := new.noticeValue.2 }]
  else []

/-- HELD added to the sets of RH, T and the dew-point group (R66). -/
def Readings.addHeld : Readings → Readings
  | .absent => .absent
  | .air a => .air { a with rhQ := a.rhQ.addHeld, tQ := a.tQ.addHeld, dewQ := a.dewQ.addHeld }
  | .surface t q => .surface t q.addHeld

/-- The dew point a grant freezes (R99): the recorded Td and Tc, with HELD and SATURATED added to Td's set. -/
def Readings.freeze : Readings → Option Frozen
  | .air a => some { td := a.td, tc := a.tc, q := a.dewQ.freeze }
  | _ => none

/-- R99 steps 2 and 3: the point of a granted entry. -/
def PointRun.granted (r : PointRun) (origin : PurgeOrigin) : PointRun :=
  { r with
    phase := .heating
    frozen := r.readings.freeze
    readings := r.readings.addHeld
    purgeCount := match origin with
      | .auto => r.purgeCount + 1
      | .manual => r.purgeCount }

/-- R99, R101: a grant made now, its first PWM period started with the line energised. -/
def Grant.start (p : Fin 24) (now duty purgeTime : Nat) : Grant :=
  { point := p, duty := duty, energised := true, periodStart := now
    purgeEnds := now + purgeTime * Config.ticksPerSecond }

/-- R99: the grant of entry `e`, already taken off the queue, with its POINT notice. -/
def State.grant (s : State) (e : PurgeEntry) : State × List Notice :=
  let old := (s.points[e.point]).run
  let new := old.granted e.origin
  let g := Grant.start e.point s.now s.store.written.globals.heaterDuty s.store.written.globals.purgeTime
  ({ s.setRun e.point new with
      capture := s.capture.withdraw e.point
      purge := { s.purge with grants := s.purge.grants ++ [g] } },
    pointNotice s.sweep.number e.point old new)

/-- R99: the head of the queue is granted when a grant is free. -/
def State.serveOne (s : State) : State × List Notice :=
  match s.purge.queue with
  | [] => (s, [])
  | e :: rest =>
    if s.purge.grants.length < 2 then State.grant { s with purge := { s.purge with queue := rest } } e else (s, [])

/-- R99, R100: no free grant is left standing while the queue is not empty. There are two grants. -/
def State.serve (s : State) : State × List Notice :=
  let a := s.serveOne
  let b := a.1.serveOne
  (b.1, a.2 ++ b.2)

/-- A point that has just entered WAITING arrives at the purge queue (R96, R106) and is granted at once when a grant is free. -/
def State.arrivePurge (s : State) (p : Fin 24) (origin : PurgeOrigin) : State :=
  let r := State.serve { s with purge := { s.purge with queue := s.purge.queue ++ [{ point := p, origin := origin }] } }
  r.1.offer (bySubject r.2)

/-- The entry of a point leaves the queue (R107, R108). -/
def Purge.dropEntry (g : Purge) (p : Fin 24) : Purge := { g with queue := g.queue.filter fun e => e.point ≠ p }

/-- The grant a point holds (R98). -/
def Purge.grantOf (g : Purge) (p : Fin 24) : Option Grant := g.grants.find? fun x => x.point = p

/-- The grant a point holds is replaced. -/
def Purge.setGrant (g : Purge) (x : Grant) : Purge :=
  { g with grants := g.grants.map fun y => if y.point = x.point then x else y }

/-- R103: the grant of a point is released. -/
def Purge.release (g : Purge) (p : Fin 24) : Purge := { g with grants := g.grants.filter fun x => x.point ≠ p }

/-- R108: the purges of the points `hit` are cancelled: entries and grants go, recovery timers stop. -/
def Purge.abort (g : Purge) (hit : Fin 24 → Bool) : Purge :=
  { grants := g.grants.filter fun x => !hit x.point
    queue := g.queue.filter fun e => !hit e.point
    recovery := Vector.ofFn fun p => if hit p then none else g.recovery[p] }

end Sys2Proof.Machine
end

