-- ==== Sys2Proof/Machine/Points.lean ====
section
/-! DEFINITION. The point unit (Chapter 4): conversion, health, the saturation step and adoption. -/

namespace Sys2Proof.Machine

/-- What a conversion comes to (R60): the raw RH in band and T of an AIR point, T of a SURFACE point, or a failure. -/
inductive Conversion where
  | air (raw t : Int)
  | surface (t : Int)
  | failed (cause : FailCause)
  deriving DecidableEq, Repr

/-- R60, R61, R64: the conversion of a point from the outcomes of its jobs, the F job's cause before the D job's. A point
whose jobs have not all been handed on has none. -/
def conversionOf (c : PointCfg) (f d : Option JobOutcome) : Option Conversion :=
  match c.kind with
  | .off => none
  | .surface =>
    match d with
    | some (.dDone total high) => some (.surface (temperature c total high))
    | some (.failed cause) => some (.failed cause)
    | _ => none
  | .air =>
    match f, d with
    | some (.failed cause), some _ => some (.failed cause)
    | some (.fDone _), some (.failed cause) => some (.failed cause)
    | some (.fDone c64), some (.dDone total high) =>
      if rhInBand (rawRh c c64) then some (.air (rawRh c c64) (temperature c total high))
      else some (.failed .rhBand)
    | _, _ => none

/-- R95: the saturation step, and whether the point entered WAITING at it. -/
def satStep (w : WorkGlobals) (r : PointRun) (rh : Nat) : PointRun × Bool :=
  match r.phase with
  | .none =>
    if 9900 ≤ rh then
      if w.satCount ≤ r.satRun + 1 then
        if r.purgeCount < w.maxPurges then ({ r with satRun := 0, phase := .waiting }, true)
        else ({ r with satRun := 0, phase := .soaked }, false)
      else ({ r with satRun := r.satRun + 1 }, false)
    else ({ r with satRun := 0, purgeCount := 0 }, false)
  | .soaked => if rh < 9500 then ({ r with phase := .none, purgeCount := 0 }, false) else (r, false)
  | _ => (r, false)

/-- R63 step 3: the RH used, with its qualifier set. -/
def rhUsed (phase : Phase) (raw : Int) : Nat × Quals :=
  if phase = .soaked then (10000, { saturated := true }) else (measuredRh raw, measuredRhQuals raw)

/-- R63 steps 1 and 3 to 5: the reading group of a good conversion of an AIR point whose phase is now `phase`. -/
def airReading (phase : Phase) (raw t : Int) : AirReading :=
  let d := dewPoint t (rhUsed phase raw).1 (rhUsed phase raw).2
  { rh := measuredRh raw, rhQ := measuredRhQuals raw, t := t, tQ := {}, tc := d.tc, e := d.e.toNat, td := d.td
    dewQ := d.q }

/-- R63 step 5: what a good conversion sets beside the readings. -/
def PointRun.madeGood (r : PointRun) (num : SweepNo) (rd : Readings) : PointRun :=
  { r with readings := rd, failRun := 0, health := .good, lastGood := some num }

/-- R63: a good conversion of an AIR point, and whether it arrives at the purge queue. -/
def PointRun.goodAir (r : PointRun) (w : WorkGlobals) (num : SweepNo) (raw t : Int) : PointRun × Bool :=
  let st := satStep w r (measuredRh raw)
  (st.1.madeGood num (.air (airReading st.1.phase raw t)), st.2)

/-- R65: entry to FAULT. -/
def PointRun.enterFault (r : PointRun) : PointRun :=
  { r with
    health := .fault, failRun := 0, satRun := 0, purgeCount := 0, readings := r.readings.addHeld
    phase := match r.phase with
      | .waiting => .none
      | .soaked => .none
      | ph => ph }

/-- R64, Table 4-4: a failed conversion. -/
def PointRun.failed (r : PointRun) (w : WorkGlobals) (num : SweepNo) (cause : FailCause) : PointRun :=
  let r := { r with lastFailure := some (cause, num) }
  match r.health with
  | .off => r
  | .fault => r
  | .new => if w.faultCount ≤ r.failRun + 1 then r.enterFault else { r with failRun := r.failRun + 1 }
  | _ =>
    if w.faultCount ≤ r.failRun + 1 then r.enterFault
    else { r with health := .holding, failRun := r.failRun + 1, readings := r.readings.addHeld }

/-- The outcomes of a point are taken off the list when it is converted. -/
def Capture.consume (c : Capture) (p : Fin 24) : Capture :=
  { c with outcomes := c.outcomes.filter fun o => o.port ≠ p }

/-- A point's new runtime part is recorded and its POINT notice offered (R63 step 6, R64, R65). -/
def State.recordPoint (s : State) (p : Fin 24) (new : PointRun) : State :=
  (s.setRun p new).offer (pointNotice s.sweep.number p (s.points[p]).run new)

/-- R60: point `p` is converted from the outcomes handed on for it. -/
def State.convert (s : State) (p : Fin 24) : State :=
  let r := s.points[p]
  let s0 := { s with capture := s.capture.consume p }
  match conversionOf r.cfg (s.capture.outcomeOf p .f) (s.capture.outcomeOf p .d) with
  | none => s0
  | some (.failed cause) =>
    let new := r.run.failed s.work s.sweep.number cause
    let s1 := if r.run.phase = .waiting && new.phase = .none then { s0 with purge := s0.purge.dropEntry p } else s0
    s1.recordPoint p new
  | some (.surface t) => s0.recordPoint p (r.run.madeGood s.sweep.number (.surface t {}))
  | some (.air raw t) =>
    let g := r.run.goodAir s.work s.sweep.number raw t
    let s1 := s0.recordPoint p g.1
    if g.2 then s1.arrivePurge p .auto else s1

/-- The written configuration of a point differs from its working one (R71, R72). -/
def State.pointChanged (s : State) (p : Fin 24) : Bool := s.store.written.points[p] ≠ (s.points[p]).cfg

/-- R71, R72: a point adopts `c`. -/
def PointRec.adopt (r : PointRec) (c : PointCfg) : PointRec := if c = r.cfg then r else .fresh c

/-- R71, R72, R108, R110: the point part of the written image, fault_count, sat_count and max_purges are adopted; purges of
changed points are cancelled first, then the freed grants are served; the POINT notices stand in ascending point number. -/
def State.adoptPoints (s : State) : State :=
  let new := Vector.ofFn fun p => (s.points[p]).adopt s.store.written.points[p]
  let notices := (List.finRange 24).flatMap fun p =>
    pointNotice s.sweep.number p (s.points[p]).run (new[p]).run
  let g := s.store.written.globals
  let s1 := { s with
    points := new
    purge := s.purge.abort s.pointChanged
    work := { s.work with faultCount := g.faultCount, satCount := g.satCount, maxPurges := g.maxPurges } }
  let r := s1.serve
  r.1.offer (bySubject (notices ++ r.2))

end Sys2Proof.Machine
end

