-- ==== Sys2Proof/Machine/Outputs.lean ====
section
/-! DEFINITION. The output controller (Chapter 9, 9.4): demand, the line states and their timers, the pins. -/

namespace Sys2Proof.Machine

/-- A member surface in state `st` makes demand on a line (R143). -/
def OutputCfg.trippedBy (c : OutputCfg) (st : RiskState) : Bool :=
  match st with
  | .unused => false
  | .unknown => c.unknownTrips
  | st => c.tripLevel.risk.severity ≤ st.severity

/-- The demand of a line under the surface states as they stand (R143). -/
def demandOf (c : OutputCfg) (surfaces : Vector SurfaceRec 16) : Bool :=
  (List.finRange 16).any fun i => c.members.getLsbD i && c.trippedBy (surfaces[i]).run.state

/-- The demand of a line's previous evaluation, which its state holds (R143). -/
def LineState.heldDemand : LineState → Bool
  | .on => true
  | .offHeld => true
  | .off => false
  | .onHeld => false

/-- The line is on (Table 9-5). -/
def LineState.isOn : LineState → Bool
  | .on => true
  | .onHeld => true
  | .off => false
  | .offHeld => false

/-- A line turns on (R144, R146): min_on starts. -/
def OutLine.turnOn (l : OutLine) (c : OutputCfg) (now : Nat) : OutLine :=
  { l with state := .on, minOn := startTimer now c.minOn Config.ticksPerSecond }

/-- A line turns off (R145, R146): min_off starts. -/
def OutLine.turnOff (l : OutLine) (c : OutputCfg) (now : Nat) : OutLine :=
  { l with state := .off, minOff := startTimer now c.minOff Config.ticksPerSecond }

/-- Demand appears (R144). -/
def OutLine.demandAppears (l : OutLine) (c : OutputCfg) (now : Nat) : OutLine :=
  match l.state with
  | .off => if l.minOff.isSome then { l with state := .offHeld } else l.turnOn c now
  | .onHeld => { l with state := .on }
  | .on => l
  | .offHeld => l

/-- Demand is lost (R145). -/
def OutLine.demandLost (l : OutLine) (c : OutputCfg) (now : Nat) : OutLine :=
  match l.state with
  | .on => if l.minOn.isSome then { l with state := .onHeld } else l.turnOff c now
  | .offHeld => { l with state := .off }
  | .off => l
  | .onHeld => l

/-- A line acts on an evaluation of its demand (R143): on a change only. -/
def OutLine.act (l : OutLine) (c : OutputCfg) (demand : Bool) (now : Nat) : OutLine :=
  if demand = l.state.heldDemand then l
  else if demand then l.demandAppears c now
  else l.demandLost c now

/-- The demand of both lines is evaluated (R143). -/
def State.evalOutputs (s : State) : State :=
  { s with
    outputs := Vector.ofFn fun o =>
      (s.outputs[o]).act s.store.written.outputs[o] (demandOf s.store.written.outputs[o] s.surfaces) s.now }

/-- Expiry of a line's min-on timer (R146). -/
def OutLine.minOnExpires (l : OutLine) (c : OutputCfg) (now : Nat) : OutLine :=
  let l := { l with minOn := none }
  if l.state = .onHeld then l.turnOff c now else l

/-- Expiry of a line's min-off timer (R146). -/
def OutLine.minOffExpires (l : OutLine) (c : OutputCfg) (now : Nat) : OutLine :=
  let l := { l with minOff := none }
  if l.state = .offHeld then l.turnOn c now else l

/-- Replaces output line `o`. -/
def State.setOut (s : State) (o : Fin 2) (l : OutLine) : State := { s with outputs := s.outputs.set o l }

/-- The pin of line `o` energises its relay driver (R148). It is released while the part has no supply or is held. -/
def State.outDrive (s : State) (o : Fin 2) : Bool :=
  match s.power with
  | .running =>
    match (s.store.written.outputs[o]).contact with
    | .closedOnDemand => (s.outputs[o]).state.isOn
    | .openOnDemand => !(s.outputs[o]).state.isOn
  | _ => false

/-- Heater line `p` is energised (R101): by the on part of its grant's PWM period, while the part runs (R109, R169). -/
def State.heaterOn (s : State) (p : Fin 24) : Bool :=
  match s.power with
  | .running => s.purge.grants.any fun g => g.point = p && g.energised
  | _ => false

/-- RSDE is driven (R152): while a reply is being sent. -/
def State.driverEnabled (s : State) : Bool :=
  match s.power with
  | .running =>
    match s.link.reply with
    | none => false
    | some r => r.sending
  | _ => false

end Sys2Proof.Machine
end

