-- ==== Sys2Proof/Machine/Surfaces.lean ====
section
/-! DEFINITION. The surface evaluator (Chapters 2 and 3): evaluation, risk states, trend ring and forecast, adoption, the wet
override and the ranking list. -/

namespace Sys2Proof.Machine

/-- The qualifiers and value a SURFACE notice carries (R45): the margin, or the absent code. -/
def SurfaceRun.noticeValue (r : SurfaceRun) : Int × Quals :=
  match r.values with
  | none => (-32768, {})
  | some v => (v.margin, v.marginQ)

/-- The SURFACE notice of a change of state (R45); none when the state is the same. -/
def surfaceNotice (num : SweepNo) (i : Fin 16) (old : RiskState) (r : SurfaceRun) : List Notice :=
  if old = r.state then []
  else
    [{ kind := .surface, subject := i, fromValue := old.code, toValue := r.state.code, sweep := num
       value := r.noticeValue.1, quals := r.noticeValue.2 }]

/-- R20: Ts of a surface point, with its qualifiers. -/
def surfaceTemp (r : PointRec) : Option (Int × Quals) :=
  if r.cfg.kind = .surface && (r.run.health = .good || r.run.health = .holding) then
    match r.run.readings with
    | .surface t q => some (t, q)
    | _ => none
  else none

/-- R21, Table 2-3: what an air member brings to the combination. -/
def contributionOf (weight : Nat) (r : PointRec) : Option Contribution :=
  if r.cfg.kind = .air then
    if r.run.phase = .heating || r.run.phase = .recovering then
      r.run.frozen.map fun f => { weight := weight, td := f.td, q := f.q }
    else if r.run.health = .good || r.run.health = .holding then
      match r.run.readings with
      | .air a => some { weight := weight, td := a.td, q := a.dewQ }
      | _ => none
    else none
  else none

/-- The usable members of an air list, in list order (R10, R21). -/
def contributions (points : Vector PointRec 24) (c : SurfaceCfg) : List Contribution :=
  c.airList.filterMap fun m => contributionOf m.weight points[m.point]

/-- The values of an evaluation at which both terms are present (R13, R22); none otherwise (R15). -/
def formValues (num : SweepNo) (points : Vector PointRec 24) (c : SurfaceCfg) : Option Values :=
  match surfaceTemp points[c.surfacePoint], combine c.mode (contributions points c) with
  | some (ts, tsQ), some (td, tdQ) =>
    some { sweep := num, ts := ts, tsQ := tsQ, td := td, tdQ := tdQ, margin := ts - td, marginQ := tsQ.union tdQ }
  | _, _ => none

/-- R39: the candidate of a live margin for a surface in state `st`. -/
def candidate (c : SurfaceCfg) (st : RiskState) (m : Int) : RiskState :=
  if st.above (rawLevel c m) then st.lower (rawLevel c (m - c.hysteresis)) else rawLevel c m

/-- R38 to R40, R42: the state and the runs after a live margin. -/
def SurfaceRun.judge (c : SurfaceCfg) (r : SurfaceRun) (m : Int) : SurfaceRun :=
  match r.state with
  | .wet => { r with riseRun := 0, fallRun := 0 }
  | .unused => r
  | .unknown => { r with state := rawLevel c m, riseRun := 0, fallRun := 0 }
  | st =>
    let cand := candidate c st m
    if cand.above st then
      if c.riseCount ≤ r.riseRun + 1 then { r with state := cand, riseRun := 0, fallRun := 0 }
      else { r with riseRun := r.riseRun + 1, fallRun := 0 }
    else if st.above cand then
      if c.fallCount ≤ r.fallRun + 1 then { r with state := cand, riseRun := 0, fallRun := 0 }
      else { r with riseRun := 0, fallRun := r.fallRun + 1 }
    else { r with riseRun := 0, fallRun := 0 }

/-- R47: a live margin joins the ring, the oldest leaving a full one. -/
def appendRing (ring : List Int) (m : Int) : List Int := (if 8 ≤ ring.length then ring.drop 1 else ring) ++ [m]

/-- R49: the flag is cleared when the forecast is absent or above forecast_sweeps. -/
def trendFlagAfter (c : SurfaceCfg) (flag : Bool) (forecast : Option Nat) : Bool :=
  match forecast with
  | none => false
  | some f => if c.forecastSweeps < f then false else flag

/-- R47 to R49: ring, forecast and flag after a live margin. -/
def SurfaceRun.trend (c : SurfaceCfg) (r : SurfaceRun) (m : Int) : SurfaceRun :=
  let ring := appendRing r.ring m
  let forecast := forecastOf ring
  { r with ring := ring, forecast := forecast, trendFlag := trendFlagAfter c r.trendFlag forecast }

/-- R50: the conditions of a TREND notice. -/
def SurfaceRun.trendDue (c : SurfaceCfg) (r : SurfaceRun) : Bool :=
  c.forecastSweeps ≠ 0 && (r.state = .dry || r.state = .watch || r.state = .near) && !r.trendFlag
    && match r.forecast with
       | none => false
       | some f => f ≤ c.forecastSweeps

/-- R50: the TREND notice and the flag it sets. -/
def offerTrend (num : SweepNo) (i : Fin 16) (c : SurfaceCfg) (r : SurfaceRun) : SurfaceRun × List Notice :=
  if r.trendDue c then
    ({ r with trendFlag := true },
      [{ kind := .trend, subject := i, fromValue := r.state.code, toValue := c.forecastSweeps, sweep := num
         value := r.forecast.getD 0, quals := r.noticeValue.2 }])
  else (r, [])

/-- R22, R51: the evaluation of a surface with a live margin. -/
def evalLive (num : SweepNo) (i : Fin 16) (c : SurfaceCfg) (r : SurfaceRun) (v : Values) : SurfaceRun × List Notice :=
  let judged := ({ r with values := some v, live := true, heldAge := 0 }).judge c v.margin
  let t := offerTrend num i c (judged.trend c v.margin)
  (t.1, surfaceNotice num i r.state judged ++ t.2)

/-- R23: the values with HELD added to each set. -/
def Values.hold (v : Values) : Values :=
  { v with tsQ := v.tsQ.addHeld, tdQ := v.tdQ.addHeld, marginQ := v.marginQ.addHeld }

/-- R24: the state after the end of a surface's data. -/
def RiskState.afterDataEnd : RiskState → RiskState
  | .wet => .wet
  | .unused => .unused
  | _ => .unknown

/-- R23, R24: the evaluation of a surface that lacks Ts or Td_surf. -/
def evalMissing (num : SweepNo) (i : Fin 16) (c : SurfaceCfg) (r : SurfaceRun) : SurfaceRun × List Notice :=
  match r.values with
  | some v =>
    if r.heldAge < c.holdSweeps then
      ({ r with values := some v.hold, live := false, heldAge := r.heldAge + 1 }, [])
    else
      let ended := SurfaceRun.cleared r.state.afterDataEnd
      (ended, surfaceNotice num i r.state ended)
  | none =>
    let ended := SurfaceRun.cleared r.state.afterDataEnd
    (ended, surfaceNotice num i r.state ended)

/-- R19: the evaluation of one surface from the point records. -/
def evalSurface (num : SweepNo) (points : Vector PointRec 24) (i : Fin 16) (s : SurfaceRec) :
    SurfaceRec × List Notice :=
  if s.cfg.enabled then
    let out := match formValues num points s.cfg with
      | some v => evalLive num i s.cfg s.run v
      | none => evalMissing num i s.cfg s.run
    ({ s with run := out.1 }, out.2)
  else (s, [])

/-- R52: the entry a surface gives the ranking list, when it is taken. -/
def rankEntryOf (i : Fin 16) (s : SurfaceRec) : Option RankEntry :=
  match s.run.values with
  | none => none
  | some v =>
    if s.cfg.enabled && s.run.state ≠ .unknown && s.run.state ≠ .unused then
      some { surface := i, state := s.run.state, margin := v.margin, held := !s.run.live }
    else none

/-- R52: margin ascending, then surface number ascending. -/
def RankEntry.le (a b : RankEntry) : Bool := a.margin < b.margin || (a.margin = b.margin && a.surface ≤ b.surface)

/-- R52: the ranking list of a surface table. -/
def rankingOf (num : SweepNo) (surfaces : Vector SurfaceRec 16) : Ranking :=
  { sweep := num
    entries := (((List.finRange 16).filterMap fun i => rankEntryOf i surfaces[i]).insertionSort
      fun a b => a.le b).take 8 }

/-- R19, R52: every enabled surface is evaluated, their notices offered in ascending number, and the ranking rebuilt. -/
def State.evaluateSurfaces (s : State) : State :=
  let out := Vector.ofFn fun i => evalSurface s.sweep.number s.points i s.surfaces[i]
  let new := Vector.ofFn fun i => (out[i]).1
  { s.offer ((List.finRange 16).flatMap fun i => (out[i]).2) with
    surfaces := new, ranking := rankingOf s.sweep.number new }

/-- R54: an entry after its surface went from `old` to `new`, `cleared` where adoption cleared its values. -/
def RankEntry.follow (e : RankEntry) (old new : RiskState) (cleared : Bool) : Option RankEntry :=
  if cleared then none
  else if old = new then some e
  else if new = .unknown || new = .unused then none
  else some { e with state := new }

/-- The surface table is replaced outside an evaluation: SURFACE notices in ascending number (R45, R46), the ranking list
follows (R54). `cleared` says whose values an adoption cleared. -/
def State.reviseSurfaces (s : State) (new : Vector SurfaceRec 16) (cleared : Fin 16 → Bool) : State :=
  let notices := (List.finRange 16).flatMap fun i =>
    surfaceNotice s.sweep.number i (s.surfaces[i]).run.state (new[i]).run
  { s.offer notices with
    surfaces := new
    ranking := { s.ranking with
      entries := s.ranking.entries.filterMap fun e =>
        e.follow (s.surfaces[e.surface]).run.state (new[e.surface]).run.state (cleared e.surface) } }

/-- R41: a surface after the latch of line `l` sets. -/
def SurfaceRec.latchSets (l : Fin 8) (s : SurfaceRec) : SurfaceRec :=
  if s.cfg.enabled && s.cfg.wetLine = some l then
    { s with run := { s.run with state := .wet, riseRun := 0, fallRun := 0 } }
  else s

/-- The state of a surface that leaves WET (R29, R43): the raw level of a live margin, else UNKNOWN. -/
def SurfaceRun.stateLeavingWet (c : SurfaceCfg) (r : SurfaceRun) : RiskState :=
  match r.live, r.values with
  | true, some v => rawLevel c v.margin
  | _, _ => .unknown

/-- R43: a surface after the latch of line `l` clears. -/
def SurfaceRec.latchClears (l : Fin 8) (s : SurfaceRec) : SurfaceRec :=
  if s.run.state = .wet && s.cfg.wetLine = some l then
    { s with run := { s.run with state := s.run.stateLeavingWet s.cfg, riseRun := 0, fallRun := 0 } }
  else s

/-- Some surface changed state. -/
def anyStateChange (old new : Vector SurfaceRec 16) : Bool :=
  (List.finRange 16).any fun i => decide ((old[i]).run.state ≠ (new[i]).run.state)

/-- Some surface changed to or from WET. -/
def anyWetChange (old new : Vector SurfaceRec 16) : Bool :=
  (List.finRange 16).any fun i =>
    decide ((old[i]).run.state ≠ (new[i]).run.state)
      && ((old[i]).run.state = .wet || (new[i]).run.state = .wet)

/-- A latch event at the surfaces: their changes, and the outputs evaluated where there was one (R41, R43, R46, R143). -/
def State.latchEvent (s : State) (f : SurfaceRec → SurfaceRec) : State :=
  let new := Vector.ofFn fun i => f s.surfaces[i]
  let s' := s.reviseSurfaces new fun _ => false
  if anyStateChange s.surfaces new then s'.evalOutputs else s'

/-- R27 to R29 keep the values and clear runs and ring. -/
def SurfaceRun.restartCounting (r : SurfaceRun) (st : RiskState) : SurfaceRun :=
  { r with state := st, riseRun := 0, fallRun := 0, heldAge := 0, ring := [], forecast := none, trendFlag := false }

/-- R29: the state after a change that keeps the values. -/
def adoptKeptState (c : SurfaceCfg) (r : SurfaceRun) (latch : Bool) : RiskState :=
  if latch then .wet
  else if r.state = .wet then r.stateLeavingWet c
  else r.state

/-- R25 to R29: a surface adopts `c`, and whether its values were cleared. `latch` says that the newly adopted wet_line names
a set latch. -/
def adoptSurface (c : SurfaceCfg) (latch : Bool) (s : SurfaceRec) : SurfaceRec × Bool :=
  if c = s.cfg then (s, false)
  else if c.enabled ≠ s.cfg.enabled then
    ({ cfg := c, run := .cleared (if c.enabled then (if latch then .wet else .unknown) else .unused) }, true)
  else if c.enabled = false then ({ s with cfg := c }, false)
  else if c.surfacePoint ≠ s.cfg.surfacePoint || c.airList ≠ s.cfg.airList then
    ({ cfg := c, run := .cleared (if latch then .wet else .unknown) }, true)
  else ({ cfg := c, run := s.run.restartCounting (adoptKeptState c s.run latch) }, false)

/-- R25: the surface part of the written image is adopted. The changes to and from WET are reported to the outputs (R46). -/
def State.adoptSurfaces (s : State) : State :=
  let out := Vector.ofFn fun i =>
    adoptSurface s.store.written.surfaces[i] (s.latchOf s.store.written.surfaces[i]) s.surfaces[i]
  let new := Vector.ofFn fun i => (out[i]).1
  let s' := s.reviseSurfaces new fun i => (out[i]).2
  if anyWetChange s.surfaces new then s'.evalOutputs else s'

/-- R31: the runtime part of a surface at RESTART. -/
def State.restartSurface (s : State) (r : SurfaceRec) : SurfaceRec :=
  let st := if r.cfg.enabled then (if s.latchOf r.cfg then RiskState.wet else .unknown) else .unused
  { r with run := .cleared st }

/-- R36: the worst state code of a surface table. -/
def worstState (surfaces : Vector SurfaceRec 16) : Nat :=
  (List.finRange 16).foldl
    (fun a i => if (surfaces[i]).cfg.enabled then max a (surfaces[i]).run.state.severity else a) 0

/-- R36: some enabled surface is UNKNOWN. -/
def anyUnknown (surfaces : Vector SurfaceRec 16) : Bool :=
  (List.finRange 16).any fun i => (surfaces[i]).cfg.enabled && (surfaces[i]).run.state = .unknown

end Sys2Proof.Machine
end

