-- ==== Sys2Proof/Machine/SweepOps.lean ====
section
/-! DEFINITION. The sweep controller (Chapter 8): the start and the completion of a sweep, the snapshot, the timer. -/

namespace Sys2Proof.Machine

/-- R134: a point as the snapshot records it. -/
def snapPoint (r : PointRec) : SnapPoint :=
  { kind := r.cfg.kind, health := r.run.health, phase := r.run.phase
    rh := match r.run.readings with
      | .air a => some (a.rh, a.rhQ)
      | _ => none
    t := match r.run.readings with
      | .air a => some (a.t, a.tQ)
      | .surface t q => some (t, q)
      | .absent => none
    td := match r.run.readings with
      | .air a => some (a.td, a.dewQ)
      | _ => none
    frozen := r.run.frozen.map fun f => (f.td, f.q) }

/-- R134: a surface as the snapshot records it. -/
def snapSurface (r : SurfaceRec) : SnapSurface :=
  { state := r.run.state, live := r.run.live
    margin := r.run.values.map fun v => (v.margin, v.marginQ)
    ts := r.run.values.map fun v => (v.ts, v.tsQ)
    td := r.run.values.map fun v => (v.td, v.tdQ) }

/-- R134: the snapshot of the tables as they stand. -/
def State.snapshotNow (s : State) : Snapshot :=
  { sweep := s.sweep.number
    points := Vector.ofFn fun p => snapPoint s.points[p]
    surfaces := Vector.ofFn fun i => snapSurface s.surfaces[i] }

/-- R134: the SNAPSHOT notice. -/
def State.snapshotNotice (s : State) : Notice :=
  { kind := .snapshot, subject := 0, fromValue := 0, toValue := 0, sweep := s.sweep.number
    value := worstState s.surfaces, quals := {} }

/-- R134: the buffer is filled when the sweep that completes is the snapshot sweep. -/
def State.takeSnapshot (s : State) : State :=
  if s.sweep.snapSweep = some s.sweep.number then
    { s.offer [s.snapshotNotice] with
      sweep := { s.sweep with snapSweep := none, ready := true, buffer := some s.snapshotNow } }
  else s

/-- R131: the sweep completes: evaluation, ranking, then at evaluation complete in_flight, the snapshot and the outputs. -/
def State.completeSweep (s : State) : State :=
  let s1 := s.evaluateSurfaces
  let s2 := { s1 with sweep := { s1.sweep with inFlight := false } }
  s2.takeSnapshot.evalOutputs

/-- R83, R89: after jobs ended or were withdrawn the arbiter gives the waiting ones, and a sweep with none outstanding
completes in the same event. -/
def State.settle (s : State) : State :=
  let s1 := s.giveJobs
  if s1.sweep.inFlight && s1.capture.allEnded then s1.completeSweep else s1

/-- R80: the capture settings are adopted. -/
def State.adoptCapture (s : State) : State :=
  let g := s.store.written.globals
  { s with work := { s.work with nF := g.nF, nD := g.nD, window := g.window } }

/-- R130: the sweep controller's own part of a sweep start. -/
def Sweep.begin (w : Sweep) : Sweep :=
  { w with
    number := w.number + 1, inFlight := true, overrunCount := 0, arm := false
    snapSweep := if w.arm then some (w.number + 1) else w.snapSweep }

/-- R130: a sweep starts. -/
def State.startSweep (s : State) : State :=
  let s1 := { s with sweep := s.sweep.begin }
  s1.adoptPoints.adoptSurfaces.adoptCapture.buildJobs.settle

/-- R122, R125, R132: a pending interval becomes the interval. -/
def Sweep.takePending (w : Sweep) : Sweep := { w with interval := w.pendingIv.getD w.interval, pendingIv := none }

/-- R122, R125: the timer is loaded at tick `t` with the interval in force. -/
def Sweep.loadTimer (w : Sweep) (t : Nat) : Sweep := { w with timer := some (t + w.interval * Config.ticksPerSecond) }

/-- R123: the OVERRUN notice. -/
def Sweep.overrunNotice (w : Sweep) : Notice :=
  { kind := .overrun, subject := 0, fromValue := 0, toValue := w.interval, sweep := w.number
    value := w.overrunCount, quals := {} }

/-- R122, R123: the sweep timer expires at tick `t`. -/
def State.sweepTimerExpires (s : State) (t : Nat) : State :=
  let w := s.sweep.takePending.loadTimer t
  if w.inFlight then
    let w := { w with overrunCount := min 32767 (w.overrunCount + 1) }
    State.offer { s with sweep := w } [w.overrunNotice]
  else State.startSweep { s with sweep := w }

/-- R88: the job `j` of unit `k` ends with an outcome: it is handed on, the point is converted when it was its last job, and
the unit becomes IDLE. -/
def State.endJob (s : State) (k : Fin 4) (j : Job) (o : JobOutcome) : State :=
  let s1 := { s with
    capture := { s.capture with
      units := s.capture.units.set k .idle
      outcomes := s.capture.outcomes ++ [EndedJob.mk j.port j.line o] } }
  let s2 := if s1.capture.outstanding j.port then s1 else s1.convert j.port
  s2.settle

end Sys2Proof.Machine
end

