-- ==== Sys2Proof/Machine/CaptureEvents.lean ====
section
/-! DEFINITION. The events at the probe lines and the capture windows: START_EDGE, CAPTURE_JOB_COMPLETE,
CAPTURE_WINDOW_EXPIRY, FILTERED_LEVEL_CHANGE (R79, R84, R85). An event that its row's name denies has no effect
(assumption 3). -/

namespace Sys2Proof.Machine

/-- R84, R85: a rising edge of a line at tick `now`, at the unit that measures it: the start edge when it follows the tick the
job was taken at, a further period, or the closing edge. An edge after the end of the job's window is none of the unit's, and
neither is the edge of a line that has rested HIGH since the power-on, which a job taken before it is not affected by (R93;
DESIGN CHOICE where R84 alone would make it a start edge, assumption 22). -/
def State.risingEdge (s : State) (port : Fin 24) (line : PinLine) (rests : Bool) : State :=
  match s.capture.unitOf port line with
  | none => s
  | some k =>
    match s.capture.units[k] with
    | .idle => s
    | .armed j taken w => if taken < s.now && s.now ≤ w && !rests then s.setUnit k (.counting j w 0 0 0) else s
    | .counting j w periods total high =>
      if w < s.now then s
      else if periods + 1 < j.n then s.setUnit k (.counting j w (periods + 1) total high)
      else s.endJob k j (closedOutcome j total high)

/-- R79: a line was sampled at `v` for `n` further consecutive ticks. Time passes up to the last of them, the filter takes
them, and a filtered level that becomes HIGH is a rising edge at that tick. -/
def State.sampleLine (s : State) (port : Fin 24) (line : PinLine) (v : PinLevel) (n : Nat) : State :=
  let f := s.capture.filter line port
  let s1 := (s.elapseTo (f.endsAt s.now v n)).setFilter line port (f.sample s.now v n)
  if f.changes s.now v n && v = .high then s1.risingEdge port line (f.rests s.now v n) else s1

/-- The next rising edge of a line, when it is sampled HIGH up to it, is the start edge of its job (R84). -/
def State.startEdgeDue (s : State) (port : Fin 24) (line : PinLine) : Bool :=
  let f := s.capture.filter line port
  let e := f.endsAt s.now .high Config.filterTicks
  f.changes s.now .high Config.filterTicks && !f.rests s.now .high Config.filterTicks &&
    match s.capture.unitOf port line with
    | none => false
    | some k =>
      match s.capture.units[k] with
      | .armed _ taken w => taken < e && e ≤ w
      | _ => false

/-- The ticks still to be counted until the unit that measures a line has counted `total` (R84). -/
def State.ticksTo (s : State) (port : Fin 24) (line : PinLine) (total : Nat) : Nat :=
  match s.capture.unitOf port line with
  | none => 0
  | some k =>
    match s.capture.units[k] with
    | .counting _ _ _ counted _ => total - counted
    | _ => 0

/-- A line sampled HIGH for the ticks up to this one has its closing edge at this tick, with these counts (R84). -/
def State.closingEdgeDue (s : State) (port : Fin 24) (line : PinLine) (total high : Nat) : Bool :=
  let f := s.capture.filter line port
  f.changes s.now .high Config.filterTicks && f.endsAt s.now .high Config.filterTicks = s.now &&
    match s.capture.unitOf port line with
    | none => false
    | some k =>
      match s.capture.units[k] with
      | .counting j w periods counted above => j.n ≤ periods + 1 && s.now ≤ w && counted = total && above = high
      | _ => false

/-- R85: the window of the job of a line expires. -/
def State.windowExpires (s : State) (port : Fin 24) (line : PinLine) : State :=
  match s.capture.unitOf port line with
  | none => s
  | some k =>
    match s.capture.units[k] with
    | .idle => s
    | .armed j _ w => (s.elapseTo w).endJob k j (windowOutcome j)
    | .counting j w _ _ _ => (s.elapseTo w).endJob k j (windowOutcome j)

/-- START_EDGE (R84): the line is sampled HIGH up to the edge. -/
def execStartEdge (port : Fin 24) (line : PinLine) (s : State) : Host.Outcome State Fault Refusal :=
  if s.power = .running && s.startEdgeDue port line then .next (s.sampleLine port line .high Config.filterTicks)
  else .next s

/-- CAPTURE_JOB_COMPLETE (R84, R86, R87): time passes until the unit has counted `total`, up to which the line was sampled
HIGH. -/
def execCaptureJobComplete (port : Fin 24) (line : PinLine) (total high : Nat) (s : State) :
    Host.Outcome State Fault Refusal :=
  let s1 := s.elapse (s.ticksTo port line total)
  if s.power = .running && s1.closingEdgeDue port line total high then
    .next (s1.sampleLine port line .high Config.filterTicks)
  else .next s

/-- CAPTURE_WINDOW_EXPIRY (R85). -/
def execCaptureWindowExpiry (port : Fin 24) (line : PinLine) (s : State) : Host.Outcome State Fault Refusal :=
  match s.power with
  | .running => .next (s.windowExpires port line)
  | _ => .next s

/-- FILTERED_LEVEL_CHANGE (R79). -/
def execFilteredLevelChange (port : Fin 24) (line : PinLine) (samples : SampleRun) (s : State) :
    Host.Outcome State Fault Refusal :=
  match s.power with
  | .running => .next (s.sampleLine port line samples.level samples.ticks)
  | _ => .next s

end Sys2Proof.Machine
end

