-- ==== Sys2Proof/Machine/WetOps.lean ====
section
/-! DEFINITION. The wet-line monitor (Chapter 7): debounce, latch, acknowledgement, enabling and disabling. -/

namespace Sys2Proof.Machine

/-- R112, R117: the debounce timer of a line is started afresh at the debounce time then written. -/
def State.startDebounce (s : State) (l : Fin 8) : State :=
  s.setWet l { s.wet[l] with timer := some (s.now + s.store.written.wet.debounce * Config.ticksPerTenth) }

/-- Table 7-3: the raw level a classification gives a pin that shows `ohms`. -/
def classify (ohms : Nat) : WetLevel := if ohms < 40000 then .wet else if ohms ≤ 400000 then .dry else .openTape

/-- R111, R112: the raw level of a line changes. -/
def State.rawChange (s : State) (l : Fin 8) (v : WetLevel) : State :=
  let s1 := s.setWet l { s.wet[l] with raw := some v }
  if s.lineEnabled l then s1.startDebounce l else s1

/-- R116: the WETLINE notice of a change of debounced level. -/
def wetNotice (num : SweepNo) (l : Fin 8) (old : Option WetLevel) (w : WetLine) : Notice :=
  { kind := .wetline, subject := l, fromValue := wetLevelCode old, toValue := wetLevelCode w.debounced, sweep := num
    value := boolCode w.latch, quals := {} }

/-- R112, R113: a line after its debounce expired. -/
def WetLine.debounce (w : WetLine) : WetLine :=
  { w with timer := none, debounced := w.raw, latch := w.latch || (w.debounced ≠ w.raw && w.raw = some .wet) }

/-- R112, R113: the debounce of a line expires: its WETLINE notice, then the surfaces, then the outputs. -/
def State.debounceExpires (s : State) (l : Fin 8) : State :=
  let old := s.wet[l]
  let new := old.debounce
  let s1 := s.setWet l new
  if old.debounced = new.debounced then s1
  else
    let s2 := s1.offer [wetNotice s.sweep.number l old.debounced new]
    if new.latch && !old.latch then s2.latchEvent (SurfaceRec.latchSets l) else s2

/-- R115, R117: the latch of a line clears, with the clear reported when it was set. -/
def State.clearLatch (s : State) (l : Fin 8) : State :=
  if (s.wet[l]).latch then
    (s.setWet l { s.wet[l] with latch := false }).latchEvent (SurfaceRec.latchClears l)
  else s

/-- R117: the monitor acts on a line whose enabled value changed to the one now written. -/
def State.enabledChanged (s : State) (l : Fin 8) : State :=
  if s.lineEnabled l then s.startDebounce l
  else (s.setWet l { s.wet[l] with timer := none, debounced := none }).clearLatch l

/-- R118, R168: the monitor acts on every line whose enabled value differs from `old`, in ascending line number. -/
def State.actOnLines (s : State) (old : Vector Bool 8) : State :=
  (List.finRange 8).foldl (fun s l => if old[l] = s.lineEnabled l then s else s.enabledChanged l) s

end Sys2Proof.Machine
end

