-- ==== Sys2Proof/Machine/Layouts.lean ====
section
/-! DEFINITION. The byte layouts of the runtime records that cross the line (Section 10.8, Tables 10-8 to 10-13). Those of the
configuration records stand in Images.lean. -/

namespace Sys2Proof.Machine

/-- The qualifier byte of a present value (Table 10-8). -/
def Quals.present (q : Quals) : List Byte := u8 (128 + q.bits)

/-- A signed value with its qualifier byte; 0 and a clear byte when absent (R164). -/
def optSigned : Option (Int × Quals) → List Byte
  | none => s16 0 ++ u8 0
  | some (v, q) => s16 v ++ q.present

/-- An unsigned value with its qualifier byte; 0 and a clear byte when absent (R164). -/
def optUnsigned : Option (Nat × Quals) → List Byte
  | none => u16 0 ++ u8 0
  | some (v, q) => u16 v ++ q.present

/-- RH and T of a reading group, as offsets 6 to 11 of the runtime record carry them. -/
def Readings.rhAndT : Readings → List Byte
  | .absent => optUnsigned none ++ optSigned none
  | .air a => optUnsigned (some (a.rh, a.rhQ)) ++ optSigned (some (a.t, a.tQ))
  | .surface t q => optUnsigned none ++ optSigned (some (t, q))

/-- Tc, e and Td with their shared qualifier byte (Table 10-10). -/
def Readings.dewBytes : Readings → List Byte
  | .air a => s16 a.tc ++ u16 a.e ++ s16 a.td ++ a.dewQ.present
  | _ => s16 0 ++ u16 0 ++ s16 0 ++ u8 0

/-- The frozen Td with its Tc (Table 10-10). -/
def frozenBytes : Option Frozen → List Byte
  | none => s16 0 ++ s16 0 ++ u8 0
  | some f => s16 f.td ++ s16 f.tc ++ f.q.present

/-- A presence byte and a four-byte sweep number (Table 10-10). -/
def optSweep : Option SweepNo → List Byte
  | none => u8 0 ++ u32 0
  | some n => u8 1 ++ u32 n.toNat

/-- A runtime record of a point (Table 10-10). -/
def pointRunRecord (p : Fin 24) (r : PointRun) : List Byte :=
  u8 p ++ u8 r.health.code ++ u8 r.phase.code ++ u8 r.failRun ++ u8 r.satRun ++ u8 r.purgeCount
    ++ r.readings.rhAndT ++ r.readings.dewBytes ++ frozenBytes r.frozen ++ optSweep r.lastGood
    ++ match r.lastFailure with
       | none => u8 0 ++ u32 0
       | some (c, n) => u8 c.code ++ u32 n.toNat

/-- The values of a surface record: values_sweep, Ts, Td_surf and margin (Table 10-11). -/
def valuesBytes : Option Values → List Byte
  | none => u32 0 ++ optSigned none ++ optSigned none ++ optSigned none
  | some v =>
    u32 v.sweep.toNat ++ optSigned (some (v.ts, v.tsQ)) ++ optSigned (some (v.td, v.tdQ))
      ++ optSigned (some (v.margin, v.marginQ))

/-- A runtime record of a surface (Table 10-11). -/
def surfaceRunRecord (i : Fin 16) (r : SurfaceRun) : List Byte :=
  u8 i ++ u8 r.state.code ++ u8 r.riseRun ++ u8 r.fallRun ++ u8 r.heldAge ++ u8 (boolCode r.live)
    ++ valuesBytes r.values ++ u8 r.ring.length ++ (List.range 8).flatMap (fun j => s16 (r.ring.getD j 0))
    ++ u8 (r.forecast.getD 0) ++ u8 (flagBit r.forecast.isSome 1 + flagBit r.trendFlag 2)

/-- A timer's running mark and its time remaining (Table 10-13). -/
def timerBytes (now : Nat) (timer : Option Nat) (unit : Nat) : List Byte :=
  u8 (boolCode timer.isSome) ++ u16 (remaining now timer unit)

/-- An output record (Table 10-13). -/
def outputRecord (now : Nat) (o : Fin 2) (c : OutputCfg) (l : OutLine) : List Byte :=
  outputCfgRecord o c ++ u8 l.state.code ++ u8 (boolCode l.state.heldDemand)
    ++ timerBytes now l.minOn Config.ticksPerSecond ++ timerBytes now l.minOff Config.ticksPerSecond

/-- A wet-line entry (Table 10-13). -/
def wetEntry (now : Nat) (enabled : Bool) (w : WetLine) : List Byte :=
  u8 (boolCode enabled) ++ u8 (wetLevelCode w.raw) ++ u8 (wetLevelCode w.debounced) ++ u8 (boolCode w.latch)
    ++ timerBytes now w.timer Config.ticksPerTenth

/-- A notice (Table 10-12): the PRESENT bit of its qualifiers is clear. -/
def noticeRecord (n : Notice) : List Byte :=
  u8 n.kind.code ++ u8 n.subject ++ u16 n.fromValue ++ u16 n.toValue ++ u32 n.sweep.toNat ++ s16 n.value
    ++ u8 n.quals.bits

/-- A ranking entry (Table 10-12). -/
def rankRecord (e : RankEntry) : List Byte :=
  u8 e.surface ++ u8 e.state.code ++ s16 e.margin ++ u8 (boolCode e.held)

/-- A snapshot point entry (Table 10-12). -/
def snapPointRecord (p : SnapPoint) : List Byte :=
  u8 p.kind.code ++ u8 (10 * p.health.code + p.phase.code) ++ optUnsigned p.rh ++ optSigned p.t ++ optSigned p.td
    ++ optSigned p.frozen

/-- A snapshot surface entry (Table 10-12). -/
def snapSurfaceRecord (r : SnapSurface) : List Byte :=
  u8 (r.state.code + flagBit r.live 128) ++ optSigned r.margin ++ optSigned r.ts ++ optSigned r.td

/-- A page of the snapshot (R135): eight points, or the sixteen surfaces on page 3. -/
def snapPage (b : Snapshot) (page : Nat) : List Byte :=
  u8 page ++ u32 b.sweep.toNat
    ++ if page = 3 then (List.finRange 16).flatMap fun i => snapSurfaceRecord b.surfaces[i]
       else ((b.points.toList.drop (8 * page)).take 8).flatMap snapPointRecord

/-- The SWEEP reply (Table 10-13). -/
def sweepRecord (w : Sweep) : List Byte :=
  u8 w.mode.code ++ u16 w.interval ++ u16 (w.pendingIv.getD 0) ++ u8 (boolCode w.inFlight) ++ u32 w.number.toNat

end Sys2Proof.Machine
end

