-- ==== Sys2Proof/Machine/Link.lean ====
section
/-! DEFINITION. The link controller (Chapter 10): the summary block, taking a request, the reply. -/

namespace Sys2Proof.Machine

/-- Table 10-1: the bit rate the two straps select, in bits per second. -/
def bitRateOf (baud1 baud0 : Bool) : Nat :=
  match baud1, baud0 with
  | false, false => 19200
  | false, true => 9600
  | true, false => 38400
  | true, true => 19200

/-- R152: the bit rate the part sends and receives at, from the straps as it read them at its start. -/
def Link.bitRate (k : Link) : Nat := bitRateOf k.baud1 k.baud0

/-- TAPE_OPEN (R114): some enabled line has the debounced level OPEN. -/
def State.tapeOpen (s : State) : Bool :=
  (List.finRange 8).any fun l => s.lineEnabled l && (s.wet[l]).debounced = some .openTape

/-- WET_ANY (R114): some wet latch is set. -/
def State.wetAny (s : State) : Bool := (List.finRange 8).any fun l => (s.wet[l]).latch

/-- The flags of summary byte 2 (Table 10-8). -/
def State.summaryFlags (s : State) : Nat :=
  flagBit s.notices.overflow 1 + flagBit s.sweep.inFlight 2 + flagBit s.store.dirty 4 + flagBit s.store.nvFault 8
    + flagBit s.store.saving.isSome 16 + flagBit s.wetAny 32 + flagBit s.sweep.ready 64 + flagBit s.tapeOpen 128

/-- The summary block (R159). -/
def State.summary (s : State) : List Byte :=
  u8 s.notices.list.length ++ u8 s.summaryFlags ++ u8 (worstState s.surfaces + flagBit (anyUnknown s.surfaces) 128)
    ++ u8 s.sweep.number.toNat

/-- The reply assembled from an answer, with the summary block as the state stands (R155). -/
def State.replyFor (s : State) (kind : Byte) (a : Answer) : Reply :=
  { kind := kind, status := a.status, summary := s.summary, payload := a.payload, sending := false }

/-- The request is answered: the reply waits and the receiver is in ANSWER (R155). -/
def State.postReply (s : State) (kind : Byte) (a : Answer) : State :=
  { s with link := { s.link with receiver := .answer, buffer := [], reply := some (s.replyFor kind a) } }

/-- The receiver is in HUNT with an empty buffer (Table 10-2). -/
def State.hunt (s : State) : State := { s with link := { s.link with receiver := .hunt, buffer := [] } }

/-- The link controller receives: the part runs, and no reply is waiting or being sent (R153, R169). -/
def State.receives (s : State) : Bool := s.power = .running && s.link.receiver ≠ .answer

/-- A request under the part's own address is taken: the part receives and has an address of its own (R152, R155). -/
def State.takesOwn (s : State) : Bool := s.receives && s.link.address ≠ 0

/-- A request under the part's own address (R155): its owner acts on it, then the reply is assembled. -/
def State.answer (s : State) (kind : Byte) (handle : State → State × Answer) : State :=
  if s.takesOwn then
    let r := handle s
    r.1.postReply kind r.2
  else s

/-- A broadcast that is acted on (R157): as the same request under the part's own address, with no reply. -/
def State.broadcast (s : State) (handle : State → State × Answer) : State :=
  if s.receives then (handle s).1.hunt else s

/-- A request of a kind that broadcasts too (R157). -/
def State.request (s : State) (dest : Dest) (kind : Byte) (handle : State → State × Answer) : State :=
  match dest with
  | .own => s.answer kind handle
  | .broadcast => s.broadcast handle

/-- A refusal: nothing changes and the payload is empty (R158). -/
def State.refuse (s : State) (st : Status) : State × Answer := (s, { status := st, payload := [] })

/-- An acceptance that changes nothing. -/
def State.accept (s : State) (payload : List Byte) : State × Answer := (s, { status := .ok, payload := payload })

/-- A SAVE is in flight (R166). -/
def State.isSaving (s : State) : Bool := s.store.saving.isSome

/-- The bytes of a reply frame from the address through the last payload byte (Table 10-7). -/
def Reply.body (r : Reply) (adr : BitVec 5) : List Byte :=
  u8 adr.toNat ++ [r.kind] ++ u8 r.status.code ++ r.summary ++ u8 r.payload.length ++ r.payload

/-- A reply frame (R156, Table 10-7). -/
def Reply.frame (r : Reply) (adr : BitVec 5) : List Byte :=
  replyLead :: r.body adr ++ u16 (crc16 (r.body adr)).toNat

end Sys2Proof.Machine
end

