-- ==== Sys2Proof/Machine/LinkRequests.lean ====
section
/-! DEFINITION. The link controller's commands: IDENT, STATUS, RESTART, UNKNOWN_KIND, FRAME_DISCARD, FRAME_ABANDON,
REPLY_START, REPLY_END, SECONDS_COUNT (R153 to R156, R160 to R162). -/

namespace Sys2Proof.Machine

/-- R160: the payload of the IDENT reply. -/
def identPayload (adr : BitVec 5) : List Byte :=
  u8 0x55 ++ u16 0x2416 ++ u8 1 ++ u8 adr.toNat ++ u8 24 ++ u8 16 ++ u8 8 ++ u8 2

/-- R160: IDENT. -/
def identRequest (payload : List Byte) (s : State) : State × Answer :=
  if payload.length ≠ 0 then s.refuse .badLength else s.accept (identPayload s.link.address)

/-- R161: the payload of the STATUS reply. -/
def State.statusPayload (s : State) : List Byte :=
  u8 s.sweep.mode.code ++ u16 s.sweep.interval ++ u16 (s.sweep.pendingIv.getD 0) ++ u8 (boolCode s.sweep.inFlight)
    ++ u32 s.sweep.number.toNat ++ u32 s.link.seconds.toNat ++ u8 s.purge.grants.length ++ u8 s.purge.queue.length

/-- R161: STATUS. -/
def statusRequest (payload : List Byte) (s : State) : State × Answer :=
  if payload.length ≠ 0 then s.refuse .badLength else s.accept s.statusPayload

/-- R155: a kind that is not one of Table 10-3. -/
def unknownKindRequest (s : State) : State × Answer := s.refuse .unknownKind

/-- R162: every block takes its RESTART values (R31, R55, R74, R92, R109, R132, R141, R149). The wet lines and the store keep
theirs (R120, R165). -/
def State.restartBlocks (s : State) : State :=
  { s with
    points := Vector.ofFn fun p => { s.points[p] with run := .fresh (s.points[p]).cfg.kind }
    purge := .fresh
    capture := s.capture.discardAll
    surfaces := Vector.ofFn fun i => s.restartSurface s.surfaces[i]
    ranking := .fresh
    notices := .fresh
    outputs := Vector.replicate 2 .fresh
    sweep := { s.sweep with
      inFlight := false, overrunCount := 0, arm := false, ready := false, snapSweep := none, buffer := none } }

/-- R132, R162: RESTART, and the sweep that follows it in CONTINUOUS. -/
def State.restart (s : State) : State :=
  let s1 := s.restartBlocks
  match s1.sweep.mode with
  | .stopped => s1
  | .continuous => State.startSweep { s1 with sweep := s1.sweep.takePending.loadTimer s1.now }

/-- R162: the status of a RESTART request. -/
def State.restartStatus (s : State) (payload : List Byte) : Status :=
  if payload.length ≠ 0 then .badLength else if s.isSaving then .busy else .ok

/-- R162: RESTART under the part's own address: the reply is assembled before the restart. -/
def State.restartOwn (s : State) (payload : List Byte) : State :=
  if s.takesOwn then
    let s1 := s.postReply 0x32 { status := s.restartStatus payload, payload := [] }
    if s.restartStatus payload = .ok then s1.restart else s1
  else s

/-- R157, R162: a broadcast RESTART. -/
def State.restartBroadcast (s : State) (payload : List Byte) : State :=
  if s.receives then
    if s.restartStatus payload = .ok then s.hunt.restart else s.hunt
  else s

/-- R157: a frame that is discarded or abandoned leaves the receiver in HUNT (R153, R154); in ANSWER its bytes are lost. -/
def State.dropFrame (s : State) : State := if s.receives then s.hunt else s

/-- R156: the waiting reply begins to be sent. -/
def Link.startReply (k : Link) : Link :=
  match k.reply with
  | none => k
  | some r => { k with reply := some { r with sending := true } }

/-- R153: at the end of the reply's last stop bit the receiver leaves ANSWER for HUNT. -/
def Link.endReply (k : Link) : Link :=
  match k.reply with
  | none => k
  | some r => if r.sending then { k with reply := none, receiver := .hunt, buffer := [] } else k

/-- R161: a whole second has passed. -/
def State.countSecond (s : State) : State :=
  let s1 := s.elapseTo s.link.secondEnds
  { s1 with
    link := { s1.link with
      seconds := s1.link.seconds + 1, secondEnds := s1.link.secondEnds + Config.ticksPerSecond } }

/-- IDENT (R160). -/
def execIdent (payload : List Byte) (s : State) : Host.Outcome State Fault Refusal :=
  .next (s.answer 0x01 (identRequest payload))

/-- STATUS (R161). -/
def execStatus (payload : List Byte) (s : State) : Host.Outcome State Fault Refusal :=
  .next (s.answer 0x02 (statusRequest payload))

/-- RESTART (R162). -/
def execRestart (dest : Dest) (payload : List Byte) (s : State) : Host.Outcome State Fault Refusal :=
  match dest with
  | .own => .next (s.restartOwn payload)
  | .broadcast => .next (s.restartBroadcast payload)

/-- FRAME_DISCARD (R154): whatever its cause, the frame changes nothing and gets no reply. -/
def execFrameDiscard (_cause : DiscardCause) (s : State) : Host.Outcome State Fault Refusal := .next s.dropFrame

/-- FRAME_ABANDON (R153): whatever its cause, the frame changes nothing and gets no reply. -/
def execFrameAbandon (_cause : AbandonCause) (s : State) : Host.Outcome State Fault Refusal := .next s.dropFrame

/-- REPLY_START (R156). With no reply waiting there is none (assumption 3). -/
def execReplyStart (s : State) : Host.Outcome State Fault Refusal :=
  match s.power with
  | .running => .next { s with link := s.link.startReply }
  | _ => .next s

/-- REPLY_END (R153). With no reply being sent there is none (assumption 3). -/
def execReplyEnd (s : State) : Host.Outcome State Fault Refusal :=
  match s.power with
  | .running => .next { s with link := s.link.endReply }
  | _ => .next s

/-- SECONDS_COUNT (R161). -/
def execSecondsCount (s : State) : Host.Outcome State Fault Refusal :=
  match s.power with
  | .running => .next s.countSecond
  | _ => .next s

end Sys2Proof.Machine
end

