-- ==== Sys2Proof/Machine/NoticeRequests.lean ====
section
/-! DEFINITION. The notice queue's commands: NOTICE_READ and NOTICE_DROP (R138, R140). -/

namespace Sys2Proof.Machine

/-- R138: the reply of a NOTICE_READ of `k` notices. -/
def noticeReadPayload (q : NoticeQueue) (k : Nat) : List Byte :=
  u8 (min k q.list.length) ++ u8 q.list.length ++ u8 (boolCode q.overflow) ++ (q.list.take k).flatMap noticeRecord

/-- R138: NOTICE_READ. -/
def noticeReadRequest (payload : List Byte) (s : State) : State × Answer :=
  if payload.length ≠ 1 then s.refuse .badLength
  else
    let k := limitNat 1 5 (byteAt payload 0)
    (s, { status := writeStatus (k ≠ byteAt payload 0), payload := noticeReadPayload s.notices k })

/-- R140: the oldest `n` notices leave the queue and the overflow flag clears. -/
def NoticeQueue.dropOldest (q : NoticeQueue) (n : Nat) : NoticeQueue := { list := q.list.drop n, overflow := false }

/-- R140: NOTICE_DROP. -/
def noticeDropRequest (payload : List Byte) (s : State) : State × Answer :=
  if payload.length ≠ 1 then s.refuse .badLength
  else
    let n := byteAt payload 0
    State.accept { s with notices := s.notices.dropOldest n }
      (u8 (min n s.notices.list.length) ++ u8 (s.notices.list.length - n))

/-- NOTICE_READ (R138). -/
def execNoticeRead (payload : List Byte) (s : State) : Host.Outcome State Fault Refusal :=
  .next (s.answer 0x21 (noticeReadRequest payload))

/-- NOTICE_DROP (R140). -/
def execNoticeDrop (payload : List Byte) (s : State) : Host.Outcome State Fault Refusal :=
  .next (s.answer 0x22 (noticeDropRequest payload))

end Sys2Proof.Machine
end

