-- ==== Sys2Proof/Machine/OutputRequests.lean ====
section
/-! DEFINITION. The output controller's commands: OUTPUT_WRITE, OUTPUT_READ, MIN_ON_EXPIRY, MIN_OFF_EXPIRY (R146, R150,
R151). -/

namespace Sys2Proof.Machine

/-- R150: the configuration of a line is replaced whole, and the demand of both lines is evaluated against it. -/
def State.writeOutput (s : State) (o : Fin 2) (c : OutputCfg) : State :=
  (s.writeImage { s.store.written with outputs := s.store.written.outputs.set o c }).evalOutputs

/-- The record of an output line as it stands (Table 10-13). -/
def State.outputBytes (s : State) (o : Fin 2) : List Byte :=
  outputRecord s.now o s.store.written.outputs[o] s.outputs[o]

/-- R150: OUTPUT_WRITE. -/
def outputWriteRequest (payload : List Byte) (s : State) : State × Answer :=
  if payload.length ≠ 10 then s.refuse .badLength
  else if s.isSaving then s.refuse .busy
  else if 2 ≤ byteAt payload 0 then s.refuse .badIndex
  else
    match tripLevelOf (byteAt payload 3), contactOf (byteAt payload 9) with
    | some t, some k =>
      if isBoolCode (byteAt payload 4) then
        let o := Fin.ofNat 2 (byteAt payload 0)
        let raw := outputCfgAt t k payload
        let s' := s.writeOutput o raw.limit
        (s', { status := writeStatus (raw.limit ≠ raw), payload := s'.outputBytes o })
      else s.refuse .badValue
    | _, _ => s.refuse .badValue

/-- R151: OUTPUT_READ. -/
def outputReadRequest (payload : List Byte) (s : State) : State × Answer :=
  if payload.length ≠ 1 then s.refuse .badLength
  else if 2 ≤ byteAt payload 0 then s.refuse .badIndex
  else s.accept (s.outputBytes (Fin.ofNat 2 (byteAt payload 0)))

/-- R146: a min-on timer expires at tick `t`. -/
def State.minOnExpires (s : State) (o : Fin 2) (t : Nat) : State :=
  let s1 := s.elapseTo t
  s1.setOut o ((s1.outputs[o]).minOnExpires s1.store.written.outputs[o] s1.now)

/-- R146: a min-off timer expires at tick `t`. -/
def State.minOffExpires (s : State) (o : Fin 2) (t : Nat) : State :=
  let s1 := s.elapseTo t
  s1.setOut o ((s1.outputs[o]).minOffExpires s1.store.written.outputs[o] s1.now)

/-- OUTPUT_WRITE (R150). -/
def execOutputWrite (payload : List Byte) (s : State) : Host.Outcome State Fault Refusal :=
  .next (s.answer 0x16 (outputWriteRequest payload))

/-- OUTPUT_READ (R151). -/
def execOutputRead (payload : List Byte) (s : State) : Host.Outcome State Fault Refusal :=
  .next (s.answer 0x17 (outputReadRequest payload))

/-- MIN_ON_EXPIRY (R146). A timer that is stopped does not expire (assumption 3). -/
def execMinOnExpiry (o : Fin 2) (s : State) : Host.Outcome State Fault Refusal :=
  match s.power, (s.outputs[o]).minOn with
  | .running, some t => .next (s.minOnExpires o t)
  | _, _ => .next s

/-- MIN_OFF_EXPIRY (R146). A timer that is stopped does not expire (assumption 3). -/
def execMinOffExpiry (o : Fin 2) (s : State) : Host.Outcome State Fault Refusal :=
  match s.power, (s.outputs[o]).minOff with
  | .running, some t => .next (s.minOffExpires o t)
  | _, _ => .next s

end Sys2Proof.Machine
end

