-- ==== Sys2Proof/Machine/PointRequests.lean ====
section
/-! DEFINITION. The point requests and the global settings (Section 4.8, R75 to R78, R163): POINT_WRITE, POINT_READ,
GLOBAL_WRITE, GLOBAL_READ. -/

namespace Sys2Proof.Machine

/-- R76: the written configuration of a point is replaced whole. -/
def State.writePoint (s : State) (p : Fin 24) (c : PointCfg) : State :=
  s.writeImage { s.store.written with points := s.store.written.points.set p c }

/-- R75, R76: POINT_WRITE. -/
def pointWriteRequest (payload : List Byte) (s : State) : State × Answer :=
  if payload.length ≠ 8 then s.refuse .badLength
  else if s.isSaving then s.refuse .busy
  else if 24 ≤ byteAt payload 0 then s.refuse .badIndex
  else
    match pointKindOf (byteAt payload 1) with
    | none => s.refuse .badValue
    | some k =>
      let raw := pointCfgAt k payload
      let c := raw.limit
      if c.cWet < c.cDry + 100 then s.refuse .badValue
      else
        let p := Fin.ofNat 24 (byteAt payload 0)
        (s.writePoint p c, { status := writeStatus (c ≠ raw), payload := pointCfgRecord p c })

/-- R77: POINT_READ. -/
def pointReadRequest (payload : List Byte) (s : State) : State × Answer :=
  if payload.length ≠ 2 then s.refuse .badLength
  else if 24 ≤ byteAt payload 0 then s.refuse .badIndex
  else
    let p := Fin.ofNat 24 (byteAt payload 0)
    match byteAt payload 1 with
    | 0 => s.accept (u8 0 ++ pointCfgRecord p s.store.written.points[p])
    | 1 => s.accept (u8 1 ++ pointCfgRecord p (s.points[p]).cfg)
    | 2 => s.accept (u8 2 ++ pointRunRecord p (s.points[p]).run)
    | _ => s.refuse .badValue

/-- R78, R94, R110, R163: GLOBAL_WRITE. -/
def globalWriteRequest (payload : List Byte) (s : State) : State × Answer :=
  if payload.length ≠ 13 then s.refuse .badLength
  else if s.isSaving then s.refuse .busy
  else
    let raw := globalCfgAt payload
    if raw.divisorsOk then
      let g := raw.limit
      (s.writeImage { s.store.written with globals := g },
        { status := writeStatus (g ≠ raw), payload := globalRecord g })
    else s.refuse .badValue

/-- R163: GLOBAL_READ. -/
def globalReadRequest (payload : List Byte) (s : State) : State × Answer :=
  if payload.length ≠ 0 then s.refuse .badLength else s.accept (globalRecord s.store.written.globals)

/-- POINT_WRITE (R75). -/
def execPointWrite (payload : List Byte) (s : State) : Host.Outcome State Fault Refusal :=
  .next (s.answer 0x10 (pointWriteRequest payload))

/-- POINT_READ (R77). -/
def execPointRead (payload : List Byte) (s : State) : Host.Outcome State Fault Refusal :=
  .next (s.answer 0x11 (pointReadRequest payload))

/-- GLOBAL_WRITE (R163). -/
def execGlobalWrite (payload : List Byte) (s : State) : Host.Outcome State Fault Refusal :=
  .next (s.answer 0x14 (globalWriteRequest payload))

/-- GLOBAL_READ (R163). -/
def execGlobalRead (payload : List Byte) (s : State) : Host.Outcome State Fault Refusal :=
  .next (s.answer 0x15 (globalReadRequest payload))

end Sys2Proof.Machine
end

