-- ==== Sys2Proof/Machine/PurgeRequests.lean ====
section
/-! DEFINITION. The purge controller's commands: PURGE, HEATER_PERIOD_START, HEATER_ON_TIME_END, PURGE_TIMER_EXPIRY,
RECOVERY_TIMER_EXPIRY (R101 to R104, R106). A timer or period that does not run has no event (assumption 3). -/

namespace Sys2Proof.Machine

/-- R106 check 3: the point may be purged on request. -/
def PointRec.purgeable (r : PointRec) : Bool :=
  r.cfg.kind = .air && r.run.health.goodOrHolding && (r.run.phase = .none || r.run.phase = .soaked)

/-- R106: an accepted PURGE. -/
def State.manualPurge (s : State) (p : Fin 24) : State :=
  ((s.recordPoint p { (s.points[p]).run with phase := .waiting, satRun := 0 }).arrivePurge p .manual).settle

/-- R106: PURGE. -/
def purgeRequest (payload : List Byte) (s : State) : State × Answer :=
  if payload.length ≠ 1 then s.refuse .badLength
  else if 24 ≤ byteAt payload 0 then s.refuse .badIndex
  else
    let p := Fin.ofNat 24 (byteAt payload 0)
    if (s.points[p]).purgeable then
      let s' := s.manualPurge p
      s'.accept (u8 p ++ u8 (s'.points[p]).run.phase.code)
    else s.refuse .badState

/-- R103: the purge timer of point `p` expires. -/
def State.purgeExpires (s : State) (p : Fin 24) : State :=
  let old := (s.points[p]).run
  let new := { old with phase := .recovering }
  let ends := s.now + s.store.written.globals.recoveryTime * Config.ticksPerSecond
  let g := s.purge.release p
  let s1 := { s.setRun p new with purge := { g with recovery := g.recovery.set p (some ends) } }
  let r := s1.serve
  (r.1.offer (bySubject (pointNotice s.sweep.number p old new ++ r.2))).settle

/-- R104: the recovery timer of point `p` expires. -/
def State.recoveryExpires (s : State) (p : Fin 24) : State :=
  State.recordPoint { s with purge := { s.purge with recovery := s.purge.recovery.set p none } } p
    { (s.points[p]).run with phase := .none, frozen := none }

/-- R101, R102: the next PWM period of a grant starts with the duty then written; none starts as the purge timer expires. -/
def State.periodStarts (s : State) (g : Grant) : State :=
  let next := g.periodStart + Config.ticksPerSecond
  if next < g.purgeEnds then
    let s1 := s.elapseTo next
    { s1 with
      purge := s1.purge.setGrant
        { g with periodStart := next, energised := true, duty := s1.store.written.globals.heaterDuty } }
  else s

/-- R101: the on time of a grant's period ends; at a duty of 100 it does not. -/
def State.onTimeEnds (s : State) (g : Grant) : State :=
  if g.energised && g.duty < 100 then
    let s1 := s.elapseTo (g.periodStart + g.duty * Config.ticksPerDutyPercent)
    { s1 with purge := s1.purge.setGrant { g with energised := false } }
  else s

/-- PURGE (R106). -/
def execPurge (payload : List Byte) (s : State) : Host.Outcome State Fault Refusal :=
  .next (s.answer 0x27 (purgeRequest payload))

/-- HEATER_PERIOD_START (R101). -/
def execHeaterPeriodStart (p : Fin 24) (s : State) : Host.Outcome State Fault Refusal :=
  match s.power, s.purge.grantOf p with
  | .running, some g => .next (s.periodStarts g)
  | _, _ => .next s

/-- HEATER_ON_TIME_END (R101). -/
def execHeaterOnTimeEnd (p : Fin 24) (s : State) : Host.Outcome State Fault Refusal :=
  match s.power, s.purge.grantOf p with
  | .running, some g => .next (s.onTimeEnds g)
  | _, _ => .next s

/-- PURGE_TIMER_EXPIRY (R103). -/
def execPurgeTimerExpiry (p : Fin 24) (s : State) : Host.Outcome State Fault Refusal :=
  match s.power, s.purge.grantOf p with
  | .running, some g => .next ((s.elapseTo g.purgeEnds).purgeExpires p)
  | _, _ => .next s

/-- RECOVERY_TIMER_EXPIRY (R104). -/
def execRecoveryTimerExpiry (p : Fin 24) (s : State) : Host.Outcome State Fault Refusal :=
  match s.power, s.purge.recovery[p] with
  | .running, some t => .next ((s.elapseTo t).recoveryExpires p)
  | _, _ => .next s

end Sys2Proof.Machine
end

