-- ==== Sys2Proof/Machine/StoreRequests.lean ====
section
/-! DEFINITION. The configuration store's commands: SAVE, SAVE_COMPLETE, LOAD (R166 to R168). -/

namespace Sys2Proof.Machine

/-- R166: SAVE. -/
def saveRequest (payload : List Byte) (s : State) : State × Answer :=
  if payload.length ≠ 0 then s.refuse .badLength
  else if s.isSaving then s.refuse .busy
  else State.accept { s with store := { s.store with saving := some s.store.written } } []

/-- R137: the SAVED notice, with result 0 for OK and 1 for FAIL. -/
def savedNotice (num : SweepNo) (verified : Bool) : Notice :=
  { kind := .saved, subject := 0, fromValue := 0, toValue := boolCode (!verified), sweep := num, value := 0, quals := {} }

/-- R167: the store after the end of the write of `copy` with its CRC. -/
def Store.saved? (t : Store) (copy : Image) (verified : Bool) : Store :=
  if verified then
    { t with saving := none, saved := some copy.seal, nv := some copy.seal, dirty := false, nvFault := false }
  else { t with saving := none, saved := none, nv := none, dirty := true, nvFault := true }

/-- R167: the SAVE in flight ends. -/
def State.saveEnds (s : State) (copy : Image) (verified : Bool) : State :=
  State.offer { s with store := s.store.saved? copy verified } [savedNotice s.sweep.number verified]

/-- R168: the image `i` is loaded over the written one, and the blocks whose configuration acts as it is written act on it:
the wet lines, then OUT_A and OUT_B, then the sweep controller's pending interval. The heater drive reads its settings
from the written image when it needs them. -/
def State.loadImage (s : State) (i : Image) : State :=
  let old := s.store.written.wet.enabled
  let s1 := { s with store := { s.store with written := i, dirty := false } }
  let s2 := (s1.actOnLines old).evalOutputs.evalOutputs
  { s2 with sweep := { s2.sweep with pendingIv := some i.interval } }

/-- R168: LOAD. -/
def loadRequest (payload : List Byte) (s : State) : State × Answer :=
  if payload.length ≠ 0 then s.refuse .badLength
  else if s.isSaving then s.refuse .busy
  else
    match s.store.saved with
    | none => s.refuse .badState
    | some m => (s.loadImage m.image).accept []

/-- SAVE (R166). -/
def execSave (payload : List Byte) (s : State) : Host.Outcome State Fault Refusal :=
  .next (s.answer 0x30 (saveRequest payload))

/-- LOAD (R168). -/
def execLoad (payload : List Byte) (s : State) : Host.Outcome State Fault Refusal :=
  .next (s.answer 0x31 (loadRequest payload))

/-- SAVE_COMPLETE (R167). With no SAVE in flight there is none (assumption 3). -/
def execSaveComplete (verified : Bool) (s : State) : Host.Outcome State Fault Refusal :=
  match s.power, s.store.saving with
  | .running, some copy => .next (s.saveEnds copy verified)
  | _, _ => .next s

end Sys2Proof.Machine
end

