-- ==== Sys2Proof/Machine/SurfaceRequests.lean ====
section
/-! DEFINITION. The requests of the surface evaluator: SURFACE_WRITE, SURFACE_READ, RANK_READ (R32 to R34, R56). -/

namespace Sys2Proof.Machine

/-- R33: the written configuration of a surface is replaced whole. -/
def State.writeSurface (s : State) (i : Fin 16) (c : SurfaceCfg) : State :=
  s.writeImage { s.store.written with surfaces := s.store.written.surfaces.set i c }

/-- R32, R33: SURFACE_WRITE. -/
def surfaceWriteRequest (payload : List Byte) (s : State) : State × Answer :=
  if payload.length ≠ 25 then s.refuse .badLength
  else if s.isSaving then s.refuse .busy
  else if !surfaceIndexesOk payload then s.refuse .badIndex
  else
    match combineModeOf (byteAt payload 12) with
    | none => s.refuse .badValue
    | some m =>
      if surfaceStructureOk payload then
        let i := Fin.ofNat 16 (byteAt payload 0)
        let raw := surfaceCfgAt m payload
        let c := raw.limit
        (s.writeSurface i c, { status := writeStatus (c ≠ raw), payload := surfaceCfgRecord i c })
      else s.refuse .badValue

/-- R34: SURFACE_READ. -/
def surfaceReadRequest (payload : List Byte) (s : State) : State × Answer :=
  if payload.length ≠ 2 then s.refuse .badLength
  else if 16 ≤ byteAt payload 0 then s.refuse .badIndex
  else
    let i := Fin.ofNat 16 (byteAt payload 0)
    match byteAt payload 1 with
    | 0 => s.accept (u8 0 ++ surfaceCfgRecord i s.store.written.surfaces[i])
    | 1 => s.accept (u8 1 ++ surfaceCfgRecord i (s.surfaces[i]).cfg)
    | 2 => s.accept (u8 2 ++ surfaceRunRecord i (s.surfaces[i]).run)
    | _ => s.refuse .badValue

/-- R56: RANK_READ. -/
def rankReadRequest (payload : List Byte) (s : State) : State × Answer :=
  if payload.length ≠ 0 then s.refuse .badLength
  else
    s.accept (u8 s.ranking.entries.length ++ u32 s.ranking.sweep.toNat ++ s.ranking.entries.flatMap rankRecord)

/-- SURFACE_WRITE (R32). -/
def execSurfaceWrite (payload : List Byte) (s : State) : Host.Outcome State Fault Refusal :=
  .next (s.answer 0x12 (surfaceWriteRequest payload))

/-- SURFACE_READ (R34). -/
def execSurfaceRead (payload : List Byte) (s : State) : Host.Outcome State Fault Refusal :=
  .next (s.answer 0x13 (surfaceReadRequest payload))

/-- RANK_READ (R56). -/
def execRankRead (payload : List Byte) (s : State) : Host.Outcome State Fault Refusal :=
  .next (s.answer 0x23 (rankReadRequest payload))

end Sys2Proof.Machine
end

