-- ==== Sys2Proof/Machine/SweepRequests.lean ====
section
/-! DEFINITION. The sweep controller's commands: SWEEP RUN, STOP, ONCE and INTERVAL, SWEEP_TIMER_EXPIRY, SNAP_ARM, SNAP_READ
(R122 to R129, R133, R135). -/

namespace Sys2Proof.Machine

/-- R129: the start-up mode is written, with DIRTY when it differs from what the image held. -/
def State.writeStartMode (s : State) (m : SweepMode) : State :=
  if s.store.written.startMode = m then s else s.writeImage { s.store.written with startMode := m }

/-- R129: the interval is written, with DIRTY when it differs from what the image held. -/
def State.writeInterval (s : State) (v : Nat) : State :=
  if s.store.written.interval = v then s else s.writeImage { s.store.written with interval := v }

/-- R125: an accepted RUN. -/
def State.run (s : State) : State :=
  match s.sweep.mode with
  | .continuous => s
  | .stopped =>
    let w := ({ s.sweep with mode := .continuous }).takePending.loadTimer s.now
    let s1 := State.writeStartMode { s with sweep := w } .continuous
    if w.inFlight then s1 else s1.startSweep

/-- R126: an accepted STOP. -/
def State.stop (s : State) : State :=
  match s.sweep.mode with
  | .stopped => s
  | .continuous =>
    State.writeStartMode { s with sweep := { s.sweep with mode := .stopped, timer := none } } .stopped

/-- R128: an accepted INTERVAL. -/
def State.setInterval (s : State) (v : Nat) : State :=
  State.writeInterval { s with sweep := { s.sweep with pendingIv := some v } } v

/-- R124: the answer of an accepted SWEEP. -/
def State.sweepAnswer (s : State) (st : Status) : State × Answer := (s, { status := st, payload := sweepRecord s.sweep })

/-- R124, R125: SWEEP with the action RUN; `rest` is the payload after the action. -/
def sweepRunRequest (rest : List Byte) (s : State) : State × Answer :=
  if rest.length ≠ 2 then s.refuse .badLength
  else if s.isSaving then s.refuse .busy
  else s.run.sweepAnswer .ok

/-- R124, R126: SWEEP with the action STOP. -/
def sweepStopRequest (rest : List Byte) (s : State) : State × Answer :=
  if rest.length ≠ 2 then s.refuse .badLength
  else if s.isSaving then s.refuse .busy
  else s.stop.sweepAnswer .ok

/-- R124, R127: SWEEP with the action ONCE, which a SAVE does not refuse. -/
def sweepOnceRequest (rest : List Byte) (s : State) : State × Answer :=
  if rest.length ≠ 2 then s.refuse .badLength
  else if s.sweep.mode = .continuous then s.refuse .badState
  else if s.sweep.inFlight then s.refuse .busy
  else s.startSweep.sweepAnswer .ok

/-- R124, R128: SWEEP with the action INTERVAL. -/
def sweepIntervalRequest (rest : List Byte) (s : State) : State × Answer :=
  if rest.length ≠ 2 then s.refuse .badLength
  else if s.isSaving then s.refuse .busy
  else
    let v := limitNat 2 600 (u16At rest 0)
    (s.setInterval v).sweepAnswer (writeStatus (v ≠ u16At rest 0))

/-- R124: a SWEEP request as the line carries it, the action in its first byte. -/
def sweepRequest (payload : List Byte) (s : State) : State × Answer :=
  match payload with
  | [] => s.refuse .badLength
  | action :: rest =>
    match action.toNat with
    | 0 => sweepRunRequest rest s
    | 1 => sweepStopRequest rest s
    | 2 => sweepOnceRequest rest s
    | 3 => sweepIntervalRequest rest s
    | _ => if rest.length ≠ 2 then s.refuse .badLength else s.refuse .badValue

/-- The SNAP_ARM reply (Table 10-13). -/
def snapArmRecord (w : Sweep) : List Byte :=
  u8 (boolCode w.arm) ++ optSweep w.snapSweep ++ u8 (boolCode w.ready) ++ optSweep (w.buffer.map Snapshot.sweep)

/-- R133: SNAP_ARM. -/
def snapArmRequest (payload : List Byte) (s : State) : State × Answer :=
  if payload.length ≠ 0 then s.refuse .badLength
  else State.accept { s with sweep := { s.sweep with arm := true } } (snapArmRecord { s.sweep with arm := true })

/-- R135: SNAP_READ. -/
def snapReadRequest (payload : List Byte) (s : State) : State × Answer :=
  if payload.length ≠ 1 then s.refuse .badLength
  else if 4 ≤ byteAt payload 0 then s.refuse .badValue
  else
    match s.sweep.ready, s.sweep.buffer with
    | true, some b => s.accept (snapPage b (byteAt payload 0))
    | _, _ => s.refuse .badState

/-- SWEEP RUN (R125). -/
def execSweepRun (dest : Dest) (rest : List Byte) (s : State) : Host.Outcome State Fault Refusal :=
  .next (s.request dest 0x20 (sweepRunRequest rest))

/-- SWEEP STOP (R126). -/
def execSweepStop (dest : Dest) (rest : List Byte) (s : State) : Host.Outcome State Fault Refusal :=
  .next (s.request dest 0x20 (sweepStopRequest rest))

/-- SWEEP ONCE (R127). -/
def execSweepOnce (dest : Dest) (rest : List Byte) (s : State) : Host.Outcome State Fault Refusal :=
  .next (s.request dest 0x20 (sweepOnceRequest rest))

/-- SWEEP INTERVAL (R128). -/
def execSweepInterval (dest : Dest) (rest : List Byte) (s : State) : Host.Outcome State Fault Refusal :=
  .next (s.request dest 0x20 (sweepIntervalRequest rest))

/-- SWEEP_TIMER_EXPIRY (R122). A timer that is stopped does not expire (assumption 3). -/
def execSweepTimerExpiry (s : State) : Host.Outcome State Fault Refusal :=
  match s.power, s.sweep.timer with
  | .running, some t => .next ((s.elapseTo t).sweepTimerExpires t)
  | _, _ => .next s

/-- SNAP_ARM (R133). -/
def execSnapArm (dest : Dest) (payload : List Byte) (s : State) : Host.Outcome State Fault Refusal :=
  .next (s.request dest 0x24 (snapArmRequest payload))

/-- SNAP_READ (R135). -/
def execSnapRead (payload : List Byte) (s : State) : Host.Outcome State Fault Refusal :=
  .next (s.answer 0x25 (snapReadRequest payload))

end Sys2Proof.Machine
end

