-- ==== Sys2Proof/Machine/WetRequests.lean ====
section
/-! DEFINITION. The wet-line monitor's commands: WETLINE_WRITE, WETLINE_READ, WET_ACK, RAW_LEVEL_CHANGE, DEBOUNCE_EXPIRY
(R111, R112, R115, R118, R119). -/

namespace Sys2Proof.Machine

/-- R118: the wet-line configuration is stored, and the lines whose enabled value changed are acted on. -/
def State.writeWet (s : State) (c : WetCfg) : State :=
  (s.writeImage { s.store.written with wet := c }).actOnLines s.store.written.wet.enabled

/-- R118: WETLINE_WRITE. -/
def wetlineWriteRequest (payload : List Byte) (s : State) : State × Answer :=
  if payload.length ≠ 10 then s.refuse .badLength
  else if s.isSaving then s.refuse .busy
  else if (List.range 8).all fun i => isBoolCode (byteAt payload i) then
    let raw := wetCfgAt payload
    (s.writeWet raw.limit, { status := writeStatus (raw.limit ≠ raw), payload := wetCfgRecord raw.limit })
  else s.refuse .badValue

/-- R119: WETLINE_READ. -/
def wetlineReadRequest (payload : List Byte) (s : State) : State × Answer :=
  if payload.length ≠ 0 then s.refuse .badLength
  else
    s.accept (u16 s.store.written.wet.debounce
      ++ (List.finRange 8).flatMap fun l => wetEntry s.now (s.lineEnabled l) s.wet[l])

/-- R115: WET_ACK. -/
def wetAckRequest (payload : List Byte) (s : State) : State × Answer :=
  if payload.length ≠ 1 then s.refuse .badLength
  else if 8 ≤ byteAt payload 0 then s.refuse .badIndex
  else
    let l := Fin.ofNat 8 (byteAt payload 0)
    if (s.wet[l]).debounced = some .wet then s.refuse .stillWet
    else
      let s' := s.clearLatch l
      s'.accept (u8 l ++ u8 (wetLevelCode (s'.wet[l]).debounced) ++ u8 (boolCode (s'.wet[l]).latch))

/-- WETLINE_WRITE (R118). -/
def execWetlineWrite (payload : List Byte) (s : State) : Host.Outcome State Fault Refusal :=
  .next (s.answer 0x18 (wetlineWriteRequest payload))

/-- WETLINE_READ (R119). -/
def execWetlineRead (payload : List Byte) (s : State) : Host.Outcome State Fault Refusal :=
  .next (s.answer 0x19 (wetlineReadRequest payload))

/-- WET_ACK (R115). -/
def execWetAck (payload : List Byte) (s : State) : Host.Outcome State Fault Refusal :=
  .next (s.answer 0x26 (wetAckRequest payload))

/-- RAW_LEVEL_CHANGE (R111). A classification equal to the raw level is no change (assumption 3). -/
def execRawLevelChange (l : Fin 8) (ohms : Nat) (s : State) : Host.Outcome State Fault Refusal :=
  if s.power = .running && (s.wet[l]).raw ≠ some (classify ohms) then .next (s.rawChange l (classify ohms))
  else .next s

/-- DEBOUNCE_EXPIRY (R112). A timer that is stopped does not expire (assumption 3). -/
def execDebounceExpiry (l : Fin 8) (s : State) : Host.Outcome State Fault Refusal :=
  match s.power, (s.wet[l]).timer with
  | .running, some t => .next ((s.elapseTo t).debounceExpires l)
  | _, _ => .next s

end Sys2Proof.Machine
end

