-- ==== Sys2Proof/Machine/Frame.lean ====
section
/-! DEFINITION. The bytes of the line: collecting a frame, judging it, and dispatching the request it carries (R153 to R157).
BYTE_RECEIVED and UNKNOWN_KIND. -/

namespace Sys2Proof.Machine

/-- R155: a request taken under the part's own address is handed to the block that owns its kind (Table 10-3). -/
def State.dispatchOwn (s : State) (kind : Byte) (payload : List Byte) : State :=
  match kind.toNat with
  | 0x01 => s.answer kind (identRequest payload)
  | 0x02 => s.answer kind (statusRequest payload)
  | 0x10 => s.answer kind (pointWriteRequest payload)
  | 0x11 => s.answer kind (pointReadRequest payload)
  | 0x12 => s.answer kind (surfaceWriteRequest payload)
  | 0x13 => s.answer kind (surfaceReadRequest payload)
  | 0x14 => s.answer kind (globalWriteRequest payload)
  | 0x15 => s.answer kind (globalReadRequest payload)
  | 0x16 => s.answer kind (outputWriteRequest payload)
  | 0x17 => s.answer kind (outputReadRequest payload)
  | 0x18 => s.answer kind (wetlineWriteRequest payload)
  | 0x19 => s.answer kind (wetlineReadRequest payload)
  | 0x20 => s.answer kind (sweepRequest payload)
  | 0x21 => s.answer kind (noticeReadRequest payload)
  | 0x22 => s.answer kind (noticeDropRequest payload)
  | 0x23 => s.answer kind (rankReadRequest payload)
  | 0x24 => s.answer kind (snapArmRequest payload)
  | 0x25 => s.answer kind (snapReadRequest payload)
  | 0x26 => s.answer kind (wetAckRequest payload)
  | 0x27 => s.answer kind (purgeRequest payload)
  | 0x30 => s.answer kind (saveRequest payload)
  | 0x31 => s.answer kind (loadRequest payload)
  | 0x32 => s.restartOwn payload
  | _ => s.answer kind unknownKindRequest

/-- R157: a frame taken as a broadcast is acted on for SWEEP, SNAP_ARM and RESTART, and ignored otherwise. -/
def State.dispatchBroadcast (s : State) (kind : Byte) (payload : List Byte) : State :=
  match kind.toNat with
  | 0x20 => s.broadcast (sweepRequest payload)
  | 0x24 => s.broadcast (snapArmRequest payload)
  | 0x32 => s.restartBroadcast payload
  | _ => s.dropFrame

/-- The payload length a buffer's fourth byte gives (Table 10-6). -/
def frameLength (buffer : List Byte) : Nat := byteAt buffer 3

/-- R154: the CRC of a complete buffer agrees with its last two bytes. -/
def frameCrcOk (buffer : List Byte) : Bool :=
  (crc16 ((buffer.drop 1).take (3 + frameLength buffer))).toNat = u16At buffer (4 + frameLength buffer)

/-- R154: a complete frame is judged. -/
def State.judgeFrame (s : State) (buffer : List Byte) : State :=
  let kind := buffer.getD 2 0
  let payload := (buffer.drop 4).take (frameLength buffer)
  if !frameCrcOk buffer then s.dropFrame
  else if byteAt buffer 1 = 0 then s.dispatchBroadcast kind payload
  else if byteAt buffer 1 = s.link.address.toNat then s.dispatchOwn kind payload
  else s.dropFrame

/-- R153: a byte received in HUNT. -/
def State.huntByte (s : State) (b : Byte) : State :=
  if b = requestLead then { s with link := { s.link with receiver := .frame, buffer := [b] } } else s.hunt

/-- R153: a byte that joins the buffer in FRAME. -/
def State.frameByte (s : State) (b : Byte) : State :=
  let buffer := s.link.buffer ++ [b]
  if buffer.length = 4 && 48 < b.toNat then s.hunt
  else if 4 ≤ buffer.length && buffer.length = 6 + frameLength buffer then s.judgeFrame buffer
  else { s with link := { s.link with buffer := buffer } }

/-- R153: a byte received after `silence` ticks since the previous byte's stop bit. -/
def State.receiveByte (s : State) (b : Byte) (silence : Nat) : State :=
  match s.link.receiver with
  | .answer => s
  | .hunt => s.huntByte b
  | .frame => if Config.maxSilence < silence then s.huntByte b else s.frameByte b

/-- UNKNOWN_KIND (R155). -/
def execUnknownKind (kind : Byte) (payload : List Byte) (s : State) : Host.Outcome State Fault Refusal :=
  .next (s.dispatchOwn kind payload)

/-- BYTE_RECEIVED (R153). -/
def execByteReceived (b : Byte) (silence : Nat) (s : State) : Host.Outcome State Fault Refusal :=
  match s.power with
  | .running => .next (s.receiveByte b silence)
  | _ => .next s

/-- The bytes of a request frame (Table 10-6). -/
def requestFrame (adr : Byte) (kind : Byte) (payload : List Byte) : List Byte :=
  let body := adr :: kind :: BitVec.ofNat 8 payload.length :: payload
  requestLead :: (body ++ u16 (crc16 body).toNat)

/-- The bytes of a frame received one after another with no silence between them. -/
def State.receiveAll (s : State) (bs : List Byte) : State := bs.foldl (fun s b => s.receiveByte b 0) s

end Sys2Proof.Machine
end

