-- ==== Sys2Proof/Machine/StartUp.lean ====
section
/-! DEFINITION. Supply and reset (Chapter 11, 11.4; R30, R73, R93, R109, R120, R121, R141, R149, R152, R169): POWER_ON,
RESET_PIN_ASSERT, RESET_PIN_RELEASE, POWER_LOSS. -/

namespace Sys2Proof.Machine

/-- R167: a SAVE cut short has no completion event, and its nonvolatile content then fails its check. -/
def Store.cutSave (t : Store) : Store :=
  { t with saving := none, nv := if t.saving.isSome then none else t.nv }

/-- R169 step 3: the image the nonvolatile memory gives at start-up: the one it holds, when the CRC computed over that image
matches the CRC read back. -/
def Store.startImage (t : Store) (pins : StartPins) : Option Image :=
  match t.nv with
  | none => none
  | some m => if m.passes pins.nvFlips then some m.image else none

/-- R169 step 3: the store after the start-up load. The nonvolatile memory is not rewritten, and content that failed its check
keeps failing it, which is absent content (assumption 21). -/
def Store.started (nv : Option SavedImage) (good : Option Image) : Store :=
  { written := good.getD .factory, saved := some (good.getD .factory).seal, nv := if good.isSome then nv else none
    dirty := good.isNone, nvFault := good.isNone, saving := none }

/-- R111, R120: a wet line at the end of the start-up sequence, after its first classification. -/
def startWet (w : WetCfg) (sense : Vector Nat 8) (now : Nat) (l : Fin 8) : WetLine :=
  .classified (classify sense[l]) w.enabled[l] (now + w.debounce * Config.ticksPerTenth)

/-- R169 steps 1 to 6, but for the first sweep: every block at its power-on values under the image loaded, which is `good` or
factory defaults. The clock and the waiting commands are the model's own and go on. -/
def State.startBlocks (s : State) (cause : Nat) (pins : StartPins) (good : Option Image) : State :=
  let i := good.getD .factory
  { now := s.now
    power := .running
    link := .fresh pins.adr pins.baud1 pins.baud0 s.now
    store := .started s.store.nv good
    points := Vector.ofFn fun p => .fresh i.points[p]
    work := i.globals.work
    capture := .fresh s.now
    purge := .fresh
    surfaces := Vector.ofFn fun k => .fresh i.surfaces[k]
    ranking := .fresh
    wet := Vector.ofFn fun l => startWet i.wet pins.sense s.now l
    sweep := .fresh i.startMode i.interval
    notices := NoticeQueue.fresh.arrive (.startup cause (boolCode good.isNone))
    outputs := Vector.replicate 2 .fresh
    pending := s.pending }

/-- R169: the start-up path on an image loaded. In CONTINUOUS its last step starts sweep 1 and loads the timer. -/
def State.startUpOn (s : State) (cause : Nat) (pins : StartPins) (good : Option Image) : State :=
  let s1 := s.startBlocks cause pins good
  match s1.sweep.mode with
  | .stopped => s1
  | .continuous => State.startSweep { s1 with sweep := s1.sweep.loadTimer s1.now }

/-- R169: the start-up path, on what the nonvolatile memory gives. -/
def State.startUp (s : State) (cause : Nat) (pins : StartPins) : State :=
  s.startUpOn cause pins (s.store.startImage pins)

/-- R167, table row POWER_LOSS: every activity ends and a SAVE in flight is cut short. Only the nonvolatile image outlives the
supply; the volatile blocks stand at their power-on values under the factory image until supply returns (assumption 6). -/
def State.losePower (s : State) : State :=
  { s.startBlocks 0 { adr := 0, baud1 := false, baud0 := false, sense := Vector.replicate 8 0, nvFlips := 0 } none with
    power := .off
    store := { written := .factory, saved := none, nv := s.store.cutSave.nv, dirty := false, nvFault := false, saving := none }
    wet := Vector.replicate 8 .fresh
    notices := .fresh }

/-- R169: RESETn goes low: the part is held, a SAVE in flight is cut short and every heater line goes off. -/
def State.hold (s : State) : State :=
  { s with
    power := .held
    store := s.store.cutSave
    purge := { s.purge with grants := s.purge.grants.map fun g => { g with energised := false } } }

/-- POWER_ON (R169): the start-up path, or, with RESETn low, a part that is held. Applying supply to a part that has it is
read as its loss and return (assumption 5). -/
def execPowerOn (pins : StartPins) (s : State) : Host.Outcome State Fault Refusal :=
  match s.power with
  | .off => .next (s.startUp 1 pins)
  | .offHeld => .next { s with power := .held }
  | .held => .next { s.losePower with power := .held }
  | .running => .next (s.losePower.startUp 1 pins)

/-- RESET_PIN_ASSERT (R169). Without supply the level of RESETn alone is kept (assumption 5). -/
def execResetPinAssert (s : State) : Host.Outcome State Fault Refusal :=
  match s.power with
  | .running => .next s.hold
  | .off => .next { s with power := .offHeld }
  | .held => .next s
  | .offHeld => .next s

/-- RESET_PIN_RELEASE (R169): the start-up path. Without supply the level of RESETn alone is kept (assumption 5). -/
def execResetPinRelease (pins : StartPins) (s : State) : Host.Outcome State Fault Refusal :=
  match s.power with
  | .held => .next (s.startUp 2 pins)
  | .offHeld => .next { s with power := .off }
  | .off => .next s
  | .running => .next s

/-- POWER_LOSS (R167). The level of RESETn is not the supply's (assumption 5). -/
def execPowerLoss (s : State) : Host.Outcome State Fault Refusal :=
  match s.power with
  | .off => .next s
  | .offHeld => .next s
  | .held => .next { s.losePower with power := .offHeld }
  | .running => .next s.losePower

end Sys2Proof.Machine
end

