-- ==== Sys2Proof/Machine/Dispatch.lean ====
section
/-! DEFINITION. exec: one arm for each command, each one direct call of its meaning. -/

namespace Sys2Proof.Machine

def exec (i : Instr) (s : State) : Host.Outcome State Fault Refusal :=
  match i with
  | .powerOn pins => Sys2Proof.Machine.execPowerOn pins s
  | .resetPinAssert => Sys2Proof.Machine.execResetPinAssert s
  | .resetPinRelease pins => Sys2Proof.Machine.execResetPinRelease pins s
  | .ident payload => Sys2Proof.Machine.execIdent payload s
  | .status payload => Sys2Proof.Machine.execStatus payload s
  | .pointWrite payload => Sys2Proof.Machine.execPointWrite payload s
  | .pointRead payload => Sys2Proof.Machine.execPointRead payload s
  | .surfaceWrite payload => Sys2Proof.Machine.execSurfaceWrite payload s
  | .surfaceRead payload => Sys2Proof.Machine.execSurfaceRead payload s
  | .globalWrite payload => Sys2Proof.Machine.execGlobalWrite payload s
  | .globalRead payload => Sys2Proof.Machine.execGlobalRead payload s
  | .outputWrite payload => Sys2Proof.Machine.execOutputWrite payload s
  | .outputRead payload => Sys2Proof.Machine.execOutputRead payload s
  | .wetlineWrite payload => Sys2Proof.Machine.execWetlineWrite payload s
  | .wetlineRead payload => Sys2Proof.Machine.execWetlineRead payload s
  | .sweepRun dest rest => Sys2Proof.Machine.execSweepRun dest rest s
  | .sweepStop dest rest => Sys2Proof.Machine.execSweepStop dest rest s
  | .sweepOnce dest rest => Sys2Proof.Machine.execSweepOnce dest rest s
  | .sweepInterval dest rest => Sys2Proof.Machine.execSweepInterval dest rest s
  | .noticeRead payload => Sys2Proof.Machine.execNoticeRead payload s
  | .noticeDrop payload => Sys2Proof.Machine.execNoticeDrop payload s
  | .rankRead payload => Sys2Proof.Machine.execRankRead payload s
  | .snapArm dest payload => Sys2Proof.Machine.execSnapArm dest payload s
  | .snapRead payload => Sys2Proof.Machine.execSnapRead payload s
  | .wetAck payload => Sys2Proof.Machine.execWetAck payload s
  | .purge payload => Sys2Proof.Machine.execPurge payload s
  | .save payload => Sys2Proof.Machine.execSave payload s
  | .load payload => Sys2Proof.Machine.execLoad payload s
  | .restart dest payload => Sys2Proof.Machine.execRestart dest payload s
  | .unknownKind kind payload => Sys2Proof.Machine.execUnknownKind kind payload s
  | .frameDiscard cause => Sys2Proof.Machine.execFrameDiscard cause s
  | .frameAbandon cause => Sys2Proof.Machine.execFrameAbandon cause s
  | .replyStart => Sys2Proof.Machine.execReplyStart s
  | .replyEnd => Sys2Proof.Machine.execReplyEnd s
  | .secondsCount => Sys2Proof.Machine.execSecondsCount s
  | .sweepTimerExpiry => Sys2Proof.Machine.execSweepTimerExpiry s
  | .startEdge port line => Sys2Proof.Machine.execStartEdge port line s
  | .captureJobComplete port line total high => Sys2Proof.Machine.execCaptureJobComplete port line total high s
  | .captureWindowExpiry port line => Sys2Proof.Machine.execCaptureWindowExpiry port line s
  | .heaterPeriodStart port => Sys2Proof.Machine.execHeaterPeriodStart port s
  | .heaterOnTimeEnd port => Sys2Proof.Machine.execHeaterOnTimeEnd port s
  | .purgeTimerExpiry port => Sys2Proof.Machine.execPurgeTimerExpiry port s
  | .recoveryTimerExpiry port => Sys2Proof.Machine.execRecoveryTimerExpiry port s
  | .rawLevelChange line ohms => Sys2Proof.Machine.execRawLevelChange line ohms s
  | .debounceExpiry line => Sys2Proof.Machine.execDebounceExpiry line s
  | .minOnExpiry out => Sys2Proof.Machine.execMinOnExpiry out s
  | .minOffExpiry out => Sys2Proof.Machine.execMinOffExpiry out s
  | .saveComplete verified => Sys2Proof.Machine.execSaveComplete verified s
  | .byteReceived byte silence => Sys2Proof.Machine.execByteReceived byte silence s
  | .filteredLevelChange port line samples => Sys2Proof.Machine.execFilteredLevelChange port line samples s
  | .powerLoss => Sys2Proof.Machine.execPowerLoss s

end Sys2Proof.Machine
end

