-- ==== Sys2Proof/Safety.lean ====
section
/-! DEFINITION. The laws of the NF2416 as predicates on State, in the terms the statements use: what a request row carries on
the line (Table 10-3), and the laws the rules give for every event (R8, R40, R41, R52 to R54, R83, R89, R98 to R101, R136,
R147, R153, and the ranges of the configuration tables). -/

namespace Sys2Proof.Machine

/-- The kind byte and the payload that a request row stands for under the part's own address (Table 10-3); none for a
broadcast and for every row that is no request. The action of SWEEP is the first byte of its payload (Table 10-13). -/
def ownRequest : Instr → Option (Byte × List Byte)
  | .ident p => some (0x01, p)
  | .status p => some (0x02, p)
  | .pointWrite p => some (0x10, p)
  | .pointRead p => some (0x11, p)
  | .surfaceWrite p => some (0x12, p)
  | .surfaceRead p => some (0x13, p)
  | .globalWrite p => some (0x14, p)
  | .globalRead p => some (0x15, p)
  | .outputWrite p => some (0x16, p)
  | .outputRead p => some (0x17, p)
  | .wetlineWrite p => some (0x18, p)
  | .wetlineRead p => some (0x19, p)
  | .sweepRun .own r => some (0x20, 0 :: r)
  | .sweepStop .own r => some (0x20, 1 :: r)
  | .sweepOnce .own r => some (0x20, 2 :: r)
  | .sweepInterval .own r => some (0x20, 3 :: r)
  | .noticeRead p => some (0x21, p)
  | .noticeDrop p => some (0x22, p)
  | .rankRead p => some (0x23, p)
  | .snapArm .own p => some (0x24, p)
  | .snapRead p => some (0x25, p)
  | .wetAck p => some (0x26, p)
  | .purge p => some (0x27, p)
  | .save p => some (0x30, p)
  | .load p => some (0x31, p)
  | .restart .own p => some (0x32, p)
  | .unknownKind k p => some (k, p)
  | _ => none

/-- The request of a row that broadcasts too, under the given destination, with its kind byte and payload (R157). -/
def broadcastable (dest : Dest) : List Byte → List (Instr × Byte × List Byte)
  | p =>
    [(.sweepRun dest p, 0x20, 0 :: p), (.sweepStop dest p, 0x20, 1 :: p), (.sweepOnce dest p, 0x20, 2 :: p),
     (.sweepInterval dest p, 0x20, 3 :: p), (.snapArm dest p, 0x24, p), (.restart dest p, 0x32, p)]

/-- The request payload length of a kind (Table 10-3). -/
def requestLength (kind : Byte) : Option Nat :=
  match kind.toNat with
  | 0x01 => some 0
  | 0x02 => some 0
  | 0x10 => some 8
  | 0x11 => some 2
  | 0x12 => some 25
  | 0x13 => some 2
  | 0x14 => some 13
  | 0x15 => some 0
  | 0x16 => some 10
  | 0x17 => some 1
  | 0x18 => some 10
  | 0x19 => some 0
  | 0x20 => some 3
  | 0x21 => some 1
  | 0x22 => some 1
  | 0x23 => some 0
  | 0x24 => some 0
  | 0x25 => some 1
  | 0x26 => some 1
  | 0x27 => some 1
  | 0x30 => some 0
  | 0x31 => some 0
  | 0x32 => some 0
  | _ => none

/-- The requests R166 lists: each is refused with BUSY while a SAVE is in flight. -/
def busyDuringSave : Instr → Bool
  | .pointWrite _ => true
  | .surfaceWrite _ => true
  | .globalWrite _ => true
  | .outputWrite _ => true
  | .wetlineWrite _ => true
  | .sweepRun _ _ => true
  | .sweepStop _ _ => true
  | .sweepInterval _ _ => true
  | .save _ => true
  | .load _ => true
  | .restart _ _ => true
  | _ => false

/-- The rows that are requests of the line or frames of it, which only a part that receives takes (R153, R155, R157). -/
def isFrameRow : Instr → Bool
  | .frameDiscard _ => true
  | .frameAbandon _ => true
  | .sweepRun .broadcast _ => true
  | .sweepStop .broadcast _ => true
  | .sweepOnce .broadcast _ => true
  | .sweepInterval .broadcast _ => true
  | .snapArm .broadcast _ => true
  | .restart .broadcast _ => true
  | c => (ownRequest c).isSome

/-- Rows at which a new start or RESTART can set every output line OFF (R147, R149): the four supply and reset rows, RESTART,
and a byte received in a frame of kind RESTART, which may end it. -/
def State.mayRestart (s : State) : Instr → Bool
  | .powerOn _ => true
  | .resetPinAssert => true
  | .resetPinRelease _ => true
  | .powerLoss => true
  | .restart _ _ => true
  | .byteReceived _ _ => s.link.receiver = .frame && byteAt s.link.buffer 2 = 0x32
  | _ => false

/-- The first payload byte at and above which a request's index is out of range (R34, R75, R77, R106, R115, R150, R151). -/
def indexLimit : Instr → Option Nat
  | .pointWrite _ => some 24
  | .pointRead _ => some 24
  | .surfaceWrite _ => some 16
  | .surfaceRead _ => some 16
  | .outputWrite _ => some 2
  | .outputRead _ => some 2
  | .wetAck _ => some 8
  | .purge _ => some 24
  | _ => none

/-- Commands executed one after another. -/
def runAll : List Instr → State → Host.Outcome State Fault Refusal
  | [], s => .next s
  | c :: cs, s =>
    match exec c s with
    | .next t => runAll cs t
    | .fault r => .fault r
    | .refused r => .refused r

/-- The bytes of a frame arriving one after another, each `gap` ticks after the stop bit of the one before (R153). -/
def arrivals (bs : List Byte) (gap : Nat) : List Instr := bs.map fun b => .byteReceived b gap

/-- The four states of the severity order a margin can give (R35, R37). -/
def RiskState.ofMargin (st : RiskState) : Bool := st = .dry || st = .watch || st = .near || st = .dew

/-- R153, Table 10-2: the receiver is in ANSWER exactly while a reply waits or is sent, and collects bytes only in FRAME. -/
def State.ReceiverLaw (s : State) : Prop :=
  (s.link.receiver = .answer ↔ s.link.reply.isSome = true)
    ∧ (s.link.receiver ≠ .frame → s.link.buffer = [])

/-- R136: the notice queue holds 0 to 32 notices. -/
def State.NoticeLaw (s : State) : Prop := s.notices.list.length ≤ 32

/-- R41: an enabled surface is in WET exactly when its working wet_line names a line whose latch is set; a disabled one is
UNUSED, and an enabled one is not. -/
def State.WetLaw (s : State) : Prop :=
  ∀ i : Fin 16,
    if (s.surfaces[i]).cfg.enabled then
      (s.surfaces[i]).run.state ≠ .unused ∧ ((s.surfaces[i]).run.state = .wet ↔ s.latchOf (s.surfaces[i]).cfg = true)
    else (s.surfaces[i]).run.state = .unused

/-- R112, R113, R117: a disabled line runs no debounce timer, has no debounced level and no latch. -/
def State.TapeLaw (s : State) : Prop :=
  ∀ l : Fin 8, s.lineEnabled l = false →
    (s.wet[l]).timer = none ∧ (s.wet[l]).debounced = none ∧ (s.wet[l]).latch = false

/-- R52: margin ascending, then surface number ascending. -/
def RankEntry.before (a b : RankEntry) : Prop := a.margin < b.margin ∨ (a.margin = b.margin ∧ a.surface < b.surface)

/-- R52 to R54: the ranking list holds at most 8 surfaces in its order, none twice, none UNUSED or UNKNOWN, each with the
state its surface now has and its surface's current margin. -/
def State.RankingLaw (s : State) : Prop :=
  s.ranking.entries.length ≤ 8
    ∧ s.ranking.entries.Pairwise RankEntry.before
    ∧ (s.ranking.entries.map RankEntry.surface).Nodup
    ∧ ∀ e ∈ s.ranking.entries,
        e.state ≠ .unused ∧ e.state ≠ .unknown ∧ (s.surfaces[e.surface]).run.state = e.state
          ∧ (s.surfaces[e.surface]).run.values.map Values.margin = some e.margin

/-- R18, R40, R47, R48: the runtime part of a surface keeps the ranges of Table 2-2. -/
def SurfaceRec.InRange (r : SurfaceRec) : Prop :=
  ¬(r.run.riseRun ≠ 0 ∧ r.run.fallRun ≠ 0)
    ∧ (r.run.riseRun ≠ 0 → r.run.riseRun < r.cfg.riseCount)
    ∧ (r.run.fallRun ≠ 0 → r.run.fallRun < r.cfg.fallCount)
    ∧ r.run.heldAge ≤ r.cfg.holdSweeps
    ∧ r.run.ring.length ≤ 8
    ∧ (∀ f, r.run.forecast = some f → f ≤ 255)
    ∧ (r.run.live = true → r.run.values.isSome = true)
    ∧ (r.cfg.enabled = false → r.run.riseRun = 0 ∧ r.run.fallRun = 0 ∧ r.run.heldAge = 0)

/-- R40: every surface record keeps its ranges. -/
def State.SurfaceLaw (s : State) : Prop := ∀ i : Fin 16, (s.surfaces[i]).InRange

/-- R83, R89: while a sweep is in flight some job waits or is held, and otherwise none; no unit is IDLE while a job waits. -/
def State.CaptureLaw (s : State) : Prop :=
  (s.sweep.inFlight = true ↔ s.capture.allEnded = false)
    ∧ (s.capture.queue ≠ [] → ∀ k : Fin 4, (s.capture.units[k]).job? ≠ none)

/-- R79, R93: a level filter counts fewer than 25 differing ticks, none while it samples its own level, and no tick to come;
its line has rested HIGH since the power-on only while its level is still LOW. -/
def LineFilter.InRange (f : LineFilter) (now : Nat) : Prop :=
  f.differing < 25 ∧ (f.sampled = f.level → f.differing = 0) ∧ f.sampledAt ≤ now ∧ (f.resting = true → f.level = .low)

/-- R79, R84: a unit in COUNTING has counted at least 50 ticks for each period seen, beside those of the phase its line stands
in: 25 of the high phase once the line is LOW, the differing ticks, and every tick since the latest sample. -/
def CaptureUnit.Paced (u : CaptureUnit) (c : Capture) (now : Nat) : Prop :=
  match u with
  | .counting j _ periods total high =>
    high ≤ total
      ∧ 50 * periods + (if c.level j.line j.port = .high then 0 else 25) + (c.filter j.line j.port).differing
          + (now - (c.filter j.line j.port).sampledAt) ≤ total
  | _ => True

/-- R86, R87: an outcome handed on: a C64 of 3200 or above, or counts of a duty from 2 % to 98 % over 50 ticks or more. -/
def JobOutcome.Accepted : JobOutcome → Prop
  | .fDone c64 => 3200 ≤ c64
  | .dDone total high => 50 ≤ total ∧ total ≤ 50 * high ∧ 50 * high ≤ 49 * total
  | .failed _ => True

/-- R79, R84, R86, R87: the filters keep their ranges; while the part runs each unit's counts keep pace with the periods it has
seen; every job has a period count; and every outcome handed on is one the point unit can rely on. -/
def State.CountLaw (s : State) : Prop :=
  (∀ (m : PinLine) (p : Fin 24), (s.capture.filter m p).InRange s.now)
    ∧ (s.power = .running → ∀ k : Fin 4, (s.capture.units[k]).Paced s.capture s.now)
    ∧ (∀ j ∈ s.capture.queue, 1 ≤ j.n)
    ∧ (∀ (k : Fin 4) (j : Job), (s.capture.units[k]).job? = some j → 1 ≤ j.n)
    ∧ ∀ e ∈ s.capture.outcomes, e.outcome.Accepted

/-- A reading group of an AIR point (R59). -/
def Readings.isAir : Readings → Bool
  | .air _ => true
  | _ => false

/-- R98, R99, R101: at most two grants; a point waits in the queue exactly in WAITING, holds a grant exactly in HEATING and
runs its recovery timer exactly in RECOVERING, once each; no grant stands free while a point waits. -/
def State.ArbiterLaw (s : State) : Prop :=
  s.purge.grants.length ≤ 2
    ∧ (s.purge.grants.map Grant.point).Nodup
    ∧ (s.purge.queue.map PurgeEntry.point).Nodup
    ∧ (s.purge.queue ≠ [] → s.purge.grants.length = 2)
    ∧ ∀ p : Fin 24,
        (p ∈ s.purge.queue.map PurgeEntry.point ↔ (s.points[p]).run.phase = .waiting)
          ∧ (p ∈ s.purge.grants.map Grant.point ↔ (s.points[p]).run.phase = .heating)
          ∧ ((s.purge.recovery[p]).isSome = true ↔ (s.points[p]).run.phase = .recovering)

/-- R59, R69, R97, R99: only AIR points leave phase NONE; those waiting, being heated or recovering hold readings; the frozen
dew point is there exactly in HEATING and RECOVERING; and a point in one of those two has no capture job. -/
def State.PhaseLaw (s : State) : Prop :=
  ∀ p : Fin 24,
    ((s.points[p]).run.phase ≠ .none → (s.points[p]).cfg.kind = .air)
      ∧ ((s.points[p]).run.phase = .waiting ∨ (s.points[p]).run.phase = .heating
          ∨ (s.points[p]).run.phase = .recovering → (s.points[p]).run.readings.isAir = true)
      ∧ ((s.points[p]).cfg.kind = .air → (s.points[p]).run.health.goodOrHolding = true →
          (s.points[p]).run.readings.isAir = true)
      ∧ ((s.points[p]).run.frozen.isSome = true ↔
          (s.points[p]).run.phase = .heating ∨ (s.points[p]).run.phase = .recovering)
      ∧ ((s.points[p]).run.phase = .heating ∨ (s.points[p]).run.phase = .recovering →
          s.capture.outstanding p = false)

/-- The two laws of the purge controller together. -/
def State.PurgeLaw (s : State) : Prop := s.ArbiterLaw ∧ s.PhaseLaw

/-- A reading group of a SURFACE point (R59). -/
def Readings.isSurface : Readings → Bool
  | .surface _ _ => true
  | _ => false

/-- Every value of the group carries HELD (R66). -/
def Readings.allHeld : Readings → Bool
  | .absent => true
  | .air a => a.rhQ.held && a.tQ.held && a.dewQ.held
  | .surface _ q => q.held

/-- Tables 4-2 and 4-5, R59, R64, R67, R95: the runtime part of a point keeps its ranges, and its health agrees with its working
kind, its readings and its phase. -/
def PointRec.InRange (r : PointRec) : Prop :=
  r.run.failRun ≤ 7 ∧ r.run.satRun ≤ 10 ∧ r.run.purgeCount ≤ 5
    ∧ (r.run.health = .off ↔ r.cfg.kind = .off)
    ∧ (r.run.health = .off ∨ r.run.health = .new → r.run.readings = .absent)
    ∧ (r.run.health.goodOrHolding = true →
        if r.cfg.kind = .air then r.run.readings.isAir = true else r.run.readings.isSurface = true)
    ∧ (r.run.health = .holding ∨ r.run.health = .fault → r.run.readings.allHeld = true)
    ∧ (r.run.health.goodOrHolding = false → r.run.phase = .none)
    ∧ (r.run.lastGood.isSome = true ↔ r.run.readings ≠ .absent)

/-- Every point record keeps its ranges, and a point that waits for an AUTO purge has had fewer than 5 (R95, R99). -/
def State.PointLaw (s : State) : Prop :=
  (∀ p : Fin 24, (s.points[p]).InRange)
    ∧ ∀ e ∈ s.purge.queue, e.origin = .auto → (s.points[e.point]).run.purgeCount < 5

/-- R8, Table 1-3: the recorded dew-point group of an AIR point. -/
def AirReading.InBounds (a : AirReading) : Prop :=
  a.rh ≤ 10000 ∧ -1000 ≤ a.td ∧ a.td ≤ a.tc ∧ a.tc ≤ 5000 ∧ a.e ≤ 12345

/-- R8: every recorded and every frozen dew point lies between −10.00 °C and the Tc recorded with it. -/
def State.DewLaw (s : State) : Prop :=
  ∀ p : Fin 24,
    (∀ a, (s.points[p]).run.readings = .air a → a.InBounds)
      ∧ ∀ f, (s.points[p]).run.frozen = some f → -1000 ≤ f.td ∧ f.td ≤ f.tc ∧ f.tc ≤ 5000

/-- Table 4-1: a point configuration in range. -/
def PointCfg.Valid (c : PointCfg) : Prop :=
  1000 ≤ c.cDry ∧ c.cDry + 100 ≤ c.cWet ∧ c.cWet ≤ 60000 ∧ -500 ≤ c.tOffset ∧ c.tOffset ≤ 500

/-- Table 2-1, R17: a surface configuration in range. -/
def SurfaceCfg.Valid (c : SurfaceCfg) : Prop :=
  (1 ≤ c.airList.length ∧ c.airList.length ≤ 4) ∧ (c.airList.map Member.point).Nodup
    ∧ (∀ m ∈ c.airList, 1 ≤ m.weight ∧ m.weight ≤ 15)
    ∧ (50 ≤ c.watch ∧ c.watch ≤ 1500) ∧ (10 ≤ c.alarm ∧ c.alarm ≤ c.watch)
    ∧ (0 ≤ c.hysteresis ∧ c.hysteresis ≤ 300) ∧ (1 ≤ c.riseCount ∧ c.riseCount ≤ 8)
    ∧ (1 ≤ c.fallCount ∧ c.fallCount ≤ 16) ∧ c.holdSweeps ≤ 15 ∧ c.forecastSweeps ≤ 60

/-- Tables 5-2 and 6-3, R78: the global settings in range. -/
def GlobalCfg.Valid (g : GlobalCfg) : Prop :=
  (1 ≤ g.faultCount ∧ g.faultCount ≤ 8) ∧ g.nF ∈ [16, 64, 256] ∧ g.nD ∈ [1, 4, 16]
    ∧ (20 ≤ g.window ∧ g.window ≤ 500) ∧ (1 ≤ g.satCount ∧ g.satCount ≤ 10)
    ∧ (1 ≤ g.maxPurges ∧ g.maxPurges ≤ 5) ∧ (10 ≤ g.heaterDuty ∧ g.heaterDuty ≤ 100)
    ∧ (10 ≤ g.purgeTime ∧ g.purgeTime ≤ 600) ∧ (30 ≤ g.recoveryTime ∧ g.recoveryTime ≤ 900)

/-- Tables 2-1, 4-1, 5-2, 6-3, 8-1, 9-4 and R118: an image in range. -/
def Image.Valid (i : Image) : Prop :=
  (∀ p : Fin 24, (i.points[p]).Valid) ∧ (∀ k : Fin 16, (i.surfaces[k]).Valid) ∧ i.globals.Valid
    ∧ (5 ≤ i.wet.debounce ∧ i.wet.debounce ≤ 300)
    ∧ (∀ o : Fin 2, (i.outputs[o]).minOn ≤ 3600 ∧ (i.outputs[o]).minOff ≤ 3600)
    ∧ (2 ≤ i.interval ∧ i.interval ≤ 600)

/-- Tables 5-2 and 6-3, R78: the working global settings in range (R57, R80, R110). -/
def WorkGlobals.Valid (w : WorkGlobals) : Prop :=
  (1 ≤ w.faultCount ∧ w.faultCount ≤ 8) ∧ w.nF ∈ [16, 64, 256] ∧ w.nD ∈ [1, 4, 16]
    ∧ (20 ≤ w.window ∧ w.window ≤ 500) ∧ (1 ≤ w.satCount ∧ w.satCount ≤ 10) ∧ (1 ≤ w.maxPurges ∧ w.maxPurges ≤ 5)

/-- Every configuration the part holds, written, saved, being saved, in nonvolatile memory or working, is in range (3.6,
R158), and so are the interval in force and the pending one (Table 8-1). -/
def State.ConfigLaw (s : State) : Prop :=
  s.store.written.Valid ∧ (∀ m : SavedImage, s.store.saved = some m → m.image.Valid)
    ∧ (∀ m : SavedImage, s.store.nv = some m → m.image.Valid) ∧ (∀ i : Image, s.store.saving = some i → i.Valid)
    ∧ (∀ p : Fin 24, (s.points[p]).cfg.Valid) ∧ (∀ k : Fin 16, (s.surfaces[k]).cfg.Valid)
    ∧ s.work.Valid
    ∧ (2 ≤ s.sweep.interval ∧ s.sweep.interval ≤ 600)
    ∧ ∀ v, s.sweep.pendingIv = some v → 2 ≤ v ∧ v ≤ 600

/-- R165: an image the store holds beside the written one carries the CRC-16 computed over it. -/
def State.CrcLaw (s : State) : Prop :=
  ∀ m : SavedImage, s.store.saved = some m ∨ s.store.nv = some m → m.crc = crc16 m.image.bytes

/-- R14, R62: a temperature recorded from an accepted duty lies in −5200..10200, and a surface's margin is Ts less Td_surf,
with Td_surf in −1000..5000, so that it lies in −10200..11200. -/
def State.MarginLaw (s : State) : Prop :=
  (∀ (p : Fin 24) (t : Int) (q : Quals), (s.points[p]).run.readings = .surface t q → -5200 ≤ t ∧ t ≤ 10200)
    ∧ ∀ (k : Fin 16) (v : Values), (s.surfaces[k]).run.values = some v →
        (-5200 ≤ v.ts ∧ v.ts ≤ 10200) ∧ (-1000 ≤ v.td ∧ v.td ≤ 5000) ∧ v.margin = v.ts - v.td
          ∧ -10200 ≤ v.margin ∧ v.margin ≤ 11200

/-- R79: the filter of one line becomes `f`, and every other line's stays. -/
def Capture.FilterBecomes (c d : Capture) (port : Fin 24) (line : PinLine) (f : LineFilter) : Prop :=
  d.filter line port = f ∧ ∀ (q : Fin 24) (m : PinLine), q ≠ port ∨ m ≠ line → d.filter m q = c.filter m q

/-- R79: the filter of one line after the command that ends a job at tick `now`: settled at HIGH for the line whose closing
edge came, unchanged at the expiry of a window. -/
def filterAfter (c : Instr) (now : Nat) (m : PinLine) (q : Fin 24) (f : LineFilter) : LineFilter :=
  match c with
  | .captureJobComplete port line _ _ =>
    if q = port ∧ m = line then { level := .high, sampled := .high, differing := 0, sampledAt := now, resting := false }
    else f
  | _ => f

/-- R84 to R87: command `c` ends the job `j` of unit `k` with outcome `o` at tick `now`. A closing edge is the tick, within the
job's window, at which the line's filtered level becomes HIGH, the period count reaches N and the total reaches `total`; it
ends an F job with its ticks normalised to 64 periods and a D job with its counts or, its duty below 2 % or above 98 %, as
failed. The line stands LOW until that tick, so the high count does not grow. A window expiry ends a job in ARMED or in
COUNTING as failed. -/
def State.JobEnds (s : State) (c : Instr) (k : Fin 4) (j : Job) (o : JobOutcome) (now : Nat) : Prop :=
  s.power = .running ∧ s.capture.unitOf j.port j.line = some k ∧
    match c with
    | .captureJobComplete port line total high =>
      port = j.port ∧ line = j.line ∧ (s.capture.filter line port).changes now .high 25 = true
        ∧ (s.capture.filter line port).endsAt now .high 25 = now
        ∧ ∃ w periods counted, s.capture.units[k] = .counting j w periods counted high
            ∧ j.n ≤ periods + 1 ∧ now ≤ w ∧ counted ≤ total ∧ now = s.now + (total - counted)
            ∧ o = match j.line with
                  | .f => .fDone ((2 * (64 * total) + j.n) / (2 * j.n))
                  | .d => if 50 * high < total ∨ 49 * total < 50 * high then .failed .dDuty else .dDone total high
    | .captureWindowExpiry port line =>
      port = j.port ∧ line = j.line
        ∧ (∃ w, ((∃ x, s.capture.units[k] = .armed j x w) ∨ ∃ n x h, s.capture.units[k] = .counting j w n x h)
            ∧ now = max s.now w)
        ∧ o = match j.line with
              | .f => .failed .fWindow
              | .d => .failed .dWindow
    | _ => False

/-- R83: the arbiter has given the jobs `rest` to the units of `c` that are free, in their order; those not given wait. -/
def Capture.GivenTo (c d : Capture) (free : Fin 4 → Bool) (rest : List Job) (now window : Nat) : Prop :=
  d.queue = rest.drop ((List.finRange 4).filter free).length
    ∧ ∀ m : Fin 4, d.units[m] =
        if free m = true then
          match rest[((List.finRange 4).filter fun x => x < m && free x).length]? with
          | none => .idle
          | some q => .armed q now (now + window * 4000)
        else c.units[m]

/-- R83, R91: the jobs of a port are withdrawn, and each unit that was free or is freed takes the next job that waits. -/
def Capture.WithdrawnFrom (c d : Capture) (port : Fin 24) (now window : Nat) : Prop :=
  c.GivenTo d (fun m => decide ((c.units[m]).job? = none) || (c.units[m]).holdsPort port)
      (c.queue.filter fun q => q.port ≠ port) now window
    ∧ d.outcomes = c.outcomes.filter fun o => o.port ≠ port

/-- R91: a job of another port waits or is held. -/
def Capture.OthersLeft (c : Capture) (port : Fin 24) : Prop :=
  (∃ q ∈ c.queue, q.port ≠ port) ∨ ∃ (m : Fin 4) (j : Job), (c.units[m]).job? = some j ∧ j.port ≠ port

/-- R83: the job of unit `k` ended at tick `now` and was the last of its port: the units that are free, `k` among them, have
taken the jobs that wait, every other one has counted the ticks up to then, and no outcome of the port is kept. -/
def State.JobPassesOn (s t : State) (port : Fin 24) (k : Fin 4) (now : Nat) : Prop :=
  (s.elapseTo now).capture.GivenTo t.capture (fun m => decide (m = k) || decide ((s.capture.units[m]).job? = none))
      s.capture.queue now s.work.window
    ∧ t.capture.outcomes = s.capture.outcomes.filter fun o => o.port ≠ port

/-- R89: a job waits or is held by another unit than `k`. -/
def State.JobsLeftBut (s : State) (k : Fin 4) : Prop :=
  s.capture.queue ≠ [] ∨ ∃ m : Fin 4, m ≠ k ∧ (s.capture.units[m]).job? ≠ none

/-- R88: no job of the port waits and no other unit than `k` holds one, so that the end of unit `k`'s job is the last. -/
def State.LastJob (s : State) (port : Fin 24) (k : Fin 4) : Prop :=
  (∀ q ∈ s.capture.queue, q.port ≠ port) ∧ ∀ m : Fin 4, m ≠ k → (s.capture.units[m]).holdsPort port = false

/-- R64, R65, R107, Table 4-4: what a failed conversion with `cause` in sweep `num` makes of a point. A point that enters FAULT
leaves WAITING or SOAKED for NONE. -/
def PointRun.FailsTo (r t : PointRun) (faultCount : Nat) (num : SweepNo) (cause : FailCause) : Prop :=
  (r.health = .fault → t = { r with lastFailure := some (cause, num) })
  ∧ (r.health = .new → r.failRun + 1 < faultCount →
      t = { r with lastFailure := some (cause, num), failRun := r.failRun + 1 })
  ∧ (r.health = .good ∨ r.health = .holding → r.failRun + 1 < faultCount →
      t = { r with
        lastFailure := some (cause, num), failRun := r.failRun + 1, health := .holding
        readings := r.readings.addHeld })
  ∧ (r.health = .new ∨ r.health = .good ∨ r.health = .holding → faultCount ≤ r.failRun + 1 →
      t = { r with
        lastFailure := some (cause, num), health := .fault, failRun := 0, satRun := 0, purgeCount := 0
        readings := r.readings.addHeld
        phase := if r.phase = .waiting ∨ r.phase = .soaked then .none else r.phase })

/-- R169 step 3: the image the nonvolatile memory gives at a start-up: the one it holds, if the CRC computed over its bytes
matches the CRC that is read back. -/
def goodImage (nv : Option SavedImage) (flips : BitVec 16) : Option Image :=
  match nv with
  | none => none
  | some m => if crc16 m.image.bytes = m.crc ^^^ flips then some m.image else none

/-- R30, R73, R93, R109, R111, R120, R121, R141, R152, R165, R169: what every block but the sweep controller, the surfaces'
runtime part and the outputs holds at the end of a start-up on image `i`, which the nonvolatile memory, holding `nv`, gave or
did not give (`good`). -/
def State.StartedOn (t : State) (i : Image) (good : Bool) (nv : Option SavedImage) (pins : StartPins) : Prop :=
  t.power = .running
    ∧ t.link = { address := pins.adr, baud1 := pins.baud1, baud0 := pins.baud0, receiver := .hunt, buffer := []
                 reply := none, seconds := 0, secondEnds := t.now + 4000000 }
    ∧ t.store = { written := i, saved := some { image := i, crc := crc16 i.bytes }
                  nv := if good = true then nv else none
                  dirty := !good, nvFault := !good, saving := none }
    ∧ (∀ p : Fin 24, t.points[p] =
        { cfg := i.points[p]
          run := { health := if (i.points[p]).kind = .off then .off else .new, phase := .none, failRun := 0, satRun := 0
                   purgeCount := 0, readings := .absent, frozen := none, lastGood := none, lastFailure := none } })
    ∧ t.work = { faultCount := i.globals.faultCount, satCount := i.globals.satCount, maxPurges := i.globals.maxPurges
                 nF := i.globals.nF, nD := i.globals.nD, window := i.globals.window }
    ∧ (∀ (m : PinLine) (p : Fin 24), t.capture.filter m p =
        { level := .low, sampled := .low, differing := 0, sampledAt := t.now, resting := true })
    ∧ t.purge.grants = [] ∧ t.purge.queue = [] ∧ (∀ p : Fin 24, t.purge.recovery[p] = none)
    ∧ (∀ k : Fin 16, (t.surfaces[k]).cfg = i.surfaces[k])
    ∧ (∀ l : Fin 8, t.wet[l] =
        { raw := some (if pins.sense[l] < 40000 then .wet else if pins.sense[l] ≤ 400000 then .dry else .openTape)
          timer := if i.wet.enabled[l] then some (t.now + i.wet.debounce * 400000) else none
          debounced := none, latch := false })

/-- R31, R149: a surface with cleared values and counters in state `st`. -/
def SurfaceRun.ClearedIn (r : SurfaceRun) (st : RiskState) : Prop :=
  r = { state := st, riseRun := 0, fallRun := 0, heldAge := 0, live := false, values := none, ring := []
        forecast := none, trendFlag := false }

/-- R13, R22, R42, R45, R47 to R51: what the evaluation of surface `i` with configuration `c` and runtime part `r` gives at a
live margin, `x` being Ts and `y` Td_surf, each with its qualifiers: the values and what they reset, the state judged, the ring,
the forecast and the trend flag, and the SURFACE notice before the TREND notice. -/
def LiveMargin (out : SurfaceRec × List Notice) (num : SweepNo) (i : Fin 16) (c : SurfaceCfg) (r : SurfaceRun)
    (x y : Int × Quals) : Prop :=
  ∃ (m : Int) (q : Quals) (judged : SurfaceRun) (ring : List Int) (forecast : Option Nat) (flag due : Bool),
    m = x.1 - y.1 ∧ q = x.2.union y.2
      ∧ judged = SurfaceRun.judge c
          { r with
            values := some { sweep := num, ts := x.1, tsQ := x.2, td := y.1, tdQ := y.2, margin := m, marginQ := q }
            live := true, heldAge := 0 } m
      ∧ ring = appendRing r.ring m ∧ forecast = forecastOf ring
      ∧ (flag = true ↔ r.trendFlag = true ∧ ∃ f, forecast = some f ∧ f ≤ c.forecastSweeps)
      ∧ (due = true ↔ c.forecastSweeps ≠ 0 ∧ (judged.state = .dry ∨ judged.state = .watch ∨ judged.state = .near)
          ∧ flag = false ∧ ∃ f, forecast = some f ∧ f ≤ c.forecastSweeps)
      ∧ out.1 = { cfg := c
                  run := { judged with ring := ring, forecast := forecast, trendFlag := flag || due } }
      ∧ out.2 =
          (if judged.state = r.state then []
            else [Notice.mk .surface i r.state.code judged.state.code num m q])
          ++ (if due then [Notice.mk .trend i judged.state.code c.forecastSweeps num (forecast.getD 0) q] else [])

/-- R25 to R29: what the adoption of `c`, whose wet_line names a set latch or not, makes of a surface on configuration `old`
with runtime part `r`: nothing when the two agree; cleared when enabled, or of an enabled surface the surface point or the air
list, changed; with its values kept and its runs and ring cleared at any other change of an enabled surface; its configuration
alone replaced when it stays disabled. -/
def AdoptsSurface (c : SurfaceCfg) (latch : Bool) (old : SurfaceCfg) (r : SurfaceRun) (new : SurfaceRec) : Prop :=
  new.cfg = c
    ∧ (c = old ∨ c.enabled = false ∧ old.enabled = false → new.run = r)
    ∧ (c.enabled = false → old.enabled = true → new.run.ClearedIn .unused)
    ∧ (c.enabled = true → old.enabled = false ∨ c.surfacePoint ≠ old.surfacePoint ∨ c.airList ≠ old.airList →
        new.run.ClearedIn (if latch then .wet else .unknown))
    ∧ (c ≠ old → c.enabled = true → old.enabled = true → c.surfacePoint = old.surfacePoint → c.airList = old.airList →
        new.run = { r with
          state :=
            if latch = true then .wet
            else if r.state ≠ .wet then r.state
            else match r.live, r.values with
              | true, some v => rawLevel c v.margin
              | _, _ => .unknown
          riseRun := 0, fallRun := 0, heldAge := 0, ring := [], forecast := none, trendFlag := false })

/-- R45, R46: the SURFACE notices of the states that differ between two surface tables, in ascending surface number, each with
the margin held after the change. -/
def stateNotices (num : SweepNo) (old new : Vector SurfaceRec 16) : List Notice :=
  (List.finRange 16).flatMap fun i =>
    if (old[i]).run.state = (new[i]).run.state then []
    else
      match (new[i]).run.values with
      | none => [Notice.mk .surface i (old[i]).run.state.code (new[i]).run.state.code num (-32768) {}]
      | some v => [Notice.mk .surface i (old[i]).run.state.code (new[i]).run.state.code num v.margin v.marginQ]

/-- R70: the POINT notices of the changes between two point tables, in ascending point number. -/
def conditionNotices (num : SweepNo) (old new : Vector PointRec 24) : List Notice :=
  (List.finRange 24).flatMap fun p : Fin 24 =>
    if (old[p]).run.condition = (new[p]).run.condition
        ∨ (old[p]).run.phase = (new[p]).run.phase ∧ (old[p]).run.health.goodOrHolding = true
          ∧ (new[p]).run.health.goodOrHolding = true then []
    else
      [Notice.mk .point p (old[p]).run.condition (new[p]).run.condition num (new[p]).run.noticeValue.1
        (new[p]).run.noticeValue.2]

/-- R54: the ranking list follows the states between two surface tables: an entry whose surface's values were cleared, or that
is now UNKNOWN or UNUSED, is gone, and every other keeps its margin and its place. -/
def Ranking.Follows (a b : Ranking) (old new : Vector SurfaceRec 16) (cleared : Fin 16 → Bool) : Prop :=
  b.sweep = a.sweep
    ∧ b.entries = a.entries.filterMap fun e =>
        if cleared e.surface = true then none
        else if (old[e.surface]).run.state = (new[e.surface]).run.state then some e
        else if (new[e.surface]).run.state = .unknown ∨ (new[e.surface]).run.state = .unused then none
        else some { e with state := (new[e.surface]).run.state }

/-- R143: both lines act on their demand under the states of a surface table. -/
def actOn (cfg : Vector OutputCfg 2) (sf : Vector SurfaceRec 16) (now : Nat) (outs : Vector OutLine 2) : Vector OutLine 2 :=
  Vector.ofFn fun o => (outs[o]).act cfg[o] (demandOf cfg[o] sf) now

/-- R43: a surface table after the latches of the lines `off` have cleared: a bound surface leaves WET for the raw level of a
live margin, else for UNKNOWN. -/
def leftWet (sf : Vector SurfaceRec 16) (off : Fin 8 → Bool) : Vector SurfaceRec 16 :=
  Vector.ofFn fun i =>
    if (sf[i]).run.state = .wet ∧ ∃ l : Fin 8, off l = true ∧ (sf[i]).cfg.wetLine = some l then
      { sf[i] with run := { (sf[i]).run with
          state := match (sf[i]).run.live, (sf[i]).run.values with
            | true, some v => rawLevel (sf[i]).cfg v.margin
            | _, _ => .unknown
          riseRun := 0, fallRun := 0 } }
    else sf[i]

/-- R43, R45, R46, R54, R143: the latches of the lines `off` cleared, one line after the other: what the surfaces, their
notices, the ranking and, under the configurations `cfg`, the output lines came to. -/
def State.LatchesCleared (s t : State) (off : Fin 8 → Bool) (cfg : Vector OutputCfg 2) (outs : Vector OutLine 2) : Prop :=
  t.surfaces = leftWet s.surfaces off
    ∧ t.notices =
        ((List.finRange 8).flatMap fun l =>
          if off l = true then stateNotices s.sweep.number s.surfaces (leftWet s.surfaces fun m => m = l)
          else []).foldl NoticeQueue.arrive s.notices
    ∧ s.ranking.Follows t.ranking s.surfaces t.surfaces (fun _ => false)
    ∧ outs = (List.finRange 8).foldl
        (fun o l =>
          if off l = true ∧ leftWet s.surfaces (fun m => m = l) ≠ s.surfaces then
            actOn cfg (leftWet s.surfaces fun m => off m && decide (m ≤ l)) s.now o
          else o) s.outputs

/-- R89, R131, R134, R143: what became of the sweep at the end of an event that offered the notices `pn`. With a job left, or
no sweep in flight, nothing more; otherwise the sweep completed: every enabled surface evaluated from the records as they then
stand, the ranking rebuilt, the snapshot of a snapshot sweep taken, and both outputs acting on the states judged. -/
def State.SweepAfter (s t : State) (left : Prop) (pn : List Notice) : Prop :=
  (left ∨ s.sweep.inFlight = false →
      t.sweep = s.sweep ∧ t.surfaces = s.surfaces ∧ t.ranking = s.ranking ∧ t.outputs = s.outputs
      ∧ t.notices = pn.foldl NoticeQueue.arrive s.notices)
    ∧ (¬left → s.sweep.inFlight = true →
      t.surfaces = Vector.ofFn (fun i => (evalSurface s.sweep.number t.points i s.surfaces[i]).1)
      ∧ t.ranking = rankingOf s.sweep.number t.surfaces
      ∧ t.notices =
          (pn ++ ((List.finRange 16).flatMap fun i => (evalSurface s.sweep.number t.points i s.surfaces[i]).2)
            ++ if s.sweep.snapSweep = some s.sweep.number then
                [Notice.mk .snapshot 0 0 0 s.sweep.number (worstState t.surfaces) {}]
              else []).foldl NoticeQueue.arrive s.notices
      ∧ t.sweep =
          (if s.sweep.snapSweep = some s.sweep.number then
            { s.sweep with
              inFlight := false, snapSweep := none, ready := true
              buffer := some
                { sweep := s.sweep.number
                  points := Vector.ofFn fun p => snapPoint t.points[p]
                  surfaces := Vector.ofFn fun i => snapSurface t.surfaces[i] } }
          else { s.sweep with inFlight := false })
      ∧ t.outputs = actOn s.store.written.outputs t.surfaces t.now s.outputs)

/-- Table 9-5: ON_HELD has its min-on timer running, OFF_HELD its min-off timer; a line that is on runs no min-off timer, and
one that is off no min-on timer. -/
def State.OutputLaw (s : State) : Prop :=
  ∀ o : Fin 2,
    ((s.outputs[o]).state = .onHeld → (s.outputs[o]).minOn.isSome = true)
      ∧ ((s.outputs[o]).state = .offHeld → (s.outputs[o]).minOff.isSome = true)
      ∧ ((s.outputs[o]).state.isOn = true → (s.outputs[o]).minOff = none)
      ∧ ((s.outputs[o]).state.isOn = false → (s.outputs[o]).minOn = none)

end Sys2Proof.Machine
end

