-- ==== Sys2Proof/WellFormed.lean ====
section
/-! DEFINITION. Which commands can stand on the line or at the pins at all: a frame carries at most 48 payload bytes
(Table 10-6, R153), an unknown kind is none of Table 10-3, a run of samples of a probe line has at least one tick and no more
than the 25 that change a filtered level, and the counts of a closing edge hold 25 ticks of each level (R79). Indexes are
bounded by their types. -/

namespace Sys2Proof

/-- The length of a request payload fits its frame (Table 10-6: 0..48). -/
def payloadFits (p : List Byte) : Bool := p.length ≤ 48

/-- The length of a SWEEP payload with its action byte fits its frame. -/
def sweepRestFits (rest : List Byte) : Bool := rest.length ≤ 47

/-- The kind byte is none of Table 10-3 (R155). -/
def kindIsUnknown (k : Byte) : Bool := !knownKinds.contains k

/-- The ticks of a run of samples (R79). -/
def ticksFit (ticks : Nat) : Bool := 0 < ticks && ticks ≤ 25

/-- The counts of a closing edge: a filtered level stands for 25 ticks or more before it changes (R79, R84). -/
def countsFit (total high : Nat) : Bool := 25 ≤ high && high + 25 ≤ total

/-- A command that can occur. -/
def Instr.wellFormed : Instr → Bool
  | .powerOn _ => true
  | .resetPinAssert => true
  | .resetPinRelease _ => true
  | .ident p => payloadFits p
  | .status p => payloadFits p
  | .pointWrite p => payloadFits p
  | .pointRead p => payloadFits p
  | .surfaceWrite p => payloadFits p
  | .surfaceRead p => payloadFits p
  | .globalWrite p => payloadFits p
  | .globalRead p => payloadFits p
  | .outputWrite p => payloadFits p
  | .outputRead p => payloadFits p
  | .wetlineWrite p => payloadFits p
  | .wetlineRead p => payloadFits p
  | .sweepRun _ r => sweepRestFits r
  | .sweepStop _ r => sweepRestFits r
  | .sweepOnce _ r => sweepRestFits r
  | .sweepInterval _ r => sweepRestFits r
  | .noticeRead p => payloadFits p
  | .noticeDrop p => payloadFits p
  | .rankRead p => payloadFits p
  | .snapArm _ p => payloadFits p
  | .snapRead p => payloadFits p
  | .wetAck p => payloadFits p
  | .purge p => payloadFits p
  | .save p => payloadFits p
  | .load p => payloadFits p
  | .restart _ p => payloadFits p
  | .unknownKind k p => kindIsUnknown k && payloadFits p
  | .frameDiscard _ => true
  | .frameAbandon _ => true
  | .replyStart => true
  | .replyEnd => true
  | .secondsCount => true
  | .sweepTimerExpiry => true
  | .startEdge _ _ => true
  | .captureJobComplete _ _ total high => countsFit total high
  | .captureWindowExpiry _ _ => true
  | .heaterPeriodStart _ => true
  | .heaterOnTimeEnd _ => true
  | .purgeTimerExpiry _ => true
  | .recoveryTimerExpiry _ => true
  | .rawLevelChange _ _ => true
  | .debounceExpiry _ => true
  | .minOnExpiry _ => true
  | .minOffExpiry _ => true
  | .saveComplete _ => true
  | .byteReceived _ _ => true
  | .filteredLevelChange _ _ r => ticksFit r.ticks
  | .powerLoss => true

end Sys2Proof
end

