-- ==== Sys2Proof/Certificates/Slice0/Obligations.lean ====
section
/-! DEFINITION. The statements for the provers. Each cites the rules it formalises; a statement that rests on a choice of the
model names the assumption it rests on. "The part takes requests" below is `takesOwn`: it runs, no reply waits or is sent, and
its address is not 0 (R152, R153, R155). Two conventions run through all of them: a request row stands for the last CRC byte
of its frame and carries the frame's payload (assumption 15), and an expiry carries the clock `now` to the tick its timer ends
at, which a statement writes as `max s.now e` (assumption 4). -/

open Sys2Proof Sys2Proof.Machine

/-! ### The machine -/

/-- Assumption 17: a step takes the command at the front of the queue and is `exec` of it on the queue's rest. -/
def Obligations.StepRunsFrontCommand : Prop :=
  ∀ (c : Instr) (rest : List Instr) (s : State), s.pending = c :: rest → step s = exec c { s with pending := rest }

/-- R84, assumption 1: with no command waiting one tick passes, and each unit in COUNTING counts it, into the high count where
its line stands HIGH. Nothing else changes. -/
def Obligations.IdleStepPassesOneTick : Prop :=
  ∀ (s : State), s.pending = [] → s.power = .running →
    ∃ t : State, step s = .next t
      ∧ t = { s with now := s.now + 1, capture := { s.capture with units := t.capture.units } }
      ∧ ∀ k : Fin 4,
          t.capture.units[k] =
            match s.capture.units[k] with
            | .counting j w n total high =>
              .counting j w n (total + 1) (high + if s.capture.level j.line j.port = .high then 1 else 0)
            | u => u

/-- Every command completes in every state, and leaves the queue of waiting commands as it found it. That an event which
cannot occur completes and changes nothing is assumption 3, that no command is without a meaning assumption 18, and that
there is a queue assumption 17: the spec speaks of the events that occur. -/
def Obligations.EveryCommandCompletesAndKeepsTheQueue : Prop :=
  ∀ (c : Instr) (s : State), ∃ t : State, exec c s = .next t ∧ t.pending = s.pending

/-! ### The line -/

/-- R160. -/
def Obligations.IdentReply : Prop :=
  ∀ (p : List Byte) (s : State), s.takesOwn = true →
    exec (.ident p) s =
      .next (s.postReply 0x01
        (if p.length = 0 then
          Answer.mk .ok [0x55, 0x24, 0x16, 0x01, s.link.address.zeroExtend 8, 24, 16, 8, 2]
        else Answer.mk .badLength []))

/-- R155, R159, R36, R114, R131, R136, R165, Table 10-8: a reply carries its kind, its status, its payload and the four bytes
of the summary block, read from the state as it stands. -/
def Obligations.SummaryBlockBits : Prop :=
  ∀ (s : State) (k : Byte) (a : Answer), s.notices.list.length ≤ 32 →
    ∃ b1 b2 b3 b4 : Byte,
      (s.postReply k a).link.reply =
        some { kind := k, status := a.status, summary := [b1, b2, b3, b4], payload := a.payload, sending := false }
      ∧ b1.toNat = s.notices.list.length
      ∧ b2.getLsbD 0 = s.notices.overflow ∧ b2.getLsbD 1 = s.sweep.inFlight ∧ b2.getLsbD 2 = s.store.dirty
      ∧ b2.getLsbD 3 = s.store.nvFault ∧ b2.getLsbD 4 = s.store.saving.isSome
      ∧ (b2.getLsbD 5 = true ↔ ∃ l : Fin 8, (s.wet[l]).latch = true) ∧ b2.getLsbD 6 = s.sweep.ready
      ∧ (b2.getLsbD 7 = true ↔ ∃ l : Fin 8, s.lineEnabled l = true ∧ (s.wet[l]).debounced = some .openTape)
      ∧ (b3.getLsbD 7 = true ↔
          ∃ i : Fin 16, (s.surfaces[i]).cfg.enabled = true ∧ (s.surfaces[i]).run.state = .unknown)
      ∧ (∀ i : Fin 16, (s.surfaces[i]).cfg.enabled = true →
          (s.surfaces[i]).run.state.severity ≤ b3.toNat % 128)
      ∧ (b3.toNat % 128 = 0 ∨
          ∃ i : Fin 16, (s.surfaces[i]).cfg.enabled = true ∧ (s.surfaces[i]).run.state.severity = b3.toNat % 128)
      ∧ b4.toNat = s.sweep.number.toNat % 256

/-- R155, R158, Table 10-3: the length check stands first for every kind, and a kind outside the table is answered
UNKNOWN_KIND. -/
def Obligations.WrongLengthAndUnknownKindRefused : Prop :=
  (∀ (c : Instr) (k : Byte) (p : List Byte) (n : Nat) (s : State), ownRequest c = some (k, p) →
      requestLength k = some n → p.length ≠ n → s.takesOwn = true →
      exec c s = .next (s.postReply k (Answer.mk .badLength [])))
    ∧ ∀ (k : Byte) (p : List Byte) (s : State), kindIsUnknown k = true → s.takesOwn = true →
        exec (.unknownKind k p) s = .next (s.postReply k (Answer.mk .unknownKind []))

/-- R166: the requests a SAVE in flight refuses. -/
def Obligations.SaveInFlightRefusesWrites : Prop :=
  ∀ (c : Instr) (k : Byte) (p : List Byte) (s : State), busyDuringSave c = true → ownRequest c = some (k, p) →
    requestLength k = some p.length → s.store.saving.isSome = true → s.takesOwn = true →
    exec c s = .next (s.postReply k (Answer.mk .busy []))

/-- R155, R158: a refused request changes no block but the link controller, which replies with an empty payload. -/
def Obligations.RefusedRequestChangesNoBlock : Prop :=
  ∀ (c : Instr) (k : Byte) (p : List Byte) (s t : State) (r : Reply), ownRequest c = some (k, p) → s.takesOwn = true →
    exec c s = .next t → t.link.reply = some r → 2 ≤ r.status.code →
    t = s.postReply k (Answer.mk r.status [])

/-- R153, R154, R155, R157, Table 10-6: the bytes of a request frame, received from HUNT with no gap above 3.0 ms, have
exactly the effect of the request they carry, under the part's own address and under the broadcast address. -/
def Obligations.RequestFrameIsTaken : Prop :=
  (∀ (c : Instr) (k : Byte) (p : List Byte) (gap : Nat) (s : State), ownRequest c = some (k, p) →
      c.wellFormed = true → gap ≤ 12000 → s.takesOwn = true → s.link.receiver = .hunt →
      runAll (arrivals (requestFrame (s.link.address.zeroExtend 8) k p) gap) s = exec c s)
    ∧ ∀ (c : Instr) (k : Byte) (r p : List Byte) (gap : Nat) (s : State), (c, k, p) ∈ broadcastable .broadcast r →
        c.wellFormed = true → gap ≤ 12000 → s.receives = true → s.link.receiver = .hunt →
        runAll (arrivals (requestFrame 0 k p) gap) s = exec c s

/-- R152, R157: a broadcast that is acted on has the effect of the same request under the part's own address, with no reply
and the receiver in HUNT. A part strapped to address 0 takes it too, with the effect it has on a part at any other address
`a`. -/
def Obligations.BroadcastActsLikeOwnRequest : Prop :=
  ∀ (own bc : Instr) (k : Byte) (r p : List Byte) (a : BitVec 5) (s : State), (own, k, p) ∈ broadcastable .own r →
    (bc, k, p) ∈ broadcastable .broadcast r → s.receives = true → a ≠ 0 →
    ∃ t : State, exec own { s with link := { s.link with address := a } } = .next t
      ∧ exec bc s = .next { t with link := { s.link with receiver := .hunt, buffer := [] } }

/-- R154, R157: a frame whose CRC does not match, one for another address, and a broadcast of a kind that is not acted on are
lost: their bytes have exactly the effect of the discard. -/
def Obligations.FramesNotForThisPartAreLost : Prop :=
  (∀ (adr kind : Byte) (p : List Byte) (crc : BitVec 16) (gap : Nat) (s : State), p.length ≤ 48 → gap ≤ 12000 →
      s.receives = true → s.link.receiver = .hunt →
      crc ≠ crc16 (adr :: kind :: BitVec.ofNat 8 p.length :: p) →
      runAll (arrivals (requestLead :: adr :: kind :: BitVec.ofNat 8 p.length :: (p ++ u16 crc.toNat)) gap) s =
        exec (.frameDiscard .crcMismatch) s)
    ∧ (∀ (adr kind : Byte) (p : List Byte) (gap : Nat) (s : State), p.length ≤ 48 → gap ≤ 12000 →
        s.receives = true → s.link.receiver = .hunt → adr ≠ 0 → adr.toNat ≠ s.link.address.toNat →
        runAll (arrivals (requestFrame adr kind p) gap) s = exec (.frameDiscard .foreignAddress) s)
    ∧ ∀ (kind : Byte) (p : List Byte) (gap : Nat) (s : State), p.length ≤ 48 → gap ≤ 12000 →
        s.receives = true → s.link.receiver = .hunt → kind ≠ 0x20 → kind ≠ 0x24 → kind ≠ 0x32 →
        runAll (arrivals (requestFrame 0 kind p) gap) s = exec (.frameDiscard .broadcastIgnored) s

/-- R153: what the receiver does with one byte. -/
def Obligations.ReceiverTakesOneByte : Prop :=
  ∀ (b : Byte) (n : Nat) (s : State), s.power = .running →
    (s.link.receiver = .answer → exec (.byteReceived b n) s = .next s)
    ∧ (s.link.receiver = .hunt →
        exec (.byteReceived b n) s =
          .next { s with link :=
            if b = 0xC3 then { s.link with receiver := .frame, buffer := [b] }
            else { s.link with receiver := .hunt, buffer := [] } })
    ∧ (s.link.receiver = .frame → 12000 < n →
        exec (.byteReceived b n) s =
          exec (.byteReceived b n) { s with link := { s.link with receiver := .hunt, buffer := [] } })
    ∧ (s.link.receiver = .frame → n ≤ 12000 → s.link.buffer.length = 3 → 48 < b.toNat →
        exec (.byteReceived b n) s = .next { s with link := { s.link with receiver := .hunt, buffer := [] } })
    ∧ (s.link.receiver = .frame → n ≤ 12000 → ¬(s.link.buffer.length = 3 ∧ 48 < b.toNat) →
        ¬(3 ≤ s.link.buffer.length ∧ s.link.buffer.length + 1 = 6 + byteAt (s.link.buffer ++ [b]) 3) →
        exec (.byteReceived b n) s = .next { s with link := { s.link with buffer := s.link.buffer ++ [b] } })

/-- R153, R154, R156: a discarded or abandoned frame changes nothing and leaves the receiver in HUNT; while a reply waits or
is sent, every request and frame is lost. -/
def Obligations.DroppedAndLateFramesChangeNothing : Prop :=
  (∀ (cause : DiscardCause) (s : State), s.receives = true →
      exec (.frameDiscard cause) s = .next { s with link := { s.link with receiver := .hunt, buffer := [] } })
    ∧ (∀ (cause : AbandonCause) (s : State), s.receives = true →
        exec (.frameAbandon cause) s = .next { s with link := { s.link with receiver := .hunt, buffer := [] } })
    ∧ ∀ (c : Instr) (s : State), isFrameRow c = true → s.link.receiver = .answer → exec c s = .next s

/-- R152, R153, R156, Table 10-7: the reply is sent with the line driven, and at its end the receiver is in HUNT; the bytes of
its frame are the lead, the part's own address, the kind, the status, the summary block, the length, the payload and the CRC
over all of them but the lead, high byte first. -/
def Obligations.ReplyIsSentAndEnds : Prop :=
  ∀ (r : Reply) (s : State), s.power = .running → s.link.reply = some r →
    exec .replyStart s = .next { s with link := { s.link with reply := some { r with sending := true } } }
    ∧ s.driverEnabled = r.sending
    ∧ (r.sending = true →
        exec .replyEnd s = .next { s with link := { s.link with receiver := .hunt, buffer := [], reply := none } })
    ∧ ∀ body : List Byte,
        body = s.link.address.zeroExtend 8 :: r.kind :: BitVec.ofNat 8 r.status.code
          :: (r.summary ++ BitVec.ofNat 8 r.payload.length :: r.payload) →
        r.frame s.link.address = 0x3C :: (body ++ [(crc16 body).extractLsb' 8 8, (crc16 body).extractLsb' 0 8])

/-- R84, R161: at each whole second the count goes up by one, wrapping, and the next second is due one second later. The clock
stands at that second (assumption 4), and each unit in COUNTING has counted the ticks up to it, into its high count where its
line stands HIGH. Nothing else changes. -/
def Obligations.SecondsCountAdvances : Prop :=
  ∀ (s : State), s.power = .running →
    exec .secondsCount s =
      .next { s with
        now := max s.now s.link.secondEnds
        link := { s.link with seconds := s.link.seconds + 1, secondEnds := s.link.secondEnds + 4000000 }
        capture := { s.capture with units := (s.elapseTo s.link.secondEnds).capture.units } }
    ∧ ∀ (e : Nat) (k : Fin 4),
        (s.elapseTo e).capture.units[k] =
          match s.capture.units[k] with
          | .counting j w n total high =>
            .counting j w n (total + (e - s.now)) (high + if s.capture.level j.line j.port = .high then e - s.now else 0)
          | u => u

/-! ### Points, surfaces and global settings -/

/-- R75, R76: an accepted POINT_WRITE replaces the written configuration with its numeric fields limited, sets DIRTY, echoes
the stored record and changes nothing else. -/
def Obligations.PointWriteIsStored : Prop :=
  ∀ (p : List Byte) (k : PointKind) (cfg : PointCfg) (s : State), s.takesOwn = true → s.store.saving = none →
    p.length = 8 → byteAt p 0 < 24 → pointKindOf (byteAt p 1) = some k →
    cfg = { kind := k, cDry := limitNat 1000 60000 (u16At p 2), cWet := limitNat 1000 60000 (u16At p 4)
            tOffset := limitInt (-500) 500 (s16At p 6) } →
    cfg.cDry + 100 ≤ cfg.cWet →
    exec (.pointWrite p) s =
      .next (State.postReply
        { s with store := { s.store with
            written := { s.store.written with
              points := s.store.written.points.set (Fin.ofNat 24 (byteAt p 0)) cfg }
            dirty := true } }
        0x10
        (Answer.mk
          (if cfg.cDry = u16At p 2 ∧ cfg.cWet = u16At p 4 ∧ cfg.tOffset = s16At p 6 then .ok else .okAdjusted)
          (pointCfgRecord (Fin.ofNat 24 (byteAt p 0)) cfg)))

/-- R34, R75, R77, R106, R115, R150, R151, R158, R166: an index out of range is refused with BAD_INDEX; while a
SAVE is in flight too, for the requests it does not refuse. -/
def Obligations.IndexOutOfRangeIsRefused : Prop :=
  ∀ (c : Instr) (k : Byte) (p : List Byte) (n : Nat) (s : State), ownRequest c = some (k, p) →
    requestLength k = some p.length → indexLimit c = some n → n ≤ byteAt p 0 →
    (busyDuringSave c = true → s.store.saving = none) → s.takesOwn = true →
    exec c s = .next (s.postReply k (Answer.mk .badIndex []))

/-- R32, R34, R75, R77, R118, R124, R135, R150, R157, R158, R166: the other structural faults, each with its status; a SAVE
in flight comes first for the writes alone. A SWEEP frame of another length than three is BAD_LENGTH, and one with an action
above 3 is BAD_VALUE, whatever the sweep controller and the store do; as a broadcast either changes nothing. -/
def Obligations.StructuralFaultsAreRefused : Prop :=
  (∀ (p : List Byte) (s : State), s.takesOwn = true →
    (s.store.saving = none → p.length = 8 → byteAt p 0 < 24 →
      (2 < byteAt p 1 ∨ limitNat 1000 60000 (u16At p 4) < limitNat 1000 60000 (u16At p 2) + 100) →
      exec (.pointWrite p) s = .next (s.postReply 0x10 (Answer.mk .badValue [])))
    ∧ (s.store.saving = none → p.length = 25 →
        (24 ≤ byteAt p 2 ∨ (byteAt p 3 ≤ 4 ∧ ∃ j < byteAt p 3, 24 ≤ byteAt p (4 + 2 * j))
          ∨ (byteAt p 22 = 1 ∧ 8 ≤ byteAt p 23)) →
        exec (.surfaceWrite p) s = .next (s.postReply 0x12 (Answer.mk .badIndex [])))
    ∧ (s.store.saving = none → p.length = 25 → byteAt p 0 < 16 → byteAt p 2 < 24 →
        (byteAt p 3 ≤ 4 → ∀ j < byteAt p 3, byteAt p (4 + 2 * j) < 24) → (byteAt p 22 = 1 → byteAt p 23 < 8) →
        (1 < byteAt p 1 ∨ byteAt p 3 = 0 ∨ 4 < byteAt p 3 ∨ 2 < byteAt p 12 ∨ 1 < byteAt p 22
          ∨ ∃ j < byteAt p 3, ∃ i < j, byteAt p (4 + 2 * i) = byteAt p (4 + 2 * j)) →
        exec (.surfaceWrite p) s = .next (s.postReply 0x12 (Answer.mk .badValue [])))
    ∧ (s.store.saving = none → p.length = 10 → byteAt p 0 < 2 →
        (byteAt p 3 < 2 ∨ 5 < byteAt p 3 ∨ 1 < byteAt p 4 ∨ 1 < byteAt p 9) →
        exec (.outputWrite p) s = .next (s.postReply 0x16 (Answer.mk .badValue [])))
    ∧ (s.store.saving = none → p.length = 10 → (∃ i < 8, 1 < byteAt p i) →
        exec (.wetlineWrite p) s = .next (s.postReply 0x18 (Answer.mk .badValue [])))
    ∧ (p.length = 2 → byteAt p 0 < 24 → 2 < byteAt p 1 →
        exec (.pointRead p) s = .next (s.postReply 0x11 (Answer.mk .badValue [])))
    ∧ (p.length = 2 → byteAt p 0 < 16 → 2 < byteAt p 1 →
        exec (.surfaceRead p) s = .next (s.postReply 0x13 (Answer.mk .badValue [])))
    ∧ (p.length = 1 → 3 < byteAt p 0 →
        exec (.snapRead p) s = .next (s.postReply 0x25 (Answer.mk .badValue []))))
  ∧ ∀ (p : List Byte) (gap : Nat) (s : State), gap ≤ 12000 → s.link.receiver = .hunt → p.length ≤ 48 →
      (s.takesOwn = true → p.length ≠ 3 →
        runAll (arrivals (requestFrame (s.link.address.zeroExtend 8) 0x20 p) gap) s =
          .next (s.postReply 0x20 (Answer.mk .badLength [])))
      ∧ (s.takesOwn = true → p.length = 3 → 3 < byteAt p 0 →
        runAll (arrivals (requestFrame (s.link.address.zeroExtend 8) 0x20 p) gap) s =
          .next (s.postReply 0x20 (Answer.mk .badValue [])))
      ∧ (s.receives = true → p.length ≠ 3 ∨ 3 < byteAt p 0 →
        runAll (arrivals (requestFrame 0 0x20 p) gap) s =
          .next { s with link := { s.link with receiver := .hunt, buffer := [] } })

/-- R34, R77, R161, Tables 10-8, 10-10, 10-11: STATUS, POINT_READ and SURFACE_READ answer with the records as they stand,
whatever SAVE or sweep is in flight, byte by byte as their tables lay them out, and change nothing. An absent value reads as 0
with a clear qualifier byte. -/
def Obligations.ReadsReturnTheRecords : Prop :=
  ∀ (s : State), s.takesOwn = true →
    exec (.status []) s =
      .next (s.postReply 0x02 (Answer.mk .ok
        (u8 s.sweep.mode.code ++ u16 s.sweep.interval ++ u16 (s.sweep.pendingIv.getD 0)
          ++ u8 (boolCode s.sweep.inFlight) ++ u32 s.sweep.number.toNat ++ u32 s.link.seconds.toNat
          ++ u8 s.purge.grants.length ++ u8 s.purge.queue.length)))
    ∧ (∀ q : Quals, ∃ b : Byte, q.present = [b]
        ∧ b.getLsbD 0 = q.clamped ∧ b.getLsbD 1 = q.held ∧ b.getLsbD 2 = q.saturated ∧ b.getLsbD 3 = q.lowDew
        ∧ b.getLsbD 4 = false ∧ b.getLsbD 5 = false ∧ b.getLsbD 6 = false ∧ b.getLsbD 7 = true)
    ∧ (∀ p : Fin 24,
        exec (.pointRead [BitVec.ofNat 8 p, 0]) s =
          .next (s.postReply 0x11 (Answer.mk .ok (0 :: pointCfgRecord p s.store.written.points[p])))
        ∧ exec (.pointRead [BitVec.ofNat 8 p, 1]) s =
          .next (s.postReply 0x11 (Answer.mk .ok (1 :: pointCfgRecord p (s.points[p]).cfg)))
        ∧ ∀ r : PointRun, r = (s.points[p]).run →
            exec (.pointRead [BitVec.ofNat 8 p, 2]) s =
              .next (s.postReply 0x11 (Answer.mk .ok
                ([2] ++ u8 p ++ u8 r.health.code ++ u8 r.phase.code ++ u8 r.failRun ++ u8 r.satRun ++ u8 r.purgeCount
                  ++ (match r.readings with
                      | .absent => u16 0 ++ u8 0 ++ u16 0 ++ u8 0 ++ u16 0 ++ u16 0 ++ u16 0 ++ u8 0
                      | .air a =>
                        u16 a.rh ++ a.rhQ.present ++ s16 a.t ++ a.tQ.present ++ s16 a.tc ++ u16 a.e ++ s16 a.td
                          ++ a.dewQ.present
                      | .surface t q =>
                        u16 0 ++ u8 0 ++ s16 t ++ q.present ++ u16 0 ++ u16 0 ++ u16 0 ++ u8 0)
                  ++ (match r.frozen with
                      | none => u16 0 ++ u16 0 ++ u8 0
                      | some f => s16 f.td ++ s16 f.tc ++ f.q.present)
                  ++ (match r.lastGood with
                      | none => u8 0 ++ u32 0
                      | some n => u8 1 ++ u32 n.toNat)
                  ++ (match r.lastFailure with
                      | none => u8 0 ++ u32 0
                      | some (c, n) => u8 c.code ++ u32 n.toNat)))))
    ∧ ∀ i : Fin 16,
        exec (.surfaceRead [BitVec.ofNat 8 i, 0]) s =
          .next (s.postReply 0x13 (Answer.mk .ok (0 :: surfaceCfgRecord i s.store.written.surfaces[i])))
        ∧ exec (.surfaceRead [BitVec.ofNat 8 i, 1]) s =
          .next (s.postReply 0x13 (Answer.mk .ok (1 :: surfaceCfgRecord i (s.surfaces[i]).cfg)))
        ∧ ∀ r : SurfaceRun, r = (s.surfaces[i]).run → r.ring.length ≤ 8 →
            exec (.surfaceRead [BitVec.ofNat 8 i, 2]) s =
              .next (s.postReply 0x13 (Answer.mk .ok
                ([2] ++ u8 i ++ u8 r.state.code ++ u8 r.riseRun ++ u8 r.fallRun ++ u8 r.heldAge ++ u8 (boolCode r.live)
                  ++ (match r.values with
                      | none => u32 0 ++ u16 0 ++ u8 0 ++ u16 0 ++ u8 0 ++ u16 0 ++ u8 0
                      | some v =>
                        u32 v.sweep.toNat ++ s16 v.ts ++ v.tsQ.present ++ s16 v.td ++ v.tdQ.present
                          ++ s16 v.margin ++ v.marginQ.present)
                  ++ u8 r.ring.length ++ r.ring.flatMap s16 ++ List.replicate (16 - 2 * r.ring.length) 0
                  ++ u8 (r.forecast.getD 0)
                  ++ u8 ((if r.forecast.isSome then 1 else 0) + if r.trendFlag then 2 else 0))))

/-- R32, R33: an accepted SURFACE_WRITE replaces the written configuration with its numeric fields limited, alarm against
watch as limited, sets DIRTY, echoes the stored record and changes nothing else. -/
def Obligations.SurfaceWriteIsStored : Prop :=
  ∀ (p : List Byte) (m : CombineMode) (cfg : SurfaceCfg) (s : State), s.takesOwn = true → s.store.saving = none →
    p.length = 25 → byteAt p 0 < 16 → byteAt p 1 ≤ 1 → byteAt p 2 < 24 → 1 ≤ byteAt p 3 → byteAt p 3 ≤ 4 →
    (∀ j < byteAt p 3, byteAt p (4 + 2 * j) < 24) →
    (∀ j < byteAt p 3, ∀ i < j, byteAt p (4 + 2 * i) ≠ byteAt p (4 + 2 * j)) →
    combineModeOf (byteAt p 12) = some m → byteAt p 22 ≤ 1 → (byteAt p 22 = 1 → byteAt p 23 < 8) →
    cfg = { enabled := decide (byteAt p 1 = 1)
            surfacePoint := Fin.ofNat 24 (byteAt p 2)
            airList := (List.range (byteAt p 3)).map fun j =>
              { point := Fin.ofNat 24 (byteAt p (4 + 2 * j)), weight := limitNat 1 15 (byteAt p (5 + 2 * j)) }
            mode := m
            watch := limitInt 50 1500 (s16At p 13)
            alarm := limitInt 10 (limitInt 50 1500 (s16At p 13)) (s16At p 15)
            hysteresis := limitInt 0 300 (s16At p 17)
            riseCount := limitNat 1 8 (byteAt p 19)
            fallCount := limitNat 1 16 (byteAt p 20)
            holdSweeps := limitNat 0 15 (byteAt p 21)
            wetLine := if byteAt p 22 = 1 then some (Fin.ofNat 8 (byteAt p 23)) else none
            forecastSweeps := limitNat 0 60 (byteAt p 24) } →
    exec (.surfaceWrite p) s =
      .next (State.postReply
        { s with store := { s.store with
            written := { s.store.written with
              surfaces := s.store.written.surfaces.set (Fin.ofNat 16 (byteAt p 0)) cfg }
            dirty := true } }
        0x12
        (Answer.mk
          (if (∀ j < byteAt p 3, 1 ≤ byteAt p (5 + 2 * j) ∧ byteAt p (5 + 2 * j) ≤ 15)
              ∧ cfg.watch = s16At p 13 ∧ cfg.alarm = s16At p 15 ∧ cfg.hysteresis = s16At p 17
              ∧ cfg.riseCount = byteAt p 19 ∧ cfg.fallCount = byteAt p 20 ∧ cfg.holdSweeps = byteAt p 21
              ∧ cfg.forecastSweeps = byteAt p 24 then .ok else .okAdjusted)
          (surfaceCfgRecord (Fin.ofNat 16 (byteAt p 0)) cfg)))

/-- R163: GLOBAL_WRITE and GLOBAL_READ. -/
def Obligations.GlobalSettingsRequests : Prop :=
  ∀ (p : List Byte) (g : GlobalCfg) (s : State), s.takesOwn = true →
    g = { faultCount := limitNat 1 8 (byteAt p 0), nF := u16At p 1, nD := byteAt p 3
          window := limitNat 20 500 (u16At p 4), satCount := limitNat 1 10 (byteAt p 6)
          maxPurges := limitNat 1 5 (byteAt p 7), heaterDuty := limitNat 10 100 (byteAt p 8)
          purgeTime := limitNat 10 600 (u16At p 9), recoveryTime := limitNat 30 900 (u16At p 11) } →
    (p.length ≠ 13 → exec (.globalWrite p) s = .next (s.postReply 0x14 (Answer.mk .badLength [])))
    ∧ (p.length = 13 → s.store.saving.isSome = true →
        exec (.globalWrite p) s = .next (s.postReply 0x14 (Answer.mk .busy [])))
    ∧ (p.length = 13 → s.store.saving = none → (g.nF ∉ [16, 64, 256] ∨ g.nD ∉ [1, 4, 16]) →
        exec (.globalWrite p) s = .next (s.postReply 0x14 (Answer.mk .badValue [])))
    ∧ (p.length = 13 → s.store.saving = none → g.nF ∈ [16, 64, 256] → g.nD ∈ [1, 4, 16] →
        exec (.globalWrite p) s =
          .next (State.postReply
            { s with store := { s.store with written := { s.store.written with globals := g }, dirty := true } }
            0x14
            (Answer.mk
              (if g.faultCount = byteAt p 0 ∧ g.window = u16At p 4 ∧ g.satCount = byteAt p 6
                  ∧ g.maxPurges = byteAt p 7 ∧ g.heaterDuty = byteAt p 8 ∧ g.purgeTime = u16At p 9
                  ∧ g.recoveryTime = u16At p 11 then .ok else .okAdjusted)
              (globalRecord g))))
    ∧ exec (.globalRead p) s =
        .next (s.postReply 0x15
          (if p.length = 0 then Answer.mk .ok (globalRecord s.store.written.globals) else Answer.mk .badLength []))

/-- R76, R33, R150, R163, R118, R164: the layouts of reading and of writing agree: in a part whose written image is in range,
writing back any record exactly as it reads out is answered OK and leaves the written image as it was. -/
def Obligations.RecordsWriteBackUnchanged : Prop :=
  ∀ (c : Instr) (s : State), s.takesOwn = true → s.store.saving = none → s.store.written.Valid →
    ((∃ p : Fin 24, c = .pointWrite (pointCfgRecord p s.store.written.points[p]))
      ∨ (∃ i : Fin 16, c = .surfaceWrite (surfaceCfgRecord i s.store.written.surfaces[i]))
      ∨ c = .globalWrite (globalRecord s.store.written.globals)
      ∨ (∃ o : Fin 2, c = .outputWrite (outputCfgRecord o s.store.written.outputs[o]))
      ∨ c = .wetlineWrite (wetCfgRecord s.store.written.wet)) →
    ∃ t : State, exec c s = .next t ∧ t.store = { s.store with dirty := true } ∧ t.link.reply.map Reply.status = some .ok

/-! ### Arithmetic -/

/-- R1, R2, R5, R7, Table 1-2: the 31 values; the two interpolations with their roundings, the saturation pressure at r above
the start of interval i and the inverse lookup between E[j] and E[j + 1], its floor and its ceiling. So the table rises by at
least 49 Pa a step; the saturation pressure never falls; the inverse lookup never falls, stays in the table's range, meets the
table at its entries and takes the floor below 287 Pa only. -/
def Obligations.VapourTableLookups : Prop :=
  vapourTable =
    [287, 336, 391, 455, 528, 611, 706, 813, 934, 1071, 1226, 1400, 1595, 1814, 2059, 2333,
     2637, 2977, 3353, 3771, 4234, 4745, 5309, 5931, 6616, 7367, 8192, 9096, 10085, 11166, 12345]
  ∧ (∀ k : Nat, vapourAt k = vapourTable.getD k 0)
  ∧ (∀ (i : Nat) (tc r : Int), i ≤ 29 → r = tc + 1000 - 200 * (i : Int) → 0 ≤ r → r < 200 ∨ i = 29 ∧ r = 200 →
      satPressure tc =
        vapourAt i + (2 * (((vapourAt (i + 1) : Int) - (vapourAt i : Int)) * r) + 200) / 400)
  ∧ (∀ (j : Nat) (e step : Int), j ≤ 29 → (vapourAt j : Int) ≤ e → e < (vapourAt (j + 1) : Int) →
      step = (vapourAt (j + 1) : Int) - (vapourAt j : Int) →
      rawDewPoint e =
        (-1000 + 200 * (j : Int) + (2 * (200 * (e - (vapourAt j : Int))) + step) / (2 * step), false))
  ∧ (∀ e : Int, e < 287 → rawDewPoint e = (-1000, true))
  ∧ (∀ e : Int, 12345 ≤ e → rawDewPoint e = (5000, false))
  ∧ (∀ k : Nat, k < 30 → vapourAt k + 49 ≤ vapourAt (k + 1))
  ∧ (∀ tc : Int, -1000 ≤ tc → tc ≤ 5000 →
      (vapourAt (tableInterval tc) : Int) ≤ satPressure tc
        ∧ satPressure tc ≤ (vapourAt (tableInterval tc + 1) : Int))
  ∧ (∀ a b : Int, -1000 ≤ a → a ≤ b → b ≤ 5000 → satPressure a ≤ satPressure b)
  ∧ (∀ k : Nat, k ≤ 30 → satPressure (-1000 + 200 * (k : Int)) = vapourAt k)
  ∧ (∀ a b : Int, 0 ≤ a → a ≤ b → (rawDewPoint a).1 ≤ (rawDewPoint b).1)
  ∧ (∀ e : Int, -1000 ≤ (rawDewPoint e).1 ∧ (rawDewPoint e).1 ≤ 5000)
  ∧ (∀ k : Nat, k ≤ 30 → (rawDewPoint (vapourAt k)).1 = -1000 + 200 * (k : Int))
  ∧ ∀ e : Int, ((rawDewPoint e).2 = true ↔ e < 287)

/-- R3, R4, R6, R8, R9: the clamped temperature, the vapour pressure and the dew point as the stages of the calculator give
them; the results lie in the ranges of Table 1-3, the dew point at or below the clamped temperature, with the qualifiers of
R9. -/
def Obligations.DewPointLimitsAndQualifiers : Prop :=
  ∀ (t : Int) (rh : Nat) (q : Quals), rh ≤ 10000 →
    (dewPoint t rh q).tc = max (-1000) (min 5000 t)
    ∧ (dewPoint t rh q).e = (2 * (satPressure (dewPoint t rh q).tc * rh) + 10000) / 20000
    ∧ (dewPoint t rh q).td = min (rawDewPoint (dewPoint t rh q).e).1 (dewPoint t rh q).tc
    ∧ 0 ≤ (dewPoint t rh q).e ∧ (dewPoint t rh q).e ≤ satPressure (dewPoint t rh q).tc
    ∧ (rh = 10000 → (dewPoint t rh q).e = satPressure (dewPoint t rh q).tc)
    ∧ (rh = 0 → (dewPoint t rh q).e = 0)
    ∧ -1000 ≤ (dewPoint t rh q).td ∧ (dewPoint t rh q).td ≤ (dewPoint t rh q).tc
    ∧ ((dewPoint t rh q).q.clamped = true ↔ q.clamped = true ∨ t < -1000 ∨ 5000 < t)
    ∧ ((dewPoint t rh q).q.lowDew = true ↔ q.lowDew = true ∨ (dewPoint t rh q).e < 287)
    ∧ (dewPoint t rh q).q.saturated = q.saturated ∧ (dewPoint t rh q).q.held = q.held

/-- R10, R11, R12: the combined dew point lies between two contributing ones, is the largest under WORST and the first under
FIRST, is absent exactly without a usable member, and its qualifiers are those of the contributing members. -/
def Obligations.CombinationLiesWithinMembers : Prop :=
  ∀ (mode : CombineMode) (ms : List Contribution), (∀ m ∈ ms, 1 ≤ m.weight) →
    (combine mode ms = none ↔ ms = [])
    ∧ ∀ (v : Int) (q : Quals), combine mode ms = some (v, q) →
        (∃ a ∈ ms, a.td ≤ v) ∧ (∃ b ∈ ms, v ≤ b.td)
        ∧ (mode = .worst → (∃ a ∈ ms, v = a.td) ∧ ∀ a ∈ ms, a.td ≤ v)
        ∧ (mode = .first → ∃ a, ms.head? = some a ∧ v = a.td ∧ q = a.q)
        ∧ (mode = .mean →
            v = (2 * (ms.map fun m => (m.weight : Int) * m.td).sum + (ms.map fun m => (m.weight : Int)).sum)
              / (2 * (ms.map fun m => (m.weight : Int)).sum))
        ∧ (mode ≠ .first →
            (q.clamped = true ↔ ∃ a ∈ ms, a.q.clamped = true) ∧ (q.held = true ↔ ∃ a ∈ ms, a.q.held = true)
              ∧ (q.saturated = true ↔ ∃ a ∈ ms, a.q.saturated = true)
              ∧ (q.lowDew = true ↔ ∃ a ∈ ms, a.q.lowDew = true))

/-- R20 to R24, R37 to R40, R42, R45, R49, R50, R51: the raw level never falls as the margin falls; a falling candidate lies
between the raw level and the state and waits for the hysteresis; a rise takes rise_count agreeing live margins and a fall
fall_count, the state moving at the last of them and not before. Each live margin counts on its own side and clears the run of
the other, and a candidate equal to the state clears both. The last clause takes the evaluation of a surface: which
point gives Ts and which members give a dew point; then a live margin, a hold, or the end of the surface's data, each with its
notices in order. -/
def Obligations.StateMachineCountsAgreeingMargins : Prop :=
  (∀ (c : SurfaceCfg) (m₁ m₂ : Int), m₁ ≤ m₂ → (rawLevel c m₂).severity ≤ (rawLevel c m₁).severity)
  ∧ (∀ (c : SurfaceCfg) (st : RiskState) (m : Int), 0 ≤ c.hysteresis → st.ofMargin = true →
      (st.severity ≤ (rawLevel c m).severity → candidate c st m = rawLevel c m)
      ∧ ((rawLevel c m).severity < st.severity →
          (rawLevel c m).severity ≤ (candidate c st m).severity ∧ (candidate c st m).severity ≤ st.severity)
      ∧ ((rawLevel c m).severity < st.severity → st.severity ≤ (rawLevel c (m - c.hysteresis)).severity →
          candidate c st m = st))
  ∧ (∀ (c : SurfaceCfg) (r : SurfaceRun) (ms : List Int) (m : Int), r.state.ofMargin = true → r.riseRun = 0 →
      (ms ++ [m]).length = c.riseCount → (∀ x ∈ ms ++ [m], r.state.severity < (rawLevel c x).severity) →
      (ms.foldl (SurfaceRun.judge c) r).state = r.state
      ∧ ((ms ++ [m]).foldl (SurfaceRun.judge c) r).state = rawLevel c m
      ∧ ((ms ++ [m]).foldl (SurfaceRun.judge c) r).riseRun = 0)
  ∧ (∀ (c : SurfaceCfg) (r : SurfaceRun) (ms : List Int) (m : Int), r.state.ofMargin = true → r.fallRun = 0 →
      0 ≤ c.hysteresis → (ms ++ [m]).length = c.fallCount →
      (∀ x ∈ ms ++ [m], (rawLevel c (x - c.hysteresis)).severity < r.state.severity) →
      (ms.foldl (SurfaceRun.judge c) r).state = r.state
      ∧ ((ms ++ [m]).foldl (SurfaceRun.judge c) r).state = rawLevel c (m - c.hysteresis)
      ∧ ((ms ++ [m]).foldl (SurfaceRun.judge c) r).fallRun = 0)
  ∧ (∀ (c : SurfaceCfg) (r : SurfaceRun) (m : Int), r.state.ofMargin = true →
      ((rawLevel c m).severity < r.state.severity → candidate c r.state m =
        if (rawLevel c (m - c.hysteresis)).severity < r.state.severity then rawLevel c (m - c.hysteresis) else r.state)
      ∧ (r.state.severity < (candidate c r.state m).severity → r.judge c m =
        if r.riseRun + 1 < c.riseCount then { r with riseRun := r.riseRun + 1, fallRun := 0 }
        else { r with state := candidate c r.state m, riseRun := 0, fallRun := 0 })
      ∧ ((candidate c r.state m).severity < r.state.severity → r.judge c m =
        if r.fallRun + 1 < c.fallCount then { r with riseRun := 0, fallRun := r.fallRun + 1 }
        else { r with state := candidate c r.state m, riseRun := 0, fallRun := 0 })
      ∧ (candidate c r.state m = r.state → r.judge c m = { r with riseRun := 0, fallRun := 0 }))
  ∧ (∀ (c : SurfaceCfg) (r : SurfaceRun) (m : Int),
      (r.state = .unknown → r.judge c m = { r with state := rawLevel c m, riseRun := 0, fallRun := 0 })
      ∧ (r.state = .wet → r.judge c m = { r with riseRun := 0, fallRun := 0 }))
  ∧ (∀ (r : PointRec) (w : Nat) (t : Int) (q : Quals) (m : Contribution),
      (surfaceTemp r = some (t, q) ↔
        r.cfg.kind = .surface ∧ (r.run.health = .good ∨ r.run.health = .holding) ∧ r.run.readings = .surface t q)
      ∧ (contributionOf w r = some m ↔
        r.cfg.kind = .air ∧ m.weight = w
          ∧ ((r.run.phase = .heating ∨ r.run.phase = .recovering)
                ∧ (∃ f, r.run.frozen = some f ∧ m.td = f.td ∧ m.q = f.q)
              ∨ r.run.phase ≠ .heating ∧ r.run.phase ≠ .recovering
                ∧ (r.run.health = .good ∨ r.run.health = .holding)
                ∧ ∃ a, r.run.readings = .air a ∧ m.td = a.td ∧ m.q = a.dewQ)))
  ∧ ∀ (num : SweepNo) (pts : Vector PointRec 24) (i : Fin 16) (c : SurfaceCfg) (r : SurfaceRun) (ts : Option (Int × Quals))
      (td : Option (Int × Quals)) (out : SurfaceRec × List Notice), out = evalSurface num pts i (SurfaceRec.mk c r) →
      ts = surfaceTemp pts[c.surfacePoint] →
      td = combine c.mode (c.airList.filterMap fun m => contributionOf m.weight pts[m.point]) →
      (c.enabled = false → out = (SurfaceRec.mk c r, []))
      ∧ (c.enabled = true → (∀ x y : Int × Quals, ts = some x → td = some y → LiveMargin out num i c r x y)
          ∧ (ts = none ∨ td = none → ∀ v : Values, r.values = some v → r.heldAge < c.holdSweeps →
              out = (SurfaceRec.mk c
                { r with
                  values := some { v with tsQ := v.tsQ.addHeld, tdQ := v.tdQ.addHeld, marginQ := v.marginQ.addHeld }
                  live := false, heldAge := r.heldAge + 1 }, []))
          ∧ (ts = none ∨ td = none → r.values = none ∨ c.holdSweeps ≤ r.heldAge → ∃ st : RiskState,
              st = (if r.state = .wet ∨ r.state = .unused then r.state else .unknown)
              ∧ out.1.cfg = c ∧ out.1.run.ClearedIn st
              ∧ out.2 = if st = r.state then [] else [Notice.mk .surface i r.state.code st.code num (-32768) {}]))

/-- R47, R48: the ring keeps the last 8 live margins, oldest first, and the forecast is the ceiling of newest × 7 / drop. -/
def Obligations.ForecastOfTheTrendRing : Prop :=
  (∀ (ring : List Int) (m : Int), ring.length ≤ 8 → appendRing ring m = ((ring ++ [m]).reverse.take 8).reverse)
  ∧ ∀ (ring : List Int),
      (ring.length < 8 → forecastOf ring = none)
      ∧ ∀ (mid : List Int) (oldest newest : Int), ring = oldest :: (mid ++ [newest]) → mid.length = 6 →
          forecastOf ring =
            if newest ≤ 0 then some 0
            else if 1 ≤ oldest - newest then
              some (min 255 ⌈((newest * 7 : Int) : ℚ) / ((oldest - newest : Int) : ℚ)⌉.toNat)
            else none

/-- R52, R53: the rebuilt list holds exactly the 8 lowest of the surfaces that qualify, in order, with the items of R53. -/
def Obligations.RankingTakesTheLowestMargins : Prop :=
  ∀ (num : SweepNo) (sf : Vector SurfaceRec 16),
    (rankingOf num sf).sweep = num
    ∧ (rankingOf num sf).entries.length ≤ 8
    ∧ (rankingOf num sf).entries.Pairwise RankEntry.before
    ∧ (∀ e ∈ (rankingOf num sf).entries,
        (sf[e.surface]).cfg.enabled = true ∧ e.state = (sf[e.surface]).run.state ∧ e.state ≠ .unknown
          ∧ e.state ≠ .unused ∧ (sf[e.surface]).run.values.map Values.margin = some e.margin
          ∧ e.held = !(sf[e.surface]).run.live)
    ∧ ∀ (i : Fin 16) (v : Values), (sf[i]).cfg.enabled = true → (sf[i]).run.values = some v →
        (sf[i]).run.state ≠ .unknown → (sf[i]).run.state ≠ .unused →
        (∃ e ∈ (rankingOf num sf).entries, e.surface = i)
          ∨ ((rankingOf num sf).entries.length = 8
              ∧ ∀ e ∈ (rankingOf num sf).entries,
                  e.margin < v.margin ∨ (e.margin = v.margin ∧ e.surface < i))

/-- R56. -/
def Obligations.RankReadReply : Prop :=
  ∀ (p : List Byte) (s : State),
    (s.takesOwn = true →
      exec (.rankRead p) s =
        .next (s.postReply 0x23
          (if p.length = 0 then
            Answer.mk .ok
              (u8 s.ranking.entries.length ++ u32 s.ranking.sweep.toNat
                ++ s.ranking.entries.flatMap fun e =>
                    u8 e.surface ++ u8 e.state.code ++ s16 e.margin ++ u8 (boolCode e.held))
          else Answer.mk .badLength [])))
    ∧ ∀ gap : Nat, p.length ≤ 48 → gap ≤ 12000 → s.receives = true → s.link.receiver = .hunt →
        runAll (arrivals (requestFrame 0 0x23 p) gap) s =
          .next { s with link := { s.link with receiver := .hunt, buffer := [] } }

/-! ### Wet lines -/

/-- R119. -/
def Obligations.WetlineReadReply : Prop :=
  ∀ (p : List Byte) (s : State), s.takesOwn = true →
    exec (.wetlineRead p) s =
      .next (s.postReply 0x19
        (if p.length = 0 then
          Answer.mk .ok
            (u16 s.store.written.wet.debounce
              ++ (List.finRange 8).flatMap fun l =>
                  u8 (boolCode s.store.written.wet.enabled[l]) ++ u8 (wetLevelCode (s.wet[l]).raw)
                    ++ u8 (wetLevelCode (s.wet[l]).debounced) ++ u8 (boolCode (s.wet[l]).latch)
                    ++ u8 (boolCode (s.wet[l]).timer.isSome)
                    ++ u16 (match (s.wet[l]).timer with
                        | none => 0
                        | some t => ceilDiv (t - s.now) 400000))
        else Answer.mk .badLength []))

/-- R41, R45, R46, R54, R111, R112, R113, R116, R143, Table 7-3: a pin below 40 kΩ reads WET, up to 400 kΩ DRY and above
OPEN; a raw level change of an enabled line starts its debounce afresh, of a disabled line nothing more; at the expiry the
debounced level takes the raw level, with a WETLINE notice at a change, and a latch that sets moves the bound surfaces into
WET, with their notices behind it, the ranking following and both outputs acting where a state changed, once, on the states
after all the surface changes of the event (assumption 13). The units in COUNTING count the ticks up to the expiry. -/
def Obligations.WetLineEvents : Prop :=
  (∀ (l : Fin 8) (ohms : Nat) (v : WetLevel) (s : State), s.power = .running → (s.wet[l]).raw ≠ some v →
      v = (if ohms < 40000 then .wet else if ohms ≤ 400000 then .dry else .openTape) →
      exec (.rawLevelChange l ohms) s =
        .next { s with
          wet := s.wet.set l
            (if s.store.written.wet.enabled[l] = true then
              { s.wet[l] with raw := some v, timer := some (s.now + s.store.written.wet.debounce * 400000) }
            else { s.wet[l] with raw := some v }) })
  ∧ ∀ (l : Fin 8) (e : Nat) (s : State), s.power = .running → (s.wet[l]).timer = some e →
      ∃ t : State, exec (.debounceExpiry l) s = .next t
        ∧ t.wet = s.wet.set l
            { s.wet[l] with
              timer := none, debounced := (s.wet[l]).raw
              latch := (s.wet[l]).latch
                || decide ((s.wet[l]).debounced ≠ (s.wet[l]).raw ∧ (s.wet[l]).raw = some .wet) }
        ∧ t = { s with
            now := max s.now e, wet := t.wet, surfaces := t.surfaces, ranking := t.ranking, notices := t.notices
            outputs := t.outputs, capture := { s.capture with units := (s.elapseTo e).capture.units } }
        ∧ ((s.wet[l]).debounced = (s.wet[l]).raw →
            t.surfaces = s.surfaces ∧ t.ranking = s.ranking ∧ t.notices = s.notices ∧ t.outputs = s.outputs)
        ∧ ((s.wet[l]).debounced ≠ (s.wet[l]).raw →
            t.notices = (Notice.mk .wetline l (wetLevelCode (s.wet[l]).debounced) (wetLevelCode (s.wet[l]).raw)
                s.sweep.number (boolCode (t.wet[l]).latch) {}
                  :: stateNotices s.sweep.number s.surfaces t.surfaces).foldl NoticeQueue.arrive s.notices)
        ∧ s.ranking.Follows t.ranking s.surfaces t.surfaces (fun _ => false)
        ∧ t.outputs =
            (if ∃ i : Fin 16, (s.surfaces[i]).run.state ≠ (t.surfaces[i]).run.state then
              actOn s.store.written.outputs t.surfaces t.now s.outputs
            else s.outputs)
        ∧ ((t.wet[l]).latch = (s.wet[l]).latch → t.surfaces = s.surfaces ∧ t.outputs = s.outputs)
        ∧ ((t.wet[l]).latch ≠ (s.wet[l]).latch → ∀ i : Fin 16,
            t.surfaces[i] =
              if (s.surfaces[i]).cfg.enabled = true ∧ (s.surfaces[i]).cfg.wetLine = some l then
                { s.surfaces[i] with run := { (s.surfaces[i]).run with state := .wet, riseRun := 0, fallRun := 0 } }
              else s.surfaces[i])

/-- R43, R45, R46, R54, R115, R143: WET_ACK is refused while the tape is wet, changes nothing when the latch is clear, and
otherwise clears the latch and takes the bound surfaces out of WET, to the raw level of a live margin or to UNKNOWN, each
with its SURFACE notice; the ranking follows and both outputs act where a state changed, once, on the states after all the
surface changes of the event (assumption 13). -/
def Obligations.WetAckClearsTheLatch : Prop :=
  ∀ (l : Fin 8) (s : State), s.takesOwn = true →
    ((s.wet[l]).debounced = some .wet →
      exec (.wetAck [BitVec.ofNat 8 l]) s = .next (s.postReply 0x26 (Answer.mk .stillWet [])))
    ∧ ((s.wet[l]).debounced ≠ some .wet → (s.wet[l]).latch = false →
        exec (.wetAck [BitVec.ofNat 8 l]) s =
          .next (s.postReply 0x26
            (Answer.mk .ok [BitVec.ofNat 8 l, BitVec.ofNat 8 (wetLevelCode (s.wet[l]).debounced), 0])))
    ∧ ((s.wet[l]).debounced ≠ some .wet → (s.wet[l]).latch = true →
        ∃ t : State, exec (.wetAck [BitVec.ofNat 8 l]) s =
            .next (t.postReply 0x26
              (Answer.mk .ok [BitVec.ofNat 8 l, BitVec.ofNat 8 (wetLevelCode (s.wet[l]).debounced), 0]))
          ∧ t = { s with
              wet := s.wet.set l { s.wet[l] with latch := false }, surfaces := t.surfaces, ranking := t.ranking
              notices := t.notices, outputs := t.outputs }
          ∧ s.LatchesCleared t (fun m => m = l) s.store.written.outputs t.outputs
          ∧ ∀ i : Fin 16,
              t.surfaces[i] =
                if (s.surfaces[i]).run.state = .wet ∧ (s.surfaces[i]).cfg.wetLine = some l then
                  { s.surfaces[i] with run := { (s.surfaces[i]).run with
                      state := match (s.surfaces[i]).run.live, (s.surfaces[i]).run.values with
                        | true, some v => rawLevel (s.surfaces[i]).cfg v.margin
                        | _, _ => .unknown
                      riseRun := 0, fallRun := 0 } }
                else s.surfaces[i])

/-- R43, R45, R46, R54, R117, R118, R143: an accepted WETLINE_WRITE is stored and in force at once: a line newly enabled
starts its debounce, a line newly disabled loses its timer, its debounced level and its latch, and every other line is left
as it was. The surfaces bound to a latch so cleared leave WET as at a WET_ACK, line by line, and both outputs act once for
each line so cleared whose surfaces change, on the states after all of its changes (assumption 13). -/
def Obligations.WetlineWriteActsAtOnce : Prop :=
  ∀ (p : List Byte) (s : State), s.takesOwn = true → s.store.saving = none → p.length = 10 →
    (∀ i < 8, byteAt p i ≤ 1) →
    ∃ t : State, exec (.wetlineWrite p) s =
        .next (t.postReply 0x18
          (Answer.mk (if limitNat 5 300 (u16At p 8) = u16At p 8 then .ok else .okAdjusted)
            (p.take 8 ++ u16 (limitNat 5 300 (u16At p 8)))))
      ∧ t.store = { s.store with
          written := { s.store.written with wet :=
            { enabled := Vector.ofFn fun l => decide (byteAt p l = 1), debounce := limitNat 5 300 (u16At p 8) } }
          dirty := true }
      ∧ t = { s with
          store := t.store, wet := t.wet, surfaces := t.surfaces, ranking := t.ranking, notices := t.notices
          outputs := t.outputs }
      ∧ s.LatchesCleared t
          (fun l => s.store.written.wet.enabled[l] && decide (byteAt p l = 0) && (s.wet[l]).latch)
          s.store.written.outputs t.outputs
      ∧ ∀ l : Fin 8,
          t.wet[l] =
            if decide (byteAt p l = 1) = s.store.written.wet.enabled[l] then s.wet[l]
            else if byteAt p l = 1 then
              { s.wet[l] with timer := some (s.now + limitNat 5 300 (u16At p 8) * 400000) }
            else { s.wet[l] with timer := none, debounced := none, latch := false }

/-! ### Sweeps -/

/-- R124, R125, R127, R129, R130: RUN and ONCE. A sweep they start is `startSweep` of the state RUN or ONCE has made, of which
`SweepStartAdoptsTheWrittenImage` speaks. -/
def Obligations.SweepRunAndOnce : Prop :=
  ∀ (rest : List Byte) (iv : Nat) (s : State), s.takesOwn = true → rest.length = 2 →
    iv = s.sweep.pendingIv.getD s.sweep.interval →
    (s.store.saving = none → s.sweep.mode = .continuous →
      exec (.sweepRun .own rest) s = .next (s.postReply 0x20 (Answer.mk .ok (sweepRecord s.sweep))))
    ∧ (s.store.saving = none → s.sweep.mode = .stopped → ∃ u t : State,
        exec (.sweepRun .own rest) s = .next (t.postReply 0x20 (Answer.mk .ok (sweepRecord t.sweep)))
        ∧ u = { s with
            store := { s.store with
              written := { s.store.written with startMode := .continuous }
              dirty := s.store.dirty || decide (s.store.written.startMode ≠ .continuous) }
            sweep := { s.sweep with
              mode := .continuous, interval := iv, pendingIv := none, timer := some (s.now + iv * 4000000) } }
        ∧ t = (if s.sweep.inFlight = true then u else u.startSweep)
        ∧ t.sweep.mode = .continuous ∧ t.sweep.interval = iv ∧ t.sweep.pendingIv = none
        ∧ t.sweep.timer = some (s.now + iv * 4000000)
        ∧ t.store = u.store ∧ t.now = s.now ∧ t.link = s.link ∧ t.wet = s.wet
        ∧ (s.sweep.inFlight = false → t.sweep.number = s.sweep.number + 1))
    ∧ (s.sweep.mode = .continuous →
        exec (.sweepOnce .own rest) s = .next (s.postReply 0x20 (Answer.mk .badState [])))
    ∧ (s.sweep.mode = .stopped → s.sweep.inFlight = true →
        exec (.sweepOnce .own rest) s = .next (s.postReply 0x20 (Answer.mk .busy [])))
    ∧ (s.sweep.mode = .stopped → s.sweep.inFlight = false → ∃ t : State, t = s.startSweep
        ∧ exec (.sweepOnce .own rest) s = .next (t.postReply 0x20 (Answer.mk .ok (sweepRecord t.sweep)))
        ∧ t.sweep.mode = .stopped ∧ t.sweep.number = s.sweep.number + 1 ∧ t.sweep.interval = s.sweep.interval
        ∧ t.sweep.pendingIv = s.sweep.pendingIv ∧ t.sweep.timer = s.sweep.timer
        ∧ t.store = s.store ∧ t.now = s.now ∧ t.link = s.link ∧ t.wet = s.wet)

/-- R126, R128, R129: STOP and INTERVAL. -/
def Obligations.SweepStopAndInterval : Prop :=
  ∀ (rest : List Byte) (v : Nat) (s : State), s.takesOwn = true → rest.length = 2 → s.store.saving = none →
    v = limitNat 2 600 (u16At rest 0) →
    (s.sweep.mode = .stopped →
      exec (.sweepStop .own rest) s = .next (s.postReply 0x20 (Answer.mk .ok (sweepRecord s.sweep))))
    ∧ (s.sweep.mode = .continuous →
        exec (.sweepStop .own rest) s =
          .next (State.postReply
            { s with
              sweep := { s.sweep with mode := .stopped, timer := none }
              store := { s.store with
                written := { s.store.written with startMode := .stopped }
                dirty := s.store.dirty || decide (s.store.written.startMode ≠ .stopped) } }
            0x20 (Answer.mk .ok (sweepRecord { s.sweep with mode := .stopped, timer := none }))))
    ∧ exec (.sweepInterval .own rest) s =
        .next (State.postReply
          { s with
            sweep := { s.sweep with pendingIv := some v }
            store := { s.store with
              written := { s.store.written with interval := v }
              dirty := s.store.dirty || decide (s.store.written.interval ≠ v) } }
          0x20
          (Answer.mk (if v = u16At rest 0 then .ok else .okAdjusted)
            (sweepRecord { s.sweep with pendingIv := some v })))

/-- R84, R122, R123, R130: at its expiry the sweep timer is reloaded, and starts a sweep, which is `startSweep` of the state
so made, or is an overrun, which changes nothing else: the jobs in flight go on, their units counting the ticks up to the
expiry. -/
def Obligations.SweepTimerStartsOrOverruns : Prop :=
  ∀ (e iv : Nat) (s : State), s.power = .running → s.sweep.timer = some e →
    iv = s.sweep.pendingIv.getD s.sweep.interval →
    (s.sweep.inFlight = true →
      exec .sweepTimerExpiry s =
        .next { s with
          now := max s.now e
          sweep := { s.sweep with
            interval := iv, pendingIv := none, timer := some (e + iv * 4000000)
            overrunCount := min 32767 (s.sweep.overrunCount + 1) }
          notices := s.notices.arrive
            (Notice.mk .overrun 0 0 iv s.sweep.number (min 32767 (s.sweep.overrunCount + 1) : Nat) {})
          capture := { s.capture with units := (s.elapseTo e).capture.units } })
    ∧ (s.sweep.inFlight = false →
        ∃ t : State, exec .sweepTimerExpiry s = .next t
          ∧ t = State.startSweep
              { s with
                now := max s.now e
                sweep := { s.sweep with interval := iv, pendingIv := none, timer := some (e + iv * 4000000) }
                capture := { s.capture with units := (s.elapseTo e).capture.units } }
          ∧ t.sweep.number = s.sweep.number + 1 ∧ t.sweep.mode = s.sweep.mode ∧ t.sweep.interval = iv
          ∧ t.sweep.pendingIv = none ∧ t.sweep.timer = some (e + iv * 4000000) ∧ t.sweep.overrunCount = 0
          ∧ t.now = max s.now e ∧ t.store = s.store ∧ t.link = s.link ∧ t.wet = s.wet ∧ t.power = .running)

/-- R25 to R29, R45, R46, R54, R70 to R72, R80 to R83, R108, R110, R130, R143: a sweep start advances the number, makes an
armed sweep the snapshot sweep, takes the written image into force, starts changed points afresh, leaves unchanged ones that
do not wait for a heater alone, and is in flight while it has jobs. With its units IDLE, as they are between sweeps, the jobs
are those of the walk from P0 to P23, the first four taken. Each surface adopts its configuration by the case of R26 it falls
under; a sweep with no job is evaluated on them at once. The purges of changed points are cancelled and the freed grants
served from the head of the queue; the POINT notices stand in ascending point number, then the SURFACE notices in ascending
surface number (assumption 12), then those of a completion; the ranking follows, and the outputs act at once where a surface
changed to or from WET, once, on the states after all the surface changes of the adoption (assumption 13). -/
def Obligations.SweepStartAdoptsTheWrittenImage : Prop :=
  ∀ (s t : State) (jobs : List Job), t = s.startSweep →
    jobs = ((List.finRange 24).flatMap fun p =>
      match (t.points[p]).cfg.kind with
      | .off => []
      | .surface => [Job.mk p .d t.work.nD]
      | .air =>
        if (t.points[p]).run.phase = .heating ∨ (t.points[p]).run.phase = .recovering then []
        else [Job.mk p .f t.work.nF, Job.mk p .d t.work.nD]) →
    t.sweep.number = s.sweep.number + 1
    ∧ t.sweep.overrunCount = 0 ∧ t.sweep.arm = false
    ∧ t.work = s.store.written.globals.work
    ∧ t.sweep.inFlight = !t.capture.allEnded
    ∧ ((∀ k : Fin 4, s.capture.units[k] = .idle) →
        t.capture.queue = jobs.drop 4
        ∧ t.capture.outcomes = []
        ∧ (∀ k : Fin 4,
            t.capture.units[k] =
              match jobs[k.val]? with
              | none => .idle
              | some j => .armed j s.now (s.now + t.work.window * 4000))
        ∧ (t.capture.allEnded = true ↔ jobs = []))
    ∧ (∀ (m : PinLine) (q : Fin 24), t.capture.filter m q = s.capture.filter m q)
    ∧ (t.capture.allEnded = false →
        t.sweep = { s.sweep with
          number := s.sweep.number + 1, inFlight := true, overrunCount := 0, arm := false
          snapSweep := if s.sweep.arm = true then some (s.sweep.number + 1) else s.sweep.snapSweep })
    ∧ (∀ w : Sweep, t.capture.allEnded = true →
        w = { s.sweep with
          number := s.sweep.number + 1, inFlight := false, overrunCount := 0, arm := false
          snapSweep := if s.sweep.arm = true then some (s.sweep.number + 1) else s.sweep.snapSweep } →
        t.sweep =
          if w.snapSweep = some w.number then
            { w with
              snapSweep := none, ready := true
              buffer := some
                { sweep := w.number
                  points := Vector.ofFn fun p => snapPoint t.points[p]
                  surfaces := Vector.ofFn fun i => snapSurface t.surfaces[i] } }
          else w)
    ∧ (∃ adopted : Vector SurfaceRec 16,
        (∀ i : Fin 16, AdoptsSurface s.store.written.surfaces[i] (s.latchOf s.store.written.surfaces[i])
            (s.surfaces[i]).cfg (s.surfaces[i]).run adopted[i])
        ∧ (t.capture.allEnded = false → t.surfaces = adopted)
        ∧ (t.capture.allEnded = true →
            t.surfaces = Vector.ofFn (fun i => (evalSurface t.sweep.number t.points i adopted[i]).1)
            ∧ t.ranking = rankingOf t.sweep.number t.surfaces)
        ∧ (t.capture.allEnded = false →
            s.ranking.Follows t.ranking s.surfaces adopted fun i =>
              let c := s.store.written.surfaces[i]
              let old := (s.surfaces[i]).cfg
              decide (c.enabled ≠ old.enabled)
                || c.enabled && decide (c.surfacePoint ≠ old.surfacePoint ∨ c.airList ≠ old.airList))
        ∧ (∃ outs : Vector OutLine 2,
            outs =
              (if ∃ i : Fin 16, (s.surfaces[i]).run.state ≠ (adopted[i]).run.state
                  ∧ ((s.surfaces[i]).run.state = .wet ∨ (adopted[i]).run.state = .wet) then
                actOn s.store.written.outputs adopted s.now s.outputs
              else s.outputs)
            ∧ t.outputs =
              (if t.capture.allEnded = true then actOn s.store.written.outputs t.surfaces s.now outs else outs))
        ∧ (s.ArbiterLaw →
            t.notices =
              (conditionNotices t.sweep.number s.points t.points ++ stateNotices t.sweep.number s.surfaces adopted
                ++ if t.capture.allEnded = true then
                    ((List.finRange 16).flatMap fun i => (evalSurface t.sweep.number t.points i adopted[i]).2)
                      ++ if s.sweep.arm = true ∨ s.sweep.snapSweep = some t.sweep.number then
                          [Notice.mk .snapshot 0 0 0 t.sweep.number (worstState t.surfaces) {}]
                        else []
                  else []).foldl NoticeQueue.arrive s.notices))
    ∧ (∀ (hit : Fin 24 → Bool) (grants : List Grant) (queue granted : List PurgeEntry), s.ArbiterLaw →
        hit = (fun p => decide (s.store.written.points[p] ≠ (s.points[p]).cfg)) →
        grants = (s.purge.grants.filter fun g => !hit g.point) →
        queue = (s.purge.queue.filter fun e => !hit e.point) → granted = queue.take (2 - grants.length) →
        t.purge =
          { grants := grants ++ granted.map fun e =>
              Grant.mk e.point s.store.written.globals.heaterDuty true s.now
                (s.now + s.store.written.globals.purgeTime * 4000000)
            queue := queue.drop (2 - grants.length)
            recovery := Vector.ofFn fun p => if hit p = true then none else s.purge.recovery[p] }
        ∧ (∀ e ∈ granted, t.points[e.point] =
            { s.points[e.point] with run := { (s.points[e.point]).run with
                phase := .heating, frozen := (s.points[e.point]).run.readings.freeze
                readings := (s.points[e.point]).run.readings.addHeld
                purgeCount := (s.points[e.point]).run.purgeCount + if e.origin = .auto then 1 else 0 } })
        ∧ ∀ p : Fin 24, hit p = false → p ∉ granted.map PurgeEntry.point → t.points[p] = s.points[p])
    ∧ (∀ i : Fin 16, (t.surfaces[i]).cfg = s.store.written.surfaces[i])
    ∧ ∀ p : Fin 24,
        (t.points[p]).cfg = s.store.written.points[p]
        ∧ (s.store.written.points[p] ≠ (s.points[p]).cfg →
            (t.points[p]).run = .fresh (s.store.written.points[p]).kind)
        ∧ (s.store.written.points[p] = (s.points[p]).cfg → p ∉ s.purge.queue.map PurgeEntry.point →
            t.points[p] = s.points[p])

/-- R131, R133, R134, R135, R143, Table 10-12: arming, filling and reading the snapshot. A completion offers the notices of
its evaluation in ascending surface number, and that of a snapshot sweep then its SNAPSHOT notice; both outputs act on the
states judged. -/
def Obligations.SnapshotArmFillAndRead : Prop :=
  (∀ (s : State), s.takesOwn = true →
      exec (.snapArm .own []) s =
        .next (State.postReply { s with sweep := { s.sweep with arm := true } } 0x24
          (Answer.mk .ok
            (1 :: (optSweep s.sweep.snapSweep ++ u8 (boolCode s.sweep.ready)
              ++ optSweep (s.sweep.buffer.map Snapshot.sweep))))))
  ∧ (∀ (page : Fin 4) (b : Snapshot) (s : State), s.takesOwn = true →
      (s.sweep.ready = false →
        exec (.snapRead [BitVec.ofNat 8 page]) s = .next (s.postReply 0x25 (Answer.mk .badState [])))
      ∧ (s.sweep.ready = true → s.sweep.buffer = some b →
          exec (.snapRead [BitVec.ofNat 8 page]) s =
            .next (s.postReply 0x25
              (Answer.mk .ok
                (BitVec.ofNat 8 page :: (u32 b.sweep.toNat
                  ++ if page = 3 then (List.finRange 16).flatMap fun i => snapSurfaceRecord b.surfaces[i]
                     else (List.finRange 8).flatMap fun j =>
                       snapPointRecord b.points[(8 * page.val + j.val) % 24]))))))
  ∧ (∀ p : SnapPoint, snapPointRecord p =
      u8 p.kind.code ++ u8 (10 * p.health.code + p.phase.code)
        ++ (match p.rh with
            | none => [0, 0, 0]
            | some (v, q) => u16 v ++ q.present)
        ++ ([p.t, p.td, p.frozen].flatMap fun x =>
            match x with
            | none => [0, 0, 0]
            | some (v, q) => s16 v ++ q.present))
  ∧ (∀ r : SnapSurface, snapSurfaceRecord r =
      u8 (r.state.code + if r.live then 128 else 0)
        ++ ([r.margin, r.ts, r.td].flatMap fun x =>
            match x with
            | none => [0, 0, 0]
            | some (v, q) => s16 v ++ q.present))
  ∧ (∀ (r : PointRec), snapPoint r =
      { kind := r.cfg.kind, health := r.run.health, phase := r.run.phase
        rh := match r.run.readings with
          | .air a => some (a.rh, a.rhQ)
          | _ => none
        t := match r.run.readings with
          | .air a => some (a.t, a.tQ)
          | .surface t q => some (t, q)
          | .absent => none
        td := match r.run.readings with
          | .air a => some (a.td, a.dewQ)
          | _ => none
        frozen := r.run.frozen.map fun f => (f.td, f.q) })
  ∧ (∀ (r : SurfaceRec), snapSurface r =
      { state := r.run.state, live := r.run.live
        margin := r.run.values.map fun v => (v.margin, v.marginQ)
        ts := r.run.values.map fun v => (v.ts, v.tsQ)
        td := r.run.values.map fun v => (v.td, v.tdQ) })
  ∧ ∀ (s : State),
      s.completeSweep.sweep.inFlight = false
      ∧ s.completeSweep.notices =
          (((List.finRange 16).flatMap fun i => (evalSurface s.sweep.number s.points i s.surfaces[i]).2)
            ++ if s.sweep.snapSweep = some s.sweep.number then
                [Notice.mk .snapshot 0 0 0 s.sweep.number (worstState s.completeSweep.surfaces) {}]
              else []).foldl NoticeQueue.arrive s.notices
      ∧ (s.sweep.snapSweep = some s.sweep.number →
          s.completeSweep.sweep.ready = true ∧ s.completeSweep.sweep.snapSweep = none
          ∧ s.completeSweep.sweep.buffer = some
              { sweep := s.sweep.number
                points := Vector.ofFn fun p => snapPoint s.points[p]
                surfaces := Vector.ofFn fun i => snapSurface s.completeSweep.surfaces[i] })
      ∧ (s.sweep.snapSweep ≠ some s.sweep.number →
          s.completeSweep.sweep = { s.sweep with inFlight := false })
      ∧ ∀ o : Fin 2,
          s.completeSweep.outputs[o] =
            (s.outputs[o]).act s.store.written.outputs[o]
              (demandOf s.store.written.outputs[o] s.completeSweep.surfaces) s.now

/-! ### Capture, conversion and purge -/

/-- R79, R84, R85, R93: what the level filter of a line makes of `n` further ticks sampled at `v`, and what a rising edge
does at the unit that measures the line. A filtered level changes at the tick by which the sampled level has differed for 25
consecutive ticks: a run of samples continues the ticks counted before it only while the clock has not passed the tick it
would end at. The first rising edge after the tick its job was taken starts the count from 0, each later one is a further
period, the one that completes the N-th is the closing edge, and one after the window's end is none of the unit's. That the
samples reach the part as runs of equal ticks, which carry the clock, is assumption 8; that START_EDGE and
CAPTURE_JOB_COMPLETE are those edges under their own names is assumption 9; that the edge of a line that has rested HIGH
since the power-on does not affect a job taken before it (R93) where R84 alone would start it is assumption 22. -/
def Obligations.ProbeLineEvents : Prop :=
  (∀ (f : LineFilter) (now n : Nat) (v : PinLevel), n ≤ 25 →
      (f.level = v → f.changes now v n = false
        ∧ f.sample now v n = LineFilter.mk v v 0 (max now (f.sampledAt + n)) false)
      ∧ (f.level ≠ v → f.sampled = v → f.differing + n < 25 → now ≤ f.sampledAt + n → f.changes now v n = false
          ∧ f.sample now v n = LineFilter.mk f.level v (f.differing + n) (f.sampledAt + n) (f.resting && v = .high))
      ∧ (f.level ≠ v → f.sampled = v → 25 ≤ f.differing + n → f.differing ≤ 25 →
          now ≤ f.sampledAt + (25 - f.differing) → f.changes now v n = true
          ∧ f.sample now v n = LineFilter.mk v v 0 (f.sampledAt + (25 - f.differing)) false)
      ∧ (∀ gap : Nat, f.level ≠ v →
          f.sampled ≠ v ∧ gap = 0
            ∨ f.sampled = v ∧ f.sampledAt + min n (25 - f.differing) < now ∧ gap = (if f.differing = 0 then 0 else 1) →
          (n < 25 → f.changes now v n = false
            ∧ f.sample now v n = LineFilter.mk f.level v n (max now (f.sampledAt + gap + n))
                (f.resting && v = .high && decide (now ≤ f.sampledAt + n ∧ f.sampled ≠ v)))
          ∧ (n = 25 → f.changes now v n = true
            ∧ f.sample now v n = LineFilter.mk v v 0 (max now (f.sampledAt + gap + 25)) false))
      ∧ (f.rests now v n = true ↔ f.resting = true ∧ v = .high
          ∧ now ≤ f.sampledAt + min n (25 - if f.level ≠ v ∧ f.sampled = v then f.differing else 0)))
  ∧ ∀ (port : Fin 24) (line : PinLine) (n e : Nat) (f : LineFilter) (s : State), s.power = .running →
      f = s.capture.filter line port →
      (∀ v : PinLevel, e = (f.sample s.now v n).sampledAt →
        (v = .low ∨ f.changes s.now v n = false ∨ s.capture.unitOf port line = none) →
        ∃ t : State, exec (.filteredLevelChange port line (SampleRun.mk v n)) s = .next t
          ∧ t = { s with
              now := e
              capture := { s.capture with
                units := (s.elapseTo e).capture.units, fFilter := t.capture.fFilter, dFilter := t.capture.dFilter } }
          ∧ s.capture.FilterBecomes t.capture port line (f.sample s.now v n))
      ∧ ∀ (k : Fin 4) (j : Job) (w : Nat), s.capture.unitOf port line = some k → f.changes s.now .high n = true →
          e = (f.sample s.now .high n).sampledAt →
          (∀ taken : Nat, s.capture.units[k] = .armed j taken w →
            (f.rests s.now .high n = false → taken < e → e ≤ w →
              ∃ t : State, exec (.startEdge port line) s = .next t
                ∧ exec (.filteredLevelChange port line (SampleRun.mk .high n)) s = .next t
                ∧ t = { s with
                    now := e
                    capture := { s.capture with
                      units := (s.elapseTo e).capture.units.set k (.counting j w 0 0 0)
                      fFilter := t.capture.fFilter, dFilter := t.capture.dFilter } }
                ∧ s.capture.FilterBecomes t.capture port line (LineFilter.mk .high .high 0 e false))
            ∧ (f.rests s.now .high n = true ∨ e ≤ taken ∨ w < e →
              ∃ t : State, exec (.filteredLevelChange port line (SampleRun.mk .high n)) s = .next t
                ∧ t = { s with
                    now := e
                    capture := { s.capture with
                      units := (s.elapseTo e).capture.units
                      fFilter := t.capture.fFilter, dFilter := t.capture.dFilter } }
                ∧ s.capture.FilterBecomes t.capture port line (LineFilter.mk .high .high 0 e false)))
          ∧ ∀ periods total high : Nat, s.capture.units[k] = .counting j w periods total high →
            (e ≤ w → periods + 1 < j.n →
              ∃ t : State, exec (.filteredLevelChange port line (SampleRun.mk .high n)) s = .next t
                ∧ t = { s with
                    now := e
                    capture := { s.capture with
                      units := (s.elapseTo e).capture.units.set k
                        (.counting j w (periods + 1) (total + (e - s.now)) high)
                      fFilter := t.capture.fFilter, dFilter := t.capture.dFilter } }
                ∧ s.capture.FilterBecomes t.capture port line (LineFilter.mk .high .high 0 e false))
            ∧ (e ≤ w → j.n ≤ periods + 1 →
              exec (.filteredLevelChange port line (SampleRun.mk .high n)) s =
                exec (.captureJobComplete port line (total + (e - s.now)) high) s)
            ∧ (w < e →
              ∃ t : State, exec (.filteredLevelChange port line (SampleRun.mk .high n)) s = .next t
                ∧ t = { s with
                    now := e
                    capture := { s.capture with
                      units := (s.elapseTo e).capture.units
                      fFilter := t.capture.fFilter, dFilter := t.capture.dFilter } }
                ∧ s.capture.FilterBecomes t.capture port line (LineFilter.mk .high .high 0 e false))

/-- R79, R83, R84, R85, R86, R87, R88: a job that ends while another of its port waits or is held hands its outcome on, and
its unit takes the head of the queue, with a window of its own, or stays IDLE when no job waits. The filter of the line whose
closing edge came stands at HIGH, the other units count the ticks up to the end, and nothing else changes. -/
def Obligations.JobEndFreesTheUnit : Prop :=
  ∀ (c : Instr) (k : Fin 4) (j : Job) (o : JobOutcome) (now : Nat) (s : State), s.JobEnds c k j o now →
    (∃ q ∈ s.capture.queue, q.port = j.port) ∨ (∃ m : Fin 4, m ≠ k ∧ (s.capture.units[m]).holdsPort j.port = true) →
    (s.capture.queue ≠ [] → ∀ m : Fin 4, m ≠ k → (s.capture.units[m]).job? ≠ none) →
    ∃ t : State, exec c s = .next t
      ∧ t = { s with now := now, capture := t.capture }
      ∧ t.capture.outcomes = s.capture.outcomes ++ [EndedJob.mk j.port j.line o]
      ∧ t.capture.queue = s.capture.queue.tail
      ∧ t.capture.units[k] =
          (match s.capture.queue with
            | [] => .idle
            | hd :: _ => .armed hd now (now + s.work.window * 4000))
      ∧ (∀ m : Fin 4, m ≠ k → t.capture.units[m] = (s.elapseTo now).capture.units[m])
      ∧ ∀ (m : PinLine) (q : Fin 24), t.capture.filter m q = filterAfter c now m q (s.capture.filter m q)

/-- R60, R62, R63, R64, R65, R70, R83, R89, R131, R143: the end of a SURFACE point's job converts the point, to its
temperature or by Table 4-4, with a POINT notice where R70 asks for one; the last end of a sweep completes it, with every
enabled surface evaluated from the records as they then stand, their notices after the point's, and both outputs acting. -/
def Obligations.SurfacePointConversion : Prop :=
  ∀ (c : Instr) (k : Fin 4) (j : Job) (o : JobOutcome) (now : Nat) (old : PointRun) (s : State), s.JobEnds c k j o now →
    j.line = .d → s.LastJob j.port k → (∀ e ∈ s.capture.outcomes, e.port ≠ j.port) → old = (s.points[j.port]).run →
    (s.points[j.port]).cfg.kind = .surface → old.phase = .none →
    ∃ (t : State) (r : PointRun) (pn : List Notice), exec c s = .next t
      ∧ t.points = s.points.set j.port { s.points[j.port] with run := r }
      ∧ (∀ total high : Nat, o = .dDone total high →
          r = { old with
            health := .good, failRun := 0, lastGood := some s.sweep.number
            readings := .surface
              ((2 * (15000 * (high : Int)) + total) / (2 * total) - 5000 + (s.points[j.port]).cfg.tOffset) {} })
      ∧ (∀ cause : FailCause, o = .failed cause → old.FailsTo r s.work.faultCount s.sweep.number cause)
      ∧ pn =
          (if old.health = r.health ∨ old.health.goodOrHolding = true ∧ r.health.goodOrHolding = true then []
          else
            [Notice.mk .point j.port (10 * old.health.code) (10 * r.health.code) s.sweep.number r.noticeValue.1
              r.noticeValue.2])
      ∧ t = { s with
          now := now, capture := t.capture, points := t.points, surfaces := t.surfaces, ranking := t.ranking
          notices := t.notices, outputs := t.outputs, sweep := t.sweep }
      ∧ (∀ (m : PinLine) (q : Fin 24), t.capture.filter m q = filterAfter c now m q (s.capture.filter m q))
      ∧ s.JobPassesOn t j.port k now
      ∧ s.SweepAfter t (s.JobsLeftBut k) pn

/-- R60, R61, R62, R63, R64, R65, R79, R83, R89, R95, R96, R97, R99, R105, R107, R131: the conversion of an AIR point at the
end of the last of its two jobs. A good one, in each phase a conversion can find and on each side of 99.00 % and 95.00 %, leaves
the runtime part of `goodRun`; one that enters WAITING joins the purge queue, or is granted a heater at once when one is
free; a failed one, the F job's cause first, leaves that of `FailsTo`, and a waiting point that enters FAULT leaves the purge
queue. While a job is left nothing else of the sweep changes; the last end completes it. The filter of the line whose
closing edge came stands at HIGH, and no other filter changes. -/
def Obligations.AirPointConversion : Prop :=
  ∀ (c : Instr) (k : Fin 4) (j : Job) (o f d : JobOutcome) (now : Nat) (s : State) (run : PointRun) (cfg : PointCfg),
    s.JobEnds c k j o now → s.LastJob j.port k → s.capture.outcomeOf j.port j.line = none →
    (j.line = .d ∧ s.capture.outcomeOf j.port .f = some f ∧ d = o
      ∨ j.line = .f ∧ s.capture.outcomeOf j.port .d = some d ∧ f = o) →
    s.points[j.port] = PointRec.mk cfg run → cfg.kind = .air →
    (∀ (c64 total high : Nat) (raw temp : Int) (rh : Nat) (rhQ : Quals) (measured soaked : DewPoint),
      f = .fDone c64 → d = .dDone total high →
      raw = (2 * (10000 * ((c64 : Int) - cfg.cDry)) + ((cfg.cWet : Int) - cfg.cDry)) / (2 * ((cfg.cWet : Int) - cfg.cDry)) →
      -2500 ≤ raw → raw ≤ 12500 → rh = (max 0 (min 10000 raw)).toNat →
      rhQ = { clamped := decide (raw < 0) || decide (10000 < raw) } →
      temp = (2 * (15000 * (high : Int)) + total) / (2 * total) - 5000 + cfg.tOffset →
      measured = dewPoint temp rh rhQ → soaked = dewPoint temp 10000 { saturated := true } →
      (∀ (r : PointRun) (dew : DewPoint) (phase : Phase) (satRun purgeCount : Nat),
        r = { run with
          health := .good, failRun := 0, lastGood := some s.sweep.number, phase := phase, satRun := satRun
          purgeCount := purgeCount
          readings := .air (AirReading.mk rh rhQ temp {} dew.tc dew.e.toNat dew.td dew.q) } →
        (run.phase = .none ∧ rh < 9900 ∧ phase = .none ∧ satRun = 0 ∧ purgeCount = 0 ∧ dew = measured
          ∨ run.phase = .none ∧ 9900 ≤ rh ∧ run.satRun + 1 < s.work.satCount ∧ phase = .none
              ∧ satRun = run.satRun + 1 ∧ purgeCount = run.purgeCount ∧ dew = measured
          ∨ run.phase = .none ∧ 9900 ≤ rh ∧ s.work.satCount ≤ run.satRun + 1 ∧ s.work.maxPurges ≤ run.purgeCount
              ∧ phase = .soaked ∧ satRun = 0 ∧ purgeCount = run.purgeCount ∧ dew = soaked
          ∨ run.phase = .soaked ∧ 9500 ≤ rh ∧ phase = .soaked ∧ satRun = run.satRun ∧ purgeCount = run.purgeCount
              ∧ dew = soaked
          ∨ run.phase = .soaked ∧ rh < 9500 ∧ phase = .none ∧ satRun = run.satRun ∧ purgeCount = 0 ∧ dew = measured
          ∨ run.phase = .waiting ∧ phase = .waiting ∧ satRun = run.satRun ∧ purgeCount = run.purgeCount
              ∧ dew = measured) →
        ∃ t : State, exec c s = .next t
          ∧ t = { s with
              now := now, capture := t.capture, points := t.points, surfaces := t.surfaces, ranking := t.ranking
              notices := t.notices, outputs := t.outputs, sweep := t.sweep }
          ∧ t.points = s.points.set j.port (PointRec.mk cfg r)
          ∧ s.JobPassesOn t j.port k now
          ∧ (∀ (m : PinLine) (q : Fin 24), t.capture.filter m q = filterAfter c now m q (s.capture.filter m q))
          ∧ s.SweepAfter t (s.JobsLeftBut k)
              (if run.phase ≠ phase ∨ run.health.goodOrHolding = false then
                [Notice.mk .point j.port run.condition (20 + phase.code) s.sweep.number rh rhQ]
              else []))
      ∧ (run.phase = .none → 9900 ≤ rh → s.work.satCount ≤ run.satRun + 1 → run.purgeCount < s.work.maxPurges →
        (2 ≤ s.purge.grants.length →
          ∃ t : State, exec c s = .next t
            ∧ t = { s with
                now := now, capture := t.capture, points := t.points, surfaces := t.surfaces, ranking := t.ranking
                notices := t.notices, outputs := t.outputs, sweep := t.sweep
                purge := { s.purge with queue := s.purge.queue ++ [PurgeEntry.mk j.port .auto] } }
            ∧ t.points = s.points.set j.port (PointRec.mk cfg
                { run with
                  health := .good, failRun := 0, satRun := 0, lastGood := some s.sweep.number, phase := .waiting
                  readings := .air
                    (AirReading.mk rh rhQ temp {} measured.tc measured.e.toNat measured.td measured.q) })
            ∧ s.JobPassesOn t j.port k now
            ∧ (∀ (m : PinLine) (q : Fin 24), t.capture.filter m q = filterAfter c now m q (s.capture.filter m q))
            ∧ s.SweepAfter t (s.JobsLeftBut k)
                [Notice.mk .point j.port (10 * run.health.code) 21 s.sweep.number rh rhQ])
        ∧ (s.purge.queue = [] → s.purge.grants.length < 2 →
          ∃ t : State, exec c s = .next t
            ∧ t.points = s.points.set j.port (PointRec.mk cfg
                { run with
                  health := .good, failRun := 0, satRun := 0, purgeCount := run.purgeCount + 1
                  lastGood := some s.sweep.number, phase := .heating
                  frozen := some (Frozen.mk measured.td measured.tc measured.q.freeze)
                  readings := .air
                    (AirReading.mk rh rhQ.addHeld temp { held := true } measured.tc measured.e.toNat measured.td
                      measured.q.addHeld) })
            ∧ t = { s with
                now := now, capture := t.capture, points := t.points, surfaces := t.surfaces, ranking := t.ranking
                notices := t.notices, outputs := t.outputs, sweep := t.sweep
                purge := { s.purge with
                  grants := s.purge.grants
                    ++ [Grant.mk j.port s.store.written.globals.heaterDuty true now
                          (now + s.store.written.globals.purgeTime * 4000000)] } }
            ∧ t.heaterOn j.port = true
            ∧ s.JobPassesOn t j.port k now
            ∧ (∀ (m : PinLine) (q : Fin 24), t.capture.filter m q = filterAfter c now m q (s.capture.filter m q))
            ∧ s.SweepAfter t (s.JobsLeftBut k)
                [Notice.mk .point j.port (10 * run.health.code) 21 s.sweep.number rh rhQ,
                  Notice.mk .point j.port 21 22 s.sweep.number rh rhQ.addHeld])))
    ∧ ∀ cause : FailCause,
        (f = .failed cause ∨ (∃ c64, f = .fDone c64) ∧ d = .failed cause
          ∨ (∃ c64 total high, f = .fDone c64 ∧ d = .dDone total high
              ∧ (rawRh cfg c64 < -2500 ∨ 12500 < rawRh cfg c64)) ∧ cause = .rhBand) →
        ∃ (t : State) (r : PointRun), exec c s = .next t
          ∧ t = { s with
              now := now, capture := t.capture, points := t.points, surfaces := t.surfaces, ranking := t.ranking
              notices := t.notices, outputs := t.outputs, sweep := t.sweep
              purge := { s.purge with
                queue :=
                  if run.phase = .waiting ∧ r.phase = .none then s.purge.queue.filter fun e => e.point ≠ j.port
                  else s.purge.queue } }
          ∧ t.points = s.points.set j.port (PointRec.mk cfg r)
          ∧ run.FailsTo r s.work.faultCount s.sweep.number cause
          ∧ s.JobPassesOn t j.port k now
          ∧ (∀ (m : PinLine) (q : Fin 24), t.capture.filter m q = filterAfter c now m q (s.capture.filter m q))
          ∧ s.SweepAfter t (s.JobsLeftBut k)
              (if run.condition = r.condition
                  ∨ run.phase = r.phase ∧ run.health.goodOrHolding = true ∧ r.health.goodOrHolding = true then []
              else
                [Notice.mk .point j.port run.condition r.condition s.sweep.number r.noticeValue.1 r.noticeValue.2])

/-- R83, R89, R91, R99, R106: PURGE is refused for a point that may not be purged; an accepted one waits while both grants
are held, and is granted in the same event when one is free: the dew point is frozen, the heater is on and the point's jobs
are withdrawn, while the units that hold a job of another point go on and those freed take the next jobs. Its two POINT
notices stand first; a withdrawal that leaves no job completes the sweep (assumption 11). -/
def Obligations.PurgeRequest : Prop :=
  ∀ (p : Fin 24) (run : PointRun) (s : State), s.takesOwn = true → run = (s.points[p]).run →
    ((s.points[p]).cfg.kind ≠ .air ∨ (run.health ≠ .good ∧ run.health ≠ .holding)
        ∨ (run.phase ≠ .none ∧ run.phase ≠ .soaked) →
      exec (.purge [BitVec.ofNat 8 p]) s = .next (s.postReply 0x27 (Answer.mk .badState [])))
    ∧ ((s.points[p]).cfg.kind = .air → (run.health = .good ∨ run.health = .holding) →
        (run.phase = .none ∨ run.phase = .soaked) →
        (s.CaptureLaw → 2 ≤ s.purge.grants.length →
          exec (.purge [BitVec.ofNat 8 p]) s =
            .next (State.postReply
              { s with
                points := s.points.set p (PointRec.mk (s.points[p]).cfg { run with phase := .waiting, satRun := 0 })
                purge := { s.purge with queue := s.purge.queue ++ [PurgeEntry.mk p .manual] }
                notices := s.notices.arrive
                  (Notice.mk .point p (10 * run.health.code + run.phase.code) (10 * run.health.code + 1) s.sweep.number
                    run.noticeValue.1 run.noticeValue.2) }
              0x27 (Answer.mk .ok [BitVec.ofNat 8 p, 1])))
        ∧ (s.purge.queue = [] → s.purge.grants.length < 2 →
          ∃ t : State, exec (.purge [BitVec.ofNat 8 p]) s =
              .next (t.postReply 0x27 (Answer.mk .ok [BitVec.ofNat 8 p, 2]))
            ∧ t.points = s.points.set p (PointRec.mk (s.points[p]).cfg
                { run with
                  phase := .heating, satRun := 0, frozen := run.readings.freeze, readings := run.readings.addHeld })
            ∧ t.purge = { s.purge with
                grants := s.purge.grants
                  ++ [Grant.mk p s.store.written.globals.heaterDuty true s.now
                        (s.now + s.store.written.globals.purgeTime * 4000000)] }
            ∧ t.heaterOn p = true ∧ t.capture.outstanding p = false
            ∧ s.capture.WithdrawnFrom t.capture p s.now s.work.window
            ∧ s.SweepAfter t (s.capture.OthersLeft p)
                [Notice.mk .point p (10 * run.health.code + run.phase.code) (10 * run.health.code + 1) s.sweep.number
                    run.noticeValue.1 run.noticeValue.2,
                  Notice.mk .point p (10 * run.health.code + 1) (10 * run.health.code + 2) s.sweep.number
                    (t.points[p]).run.noticeValue.1 (t.points[p]).run.noticeValue.2]
            ∧ (∀ m : Fin 4, (s.capture.units[m]).job? ≠ none → (s.capture.units[m]).holdsPort p = false →
                t.capture.units[m] = s.capture.units[m])
            ∧ (∀ (m : PinLine) (q : Fin 24), t.capture.filter m q = s.capture.filter m q)
            ∧ t = { s with
                points := t.points, purge := t.purge, capture := t.capture, surfaces := t.surfaces
                ranking := t.ranking, notices := t.notices, outputs := t.outputs, sweep := t.sweep }))

/-- R83, R89, R91, R100, R101, R102, R103, R104: each PWM period energises the heater with the duty then written, the end of
its on time releases it; at the purge timer's expiry the point recovers and the head of the purge queue is granted, their
notices in ascending point number; at the recovery timer's expiry the frozen dew point is discarded. -/
def Obligations.HeaterAndRecoveryTimers : Prop :=
  (∀ (p : Fin 24) (g : Grant) (s : State), s.power = .running → s.purge.grantOf p = some g →
      (g.periodStart + 4000000 < g.purgeEnds →
        ∃ t : State, exec (.heaterPeriodStart p) s = .next t
          ∧ t = { s with
              now := max s.now (g.periodStart + 4000000)
              purge := { s.purge with
                grants := s.purge.grants.map fun y =>
                  if y.point = p then
                    Grant.mk p s.store.written.globals.heaterDuty true (g.periodStart + 4000000) g.purgeEnds
                  else y }
              capture := { s.capture with units := (s.elapseTo (g.periodStart + 4000000)).capture.units } }
          ∧ t.heaterOn p = true)
      ∧ (g.energised = true → g.duty < 100 →
        ∃ t : State, exec (.heaterOnTimeEnd p) s = .next t
          ∧ t = { s with
              now := max s.now (g.periodStart + g.duty * 40000)
              purge := { s.purge with
                grants := s.purge.grants.map fun y =>
                  if y.point = p then Grant.mk p g.duty false g.periodStart g.purgeEnds else y }
              capture := { s.capture with units := (s.elapseTo (g.periodStart + g.duty * 40000)).capture.units } }
          ∧ t.heaterOn p = false)
      ∧ (s.ArbiterLaw → s.CaptureLaw → s.purge.queue = [] →
        ∃ t : State, exec (.purgeTimerExpiry p) s = .next t
          ∧ t = { s with
              now := max s.now g.purgeEnds
              points := s.points.set p { s.points[p] with run := { (s.points[p]).run with phase := .recovering } }
              purge := { grants := s.purge.grants.filter fun y => y.point ≠ p
                         queue := []
                         recovery := s.purge.recovery.set p
                           (some (max s.now g.purgeEnds + s.store.written.globals.recoveryTime * 4000000)) }
              notices := s.notices.arrive
                (Notice.mk .point p (10 * (s.points[p]).run.health.code + 2) (10 * (s.points[p]).run.health.code + 3)
                  s.sweep.number (s.points[p]).run.noticeValue.1 (s.points[p]).run.noticeValue.2)
              capture := { s.capture with units := (s.elapseTo g.purgeEnds).capture.units } }
          ∧ t.heaterOn p = false)
      ∧ ∀ (e : PurgeEntry) (rest : List PurgeEntry), s.ArbiterLaw → s.purge.queue = e :: rest →
        ∃ t : State, exec (.purgeTimerExpiry p) s = .next t
          ∧ t.now = max s.now g.purgeEnds
          ∧ (∀ q : Fin 24, t.points[q] =
              if q = p then { s.points[q] with run := { (s.points[q]).run with phase := .recovering } }
              else if q = e.point then
                { s.points[q] with run := { (s.points[q]).run with
                    phase := .heating, frozen := (s.points[q]).run.readings.freeze
                    readings := (s.points[q]).run.readings.addHeld
                    purgeCount := (s.points[q]).run.purgeCount + if e.origin = .auto then 1 else 0 } }
              else s.points[q])
          ∧ t.purge =
              { grants := (s.purge.grants.filter fun y => y.point ≠ p)
                  ++ [Grant.mk e.point s.store.written.globals.heaterDuty true t.now
                        (t.now + s.store.written.globals.purgeTime * 4000000)]
                queue := rest
                recovery := s.purge.recovery.set p
                  (some (t.now + s.store.written.globals.recoveryTime * 4000000)) }
          ∧ t.heaterOn p = false ∧ t.heaterOn e.point = true ∧ t.capture.outstanding e.point = false
          ∧ (s.elapseTo g.purgeEnds).capture.WithdrawnFrom t.capture e.point t.now s.work.window
          ∧ (∀ ended granted : Notice,
              ended = Notice.mk .point p (10 * (s.points[p]).run.health.code + 2)
                (10 * (s.points[p]).run.health.code + 3) s.sweep.number (s.points[p]).run.noticeValue.1
                (s.points[p]).run.noticeValue.2 →
              granted = Notice.mk .point e.point (10 * (s.points[e.point]).run.health.code + 1)
                (10 * (s.points[e.point]).run.health.code + 2) s.sweep.number (t.points[e.point]).run.noticeValue.1
                (t.points[e.point]).run.noticeValue.2 →
              s.SweepAfter t (s.capture.OthersLeft e.point)
                (if p ≤ e.point then [ended, granted] else [granted, ended]))
          ∧ t = { s with
              now := t.now, points := t.points, purge := t.purge, capture := t.capture, surfaces := t.surfaces
              ranking := t.ranking, notices := t.notices, outputs := t.outputs, sweep := t.sweep }
          ∧ (∀ m : Fin 4, (s.capture.units[m]).job? ≠ none → (s.capture.units[m]).holdsPort e.point = false →
              t.capture.units[m] = (s.elapseTo g.purgeEnds).capture.units[m])
          ∧ (∀ (m : PinLine) (q : Fin 24), t.capture.filter m q = s.capture.filter m q)
          ∧ t.link = s.link ∧ t.store = s.store ∧ t.wet = s.wet ∧ t.work = s.work)
  ∧ ∀ (p : Fin 24) (e : Nat) (s : State), s.power = .running → s.purge.recovery[p] = some e →
      (s.points[p]).run.phase = .recovering →
      ∃ t : State, exec (.recoveryTimerExpiry p) s = .next t
        ∧ t = { s with
            now := max s.now e
            points := s.points.set p
              { s.points[p] with run := { (s.points[p]).run with phase := .none, frozen := none } }
            purge := { s.purge with recovery := s.purge.recovery.set p none }
            notices := s.notices.arrive
              (Notice.mk .point p (10 * (s.points[p]).run.health.code + 3) (10 * (s.points[p]).run.health.code)
                s.sweep.number (s.points[p]).run.noticeValue.1 (s.points[p]).run.noticeValue.2)
            capture := { s.capture with units := (s.elapseTo e).capture.units } }

/-! ### Notices, outputs and the store -/

/-- R136, R138, R140, Table 10-12: NOTICE_READ gives the oldest notices, 1 to 5 of them, and removes none; NOTICE_DROP removes
the oldest and clears the overflow flag. -/
def Obligations.NoticeReadAndDrop : Prop :=
  ∀ (b : Byte) (q : NoticeQueue) (k : Nat) (s : State), s.takesOwn = true → q = s.notices → k = max 1 (min 5 b.toNat) →
    exec (.noticeRead [b]) s =
      .next (s.postReply 0x21
        (Answer.mk (if 1 ≤ b.toNat ∧ b.toNat ≤ 5 then .ok else .okAdjusted)
          (u8 (min k q.list.length) ++ u8 q.list.length ++ u8 (boolCode q.overflow)
            ++ (q.list.take k).flatMap fun n =>
                u8 n.kind.code ++ u8 n.subject ++ u16 n.fromValue ++ u16 n.toValue ++ u32 n.sweep.toNat ++ s16 n.value
                  ++ u8 n.quals.bits)))
    ∧ exec (.noticeDrop [b]) s =
        .next (State.postReply { s with notices := { list := q.list.drop b.toNat, overflow := false } } 0x22
          (Answer.mk .ok (u8 (min b.toNat q.list.length) ++ u8 (q.list.length - b.toNat))))

/-- R150, R151, Table 10-13: OUTPUT_READ gives the record of a line; an accepted OUTPUT_WRITE stores the configuration with
its two times limited, has both lines act on their demand under it, and echoes the record as it then stands. -/
def Obligations.OutputRequests : Prop :=
  ∀ (s : State), s.takesOwn = true →
    (∀ (o : Fin 2) (c : OutputCfg) (l : OutLine), c = s.store.written.outputs[o] → l = s.outputs[o] →
      exec (.outputRead [BitVec.ofNat 8 o]) s =
        .next (s.postReply 0x17
          (Answer.mk .ok
            (u8 o ++ u16 c.members.toNat ++ u8 c.tripLevel.risk.code ++ u8 (boolCode c.unknownTrips) ++ u16 c.minOn
              ++ u16 c.minOff ++ u8 c.contact.code ++ u8 l.state.code ++ u8 (boolCode l.state.heldDemand)
              ++ u8 (boolCode l.minOn.isSome)
              ++ u16 (match l.minOn with
                  | none => 0
                  | some e => ceilDiv (e - s.now) 4000000)
              ++ u8 (boolCode l.minOff.isSome)
              ++ u16 (match l.minOff with
                  | none => 0
                  | some e => ceilDiv (e - s.now) 4000000)))))
    ∧ ∀ (p : List Byte) (trip : TripLevel) (contact : ContactSense) (o : Fin 2) (c : OutputCfg),
        s.store.saving = none → p.length = 10 → byteAt p 0 = o.val → tripLevelOf (byteAt p 3) = some trip →
        byteAt p 4 ≤ 1 → contactOf (byteAt p 9) = some contact →
        c = { members := BitVec.ofNat 16 (u16At p 1), tripLevel := trip, unknownTrips := decide (byteAt p 4 = 1)
              minOn := limitNat 0 3600 (u16At p 5), minOff := limitNat 0 3600 (u16At p 7), contact := contact } →
        ∃ t : State, exec (.outputWrite p) s =
            .next (t.postReply 0x16
              (Answer.mk (if u16At p 5 ≤ 3600 ∧ u16At p 7 ≤ 3600 then .ok else .okAdjusted)
                (outputRecord s.now o c t.outputs[o])))
          ∧ t = { s with
              store := { s.store with
                written := { s.store.written with outputs := s.store.written.outputs.set o c }, dirty := true }
              outputs := t.outputs }
          ∧ ∀ q : Fin 2,
              t.outputs[q] =
                (s.outputs[q]).act t.store.written.outputs[q] (demandOf t.store.written.outputs[q] s.surfaces) s.now

/-- R143, R144, R145, R146, R148: what makes demand on a line, what a line does with it in each of its states, and what it
does at the expiry of its two timers. -/
def Obligations.OutputLineTransitions : Prop :=
  (∀ (c : OutputCfg) (sf : Vector SurfaceRec 16), demandOf c sf = true ↔
      ∃ i : Fin 16, c.members.getLsbD i = true
        ∧ ((sf[i]).run.state = .unknown ∧ c.unknownTrips = true
          ∨ (sf[i]).run.state ≠ .unknown ∧ (sf[i]).run.state ≠ .unused
              ∧ c.tripLevel.risk.severity ≤ (sf[i]).run.state.severity))
  ∧ (∀ (l : OutLine) (c : OutputCfg) (now : Nat),
      (l.state = .off → l.minOff = none → l.act c true now =
        { l with state := .on, minOn := if c.minOn = 0 then none else some (now + c.minOn * 4000000) })
      ∧ (l.state = .off → l.minOff ≠ none → l.act c true now = { l with state := .offHeld })
      ∧ (l.state = .onHeld → l.act c true now = { l with state := .on })
      ∧ (l.state = .on ∨ l.state = .offHeld → l.act c true now = l)
      ∧ (l.state = .on → l.minOn = none → l.act c false now =
        { l with state := .off, minOff := if c.minOff = 0 then none else some (now + c.minOff * 4000000) })
      ∧ (l.state = .on → l.minOn ≠ none → l.act c false now = { l with state := .onHeld })
      ∧ (l.state = .offHeld → l.act c false now = { l with state := .off })
      ∧ (l.state = .off ∨ l.state = .onHeld → l.act c false now = l))
  ∧ (∀ (o : Fin 2) (e : Nat) (c : OutputCfg) (s : State), s.power = .running → c = s.store.written.outputs[o] →
      ((s.outputs[o]).minOn = some e →
        ∃ t : State, exec (.minOnExpiry o) s = .next t
          ∧ t = { s with
              now := max s.now e
              outputs := s.outputs.set o
                (if (s.outputs[o]).state = .onHeld then
                  OutLine.mk .off none (if c.minOff = 0 then none else some (max s.now e + c.minOff * 4000000))
                else OutLine.mk (s.outputs[o]).state none (s.outputs[o]).minOff)
              capture := { s.capture with units := (s.elapseTo e).capture.units } })
      ∧ ((s.outputs[o]).minOff = some e →
        ∃ t : State, exec (.minOffExpiry o) s = .next t
          ∧ t = { s with
              now := max s.now e
              outputs := s.outputs.set o
                (if (s.outputs[o]).state = .offHeld then
                  OutLine.mk .on (if c.minOn = 0 then none else some (max s.now e + c.minOn * 4000000)) none
                else OutLine.mk (s.outputs[o]).state (s.outputs[o]).minOn none)
              capture := { s.capture with units := (s.elapseTo e).capture.units } }))
  ∧ ∀ (o : Fin 2) (s : State), s.power = .running →
      (s.outDrive o = true ↔
        if (s.store.written.outputs[o]).contact = .closedOnDemand then
          (s.outputs[o]).state = .on ∨ (s.outputs[o]).state = .onHeld
        else (s.outputs[o]).state = .off ∨ (s.outputs[o]).state = .offHeld)

/-- R147: whatever happens but a new start, RESTART or a byte that may end a RESTART frame, a line that is on with its min-on
timer running stays on, the timer's expiry as it was, until that timer expires, one that is off with its min-off timer running
likewise, and each turn starts the timer of its new side; every step keeps the timers of the held states running, and no timer
of the other side. -/
def Obligations.OutputLineKeepsMinimumTimes : Prop :=
  (∀ s t : State, s.OutputLaw → step s = .next t → t.OutputLaw)
  ∧ ∀ (c : Instr) (s t : State) (o : Fin 2), c.wellFormed = true → s.mayRestart c = false → exec c s = .next t →
      ((s.outputs[o]).state.isOn = true → (s.outputs[o]).minOn ≠ none → (t.outputs[o]).state.isOn = false →
        c = .minOnExpiry o)
      ∧ ((s.outputs[o]).state.isOn = false → (s.outputs[o]).minOff ≠ none → (t.outputs[o]).state.isOn = true →
        c = .minOffExpiry o)
      ∧ ((s.outputs[o]).state.isOn = false → (t.outputs[o]).state.isOn = true →
        (t.outputs[o]).minOn = startTimer t.now (t.store.written.outputs[o]).minOn 4000000)
      ∧ ((s.outputs[o]).state.isOn = true → (t.outputs[o]).state.isOn = false →
        (t.outputs[o]).minOff = startTimer t.now (t.store.written.outputs[o]).minOff 4000000)
      ∧ (∀ e : Nat, (s.outputs[o]).state.isOn = true → (s.outputs[o]).minOn = some e → c ≠ .minOnExpiry o →
        (t.outputs[o]).state.isOn = true ∧ (t.outputs[o]).minOn = some e)
      ∧ (∀ e : Nat, (s.outputs[o]).state.isOn = false → (s.outputs[o]).minOff = some e → c ≠ .minOffExpiry o →
        (t.outputs[o]).state.isOn = false ∧ (t.outputs[o]).minOff = some e)

/-- R43, R137, R165, R166, R167, R168: SAVE copies the written image; its end saves the copy, followed by the CRC-16 over its
bytes, or leaves no saved image, with the SAVED notice; LOAD takes the saved image back as the written one, acts at once on
the lines whose enabled value it changes, takes the surfaces bound to a latch it clears out of WET as a WET_ACK does, line by
line (assumption 13), has both outputs act, and leaves its interval pending. -/
def Obligations.SaveAndLoad : Prop :=
  (∀ (s : State), s.takesOwn = true → s.store.saving = none →
      exec (.save []) s =
        .next (State.postReply { s with store := { s.store with saving := some s.store.written } } 0x30 (Answer.mk .ok []))
      ∧ (s.store.saved = none → exec (.load []) s = .next (s.postReply 0x31 (Answer.mk .badState [])))
      ∧ ∀ (i : Image) (crc : BitVec 16), s.store.saved = some (SavedImage.mk i crc) →
          ∃ t : State, exec (.load []) s = .next (t.postReply 0x31 (Answer.mk .ok []))
            ∧ t = { s with
                store := { s.store with written := i, dirty := false }
                sweep := { s.sweep with pendingIv := some i.interval }
                wet := t.wet, surfaces := t.surfaces, ranking := t.ranking, notices := t.notices, outputs := t.outputs }
            ∧ (∀ l : Fin 8,
                t.wet[l] =
                  if i.wet.enabled[l] = s.store.written.wet.enabled[l] then s.wet[l]
                  else if i.wet.enabled[l] = true then
                    { s.wet[l] with timer := some (s.now + i.wet.debounce * 400000) }
                  else { s.wet[l] with timer := none, debounced := none, latch := false })
            ∧ (∃ outs : Vector OutLine 2,
                s.LatchesCleared t
                  (fun l => s.store.written.wet.enabled[l] && !i.wet.enabled[l] && (s.wet[l]).latch) i.outputs outs
                ∧ t.outputs = actOn i.outputs t.surfaces s.now outs)
            ∧ ((∀ l : Fin 8, i.wet.enabled[l] = false → (s.wet[l]).latch = false) →
                t.surfaces = s.surfaces ∧ t.ranking = s.ranking ∧ t.notices = s.notices
                ∧ ∀ o : Fin 2, t.outputs[o] =
                    (s.outputs[o]).act i.outputs[o] (demandOf i.outputs[o] s.surfaces) s.now))
  ∧ ∀ (copy : Image) (m : SavedImage) (s : State), s.power = .running → s.store.saving = some copy →
      m = SavedImage.mk copy (crc16 copy.bytes) →
      exec (.saveComplete true) s =
        .next { s with
          store := { s.store with saving := none, saved := some m, nv := some m, dirty := false, nvFault := false }
          notices := s.notices.arrive (Notice.mk .saved 0 0 0 s.sweep.number 0 {}) }
      ∧ exec (.saveComplete false) s =
        .next { s with
          store := { s.store with saving := none, saved := none, nv := none, dirty := true, nvFault := true }
          notices := s.notices.arrive (Notice.mk .saved 0 0 1 s.sweep.number 0 {}) }

/-! ### Supply, reset and RESTART -/

/-- R30, R73, R93, R109, R120, R121, R141, R149, R152, R165, R167, R169, Tables 7-3, 10-1: power-on and the release of the
reset pin load the nonvolatile image whose CRC matches, or factory defaults, a content that failed then kept as failing,
bring every block to its power-on values with the STARTUP notice in the queue, and in CONTINUOUS start sweep 1, which is
`startSweep` of that state; a held or unpowered part drives no pin, a SAVE cut short leaves a failing nonvolatile image, and
a part without supply keeps whether RESETn holds it. That supply applied to a part that has it is its loss and its return,
and what RESETn does without supply, is assumption 5. -/
def Obligations.SupplyAndResetPin : Prop :=
  (∀ (pins : StartPins) (good : Option Image) (i : Image) (c : Instr) (cause : Nat) (s : State),
      (c = .powerOn pins ∧ s.power = .off ∧ cause = 1 ∨ c = .resetPinRelease pins ∧ s.power = .held ∧ cause = 2) →
      good = goodImage s.store.nv pins.nvFlips → i = good.getD .factory →
      ∃ u t : State, exec c s = .next t
        ∧ t = (if i.startMode = .continuous then u.startSweep else u)
        ∧ u.now = s.now ∧ u.pending = s.pending ∧ u.StartedOn i good.isSome s.store.nv pins
        ∧ u.notices =
            { list := [Notice.mk .startup 0 cause (if good = none then 1 else 0) 0 0 {}], overflow := false }
        ∧ u.sweep = { mode := i.startMode, interval := i.interval, pendingIv := none
                      timer := if i.startMode = .continuous then some (s.now + i.interval * 4000000) else none
                      inFlight := false, number := 0, overrunCount := 0, arm := false, snapSweep := none, buffer := none
                      ready := false }
        ∧ u.ranking = { sweep := 0, entries := [] }
        ∧ (∀ k : Fin 16, (u.surfaces[k]).run.ClearedIn (if (i.surfaces[k]).enabled then .unknown else .unused))
        ∧ u.capture.queue = [] ∧ u.capture.outcomes = [] ∧ (∀ k : Fin 4, u.capture.units[k] = .idle)
        ∧ (∀ o : Fin 2, u.outputs[o] = { state := .off, minOn := none, minOff := none })
        ∧ t.link = u.link ∧ t.store = u.store ∧ t.wet = u.wet ∧ t.power = .running
        ∧ t.sweep.number = (if i.startMode = .continuous then 1 else 0)
        ∧ t.link.bitRate =
            (if pins.baud1 = false ∧ pins.baud0 = true then 9600
            else if pins.baud1 = true ∧ pins.baud0 = false then 38400
            else 19200))
  ∧ (∀ s : State, s.power = .running →
      ∃ t : State, exec .resetPinAssert s = .next t ∧ t.power = .held
        ∧ (∀ o : Fin 2, t.outDrive o = false) ∧ (∀ p : Fin 24, t.heaterOn p = false) ∧ t.driverEnabled = false
        ∧ t.store.saving = none
        ∧ t.store.nv = if s.store.saving.isSome then none else s.store.nv)
  ∧ (∀ s : State, s.power = .running ∨ s.power = .held →
      ∃ t : State, exec .powerLoss s = .next t ∧ t.power = (if s.power = .held then .offHeld else .off)
        ∧ (∀ o : Fin 2, t.outDrive o = false) ∧ (∀ p : Fin 24, t.heaterOn p = false) ∧ t.driverEnabled = false
        ∧ (t.store.nv = if s.store.saving.isSome then none else s.store.nv)
        ∧ ∀ pins : StartPins, exec (.powerOn pins) s = exec (.powerOn pins) t)
  ∧ ∀ (pins : StartPins) (s : State),
      (s.power = .off → exec .resetPinAssert s = .next { s with power := .offHeld })
      ∧ (s.power = .offHeld →
          exec (.resetPinRelease pins) s = .next { s with power := .off }
          ∧ exec (.powerOn pins) s = .next { s with power := .held })

/-- R31, R55, R74, R92, R109, R120, R132, R141, R149, R152, R162, R165: RESTART under the part's own address answers OK, with
the reply assembled before it, then brings the blocks to their RESTART values; the mode, number, filters, wet lines, store and
working configurations stay. In CONTINUOUS the pending interval is taken, the timer loaded and a sweep started, which is
`startSweep` of the state so made. -/
def Obligations.RestartTakesEffect : Prop :=
  ∀ (iv : Nat) (s : State), s.takesOwn = true → s.store.saving = none → iv = s.sweep.pendingIv.getD s.sweep.interval →
    ∃ u t : State, exec (.restart .own []) s = .next t
      ∧ t = (if s.sweep.mode = .continuous then u.startSweep else u)
      ∧ u.link = (s.postReply 0x32 (Answer.mk .ok [])).link
      ∧ u.now = s.now ∧ u.power = s.power ∧ u.store = s.store ∧ u.wet = s.wet ∧ u.pending = s.pending ∧ u.work = s.work
      ∧ u.sweep = { s.sweep with
          inFlight := false, overrunCount := 0, arm := false, ready := false, snapSweep := none, buffer := none
          interval := if s.sweep.mode = .continuous then iv else s.sweep.interval
          pendingIv := if s.sweep.mode = .continuous then none else s.sweep.pendingIv
          timer := if s.sweep.mode = .continuous then some (s.now + iv * 4000000) else s.sweep.timer }
      ∧ u.purge.grants = [] ∧ u.purge.queue = [] ∧ (∀ p : Fin 24, u.purge.recovery[p] = none)
      ∧ (∀ p : Fin 24,
          u.points[p] =
            { cfg := (s.points[p]).cfg
              run := { health := if (s.points[p]).cfg.kind = .off then .off else .new, phase := .none, failRun := 0
                       satRun := 0, purgeCount := 0, readings := .absent, frozen := none, lastGood := none
                       lastFailure := none } })
      ∧ (∀ k : Fin 16,
          (u.surfaces[k]).cfg = (s.surfaces[k]).cfg
          ∧ (u.surfaces[k]).run.ClearedIn
              (if (s.surfaces[k]).cfg.enabled then
                if s.latchOf (s.surfaces[k]).cfg then .wet else .unknown
              else .unused))
      ∧ u.capture = { s.capture with queue := [], units := u.capture.units, outcomes := [] }
      ∧ (∀ k : Fin 4, u.capture.units[k] = .idle)
      ∧ u.ranking = { sweep := 0, entries := [] } ∧ u.notices = { list := [], overflow := false }
      ∧ (∀ o : Fin 2, u.outputs[o] = { state := .off, minOn := none, minOff := none })
      ∧ t.link = u.link ∧ t.store = s.store ∧ t.wet = s.wet ∧ t.pending = s.pending
      ∧ t.sweep.number = (if s.sweep.mode = .continuous then s.sweep.number + 1 else s.sweep.number)

/-! ### What every step keeps -/

/-- R153, Table 10-2. -/
def Obligations.ReceiverLawIsKept : Prop := ∀ s t : State, s.ReceiverLaw → step s = .next t → t.ReceiverLaw

/-- R136, R138, R140: the queue never holds more than 32 notices; but for a new start, RESTART or a byte that may end a
RESTART frame, a notice leaves it only by NOTICE_DROP, by its row or by the last byte of its frame, from its head. -/
def Obligations.NoticesLeaveOnlyFromTheHead : Prop :=
  (∀ s t : State, s.NoticeLaw → step s = .next t → t.NoticeLaw)
  ∧ ∀ (c : Instr) (s t : State), c.wellFormed = true → s.mayRestart c = false → exec c s = .next t →
      (∃ p : List Byte,
          (c = .noticeDrop p
            ∨ (∃ b n, c = .byteReceived b n) ∧ s.link.receiver = .frame ∧ byteAt s.link.buffer 2 = 0x22
              ∧ p = s.link.buffer.drop 4)
          ∧ ∃ n ≤ byteAt p 0, t.notices.list = s.notices.list.drop n)
        ∨ s.notices.list <+: t.notices.list

/-- R41, R43, R112, R113, R117: which surfaces are in WET, and what a disabled line holds. -/
def Obligations.WetAndTapeLawsAreKept : Prop :=
  ∀ s t : State, s.WetLaw → s.TapeLaw → step s = .next t → t.WetLaw ∧ t.TapeLaw

/-- R52, R53, R54: the ranking list agrees with the surfaces it names. -/
def Obligations.RankingLawIsKept : Prop := ∀ s t : State, s.RankingLaw → step s = .next t → t.RankingLaw

/-- R18, R40, R47, R48, Table 2-2: the runtime part of every surface keeps its ranges. -/
def Obligations.SurfaceLawIsKept : Prop := ∀ s t : State, s.SurfaceLaw → step s = .next t → t.SurfaceLaw

/-- R79, R83, R84, R86, R87, R89: a sweep in flight has jobs, and no unit is IDLE while a job waits; every count keeps pace
with the periods it covers, at least 50 ticks each, so that every C64 handed on is 3200 or above. -/
def Obligations.CaptureLawIsKept : Prop :=
  (∀ s t : State, s.CaptureLaw → step s = .next t → t.CaptureLaw)
  ∧ ∀ s t : State, s.ConfigLaw → s.CountLaw → step s = .next t → t.CountLaw

/-- R59, R64, R67, R69, R95, R97, R98, R99, R100, Tables 4-2, 4-5: the grants, the purge queue and the recovery timers agree
with the phases of the points, and every point record keeps its ranges, its health in agreement with its working kind, its
readings and its phase. -/
def Obligations.PurgeLawIsKept : Prop :=
  (∀ s t : State, s.PurgeLaw → step s = .next t → t.PurgeLaw)
  ∧ ∀ s t : State, s.PurgeLaw → s.ConfigLaw → s.PointLaw → step s = .next t → t.PointLaw

/-- R8, R14, R76, R33, R78, R118, R150, R158, R165, Tables 1-3, 2-1, 4-1, 5-2, 6-3: every dew point recorded lies within its
bounds, every configuration the part holds lies in range, every image beside the written one carries its CRC, and every margin
lies in −10200..11200. -/
def Obligations.BoundsAreKept : Prop :=
  ∀ s t : State, step s = .next t →
    (s.DewLaw → t.DewLaw) ∧ (s.ConfigLaw → t.ConfigLaw) ∧ (s.CrcLaw → t.CrcLaw)
    ∧ (s.DewLaw → s.ConfigLaw → s.CountLaw → s.MarginLaw → t.MarginLaw)

/-- R169: the state after reset meets every law. -/
def Obligations.ResetMeetsTheLaws : Prop :=
  State.reset.ReceiverLaw ∧ State.reset.NoticeLaw ∧ State.reset.WetLaw ∧ State.reset.TapeLaw ∧ State.reset.RankingLaw
    ∧ State.reset.SurfaceLaw ∧ State.reset.CaptureLaw ∧ State.reset.CountLaw ∧ State.reset.PurgeLaw ∧ State.reset.DewLaw
    ∧ State.reset.ConfigLaw ∧ State.reset.CrcLaw ∧ State.reset.MarginLaw ∧ State.reset.OutputLaw ∧ State.reset.PointLaw
end

