-- ==== Sys2Proof/Laws/State.lean ====
section
/-! SUPPORT. What each shared update does to each field of State, one lemma per field, true by unfolding one record update.
A field an update computes is left to the operation's own lemma in the other files of this folder. -/

namespace Sys2Proof.Machine

/-! ### elapse -/

@[simp] theorem State.elapse_now (s : State) (n : Nat) : (s.elapse n).now = s.now + n := rfl
@[simp] theorem State.elapse_power (s : State) (n : Nat) : (s.elapse n).power = s.power := rfl
@[simp] theorem State.elapse_link (s : State) (n : Nat) : (s.elapse n).link = s.link := rfl
@[simp] theorem State.elapse_store (s : State) (n : Nat) : (s.elapse n).store = s.store := rfl
@[simp] theorem State.elapse_points (s : State) (n : Nat) : (s.elapse n).points = s.points := rfl
@[simp] theorem State.elapse_work (s : State) (n : Nat) : (s.elapse n).work = s.work := rfl
@[simp] theorem State.elapse_purge (s : State) (n : Nat) : (s.elapse n).purge = s.purge := rfl
@[simp] theorem State.elapse_surfaces (s : State) (n : Nat) : (s.elapse n).surfaces = s.surfaces := rfl
@[simp] theorem State.elapse_ranking (s : State) (n : Nat) : (s.elapse n).ranking = s.ranking := rfl
@[simp] theorem State.elapse_wet (s : State) (n : Nat) : (s.elapse n).wet = s.wet := rfl
@[simp] theorem State.elapse_sweep (s : State) (n : Nat) : (s.elapse n).sweep = s.sweep := rfl
@[simp] theorem State.elapse_notices (s : State) (n : Nat) : (s.elapse n).notices = s.notices := rfl
@[simp] theorem State.elapse_outputs (s : State) (n : Nat) : (s.elapse n).outputs = s.outputs := rfl
@[simp] theorem State.elapse_pending (s : State) (n : Nat) : (s.elapse n).pending = s.pending := rfl
@[simp] theorem State.elapse_queue (s : State) (n : Nat) : (s.elapse n).capture.queue = s.capture.queue := rfl
@[simp] theorem State.elapse_outcomes (s : State) (n : Nat) : (s.elapse n).capture.outcomes = s.capture.outcomes := rfl
@[simp] theorem State.elapse_filter (s : State) (n : Nat) : (s.elapse n).capture.filter = s.capture.filter := rfl
@[simp] theorem State.elapse_level (s : State) (n : Nat) : (s.elapse n).capture.level = s.capture.level := rfl

/-! ### elapseTo -/

@[simp] theorem State.elapseTo_now (s : State) (t : Nat) : (s.elapseTo t).now = s.now + (t - s.now) := rfl
@[simp] theorem State.elapseTo_power (s : State) (t : Nat) : (s.elapseTo t).power = s.power := rfl
@[simp] theorem State.elapseTo_link (s : State) (t : Nat) : (s.elapseTo t).link = s.link := rfl
@[simp] theorem State.elapseTo_store (s : State) (t : Nat) : (s.elapseTo t).store = s.store := rfl
@[simp] theorem State.elapseTo_points (s : State) (t : Nat) : (s.elapseTo t).points = s.points := rfl
@[simp] theorem State.elapseTo_work (s : State) (t : Nat) : (s.elapseTo t).work = s.work := rfl
@[simp] theorem State.elapseTo_purge (s : State) (t : Nat) : (s.elapseTo t).purge = s.purge := rfl
@[simp] theorem State.elapseTo_surfaces (s : State) (t : Nat) : (s.elapseTo t).surfaces = s.surfaces := rfl
@[simp] theorem State.elapseTo_ranking (s : State) (t : Nat) : (s.elapseTo t).ranking = s.ranking := rfl
@[simp] theorem State.elapseTo_wet (s : State) (t : Nat) : (s.elapseTo t).wet = s.wet := rfl
@[simp] theorem State.elapseTo_sweep (s : State) (t : Nat) : (s.elapseTo t).sweep = s.sweep := rfl
@[simp] theorem State.elapseTo_notices (s : State) (t : Nat) : (s.elapseTo t).notices = s.notices := rfl
@[simp] theorem State.elapseTo_outputs (s : State) (t : Nat) : (s.elapseTo t).outputs = s.outputs := rfl
@[simp] theorem State.elapseTo_pending (s : State) (t : Nat) : (s.elapseTo t).pending = s.pending := rfl
@[simp] theorem State.elapseTo_queue (s : State) (t : Nat) : (s.elapseTo t).capture.queue = s.capture.queue := rfl
@[simp] theorem State.elapseTo_outcomes (s : State) (t : Nat) :
    (s.elapseTo t).capture.outcomes = s.capture.outcomes := rfl
@[simp] theorem State.elapseTo_filter (s : State) (t : Nat) : (s.elapseTo t).capture.filter = s.capture.filter := rfl
@[simp] theorem State.elapseTo_level (s : State) (t : Nat) : (s.elapseTo t).capture.level = s.capture.level := rfl

/-! ### offer -/

@[simp] theorem State.offer_now (s : State) (ns : List Notice) : (s.offer ns).now = s.now := rfl
@[simp] theorem State.offer_power (s : State) (ns : List Notice) : (s.offer ns).power = s.power := rfl
@[simp] theorem State.offer_link (s : State) (ns : List Notice) : (s.offer ns).link = s.link := rfl
@[simp] theorem State.offer_store (s : State) (ns : List Notice) : (s.offer ns).store = s.store := rfl
@[simp] theorem State.offer_points (s : State) (ns : List Notice) : (s.offer ns).points = s.points := rfl
@[simp] theorem State.offer_work (s : State) (ns : List Notice) : (s.offer ns).work = s.work := rfl
@[simp] theorem State.offer_capture (s : State) (ns : List Notice) : (s.offer ns).capture = s.capture := rfl
@[simp] theorem State.offer_purge (s : State) (ns : List Notice) : (s.offer ns).purge = s.purge := rfl
@[simp] theorem State.offer_surfaces (s : State) (ns : List Notice) : (s.offer ns).surfaces = s.surfaces := rfl
@[simp] theorem State.offer_ranking (s : State) (ns : List Notice) : (s.offer ns).ranking = s.ranking := rfl
@[simp] theorem State.offer_wet (s : State) (ns : List Notice) : (s.offer ns).wet = s.wet := rfl
@[simp] theorem State.offer_sweep (s : State) (ns : List Notice) : (s.offer ns).sweep = s.sweep := rfl
@[simp] theorem State.offer_notices (s : State) (ns : List Notice) : (s.offer ns).notices = ns.foldl NoticeQueue.arrive s.notices := rfl
@[simp] theorem State.offer_outputs (s : State) (ns : List Notice) : (s.offer ns).outputs = s.outputs := rfl
@[simp] theorem State.offer_pending (s : State) (ns : List Notice) : (s.offer ns).pending = s.pending := rfl

/-! ### setRun -/

@[simp] theorem State.setRun_now (s : State) (p : Fin 24) (r : PointRun) : (s.setRun p r).now = s.now := rfl
@[simp] theorem State.setRun_power (s : State) (p : Fin 24) (r : PointRun) : (s.setRun p r).power = s.power := rfl
@[simp] theorem State.setRun_link (s : State) (p : Fin 24) (r : PointRun) : (s.setRun p r).link = s.link := rfl
@[simp] theorem State.setRun_store (s : State) (p : Fin 24) (r : PointRun) : (s.setRun p r).store = s.store := rfl
@[simp] theorem State.setRun_points (s : State) (p : Fin 24) (r : PointRun) : (s.setRun p r).points = s.points.set p { s.points[p] with run := r } := rfl
@[simp] theorem State.setRun_work (s : State) (p : Fin 24) (r : PointRun) : (s.setRun p r).work = s.work := rfl
@[simp] theorem State.setRun_capture (s : State) (p : Fin 24) (r : PointRun) : (s.setRun p r).capture = s.capture := rfl
@[simp] theorem State.setRun_purge (s : State) (p : Fin 24) (r : PointRun) : (s.setRun p r).purge = s.purge := rfl
@[simp] theorem State.setRun_surfaces (s : State) (p : Fin 24) (r : PointRun) : (s.setRun p r).surfaces = s.surfaces := rfl
@[simp] theorem State.setRun_ranking (s : State) (p : Fin 24) (r : PointRun) : (s.setRun p r).ranking = s.ranking := rfl
@[simp] theorem State.setRun_wet (s : State) (p : Fin 24) (r : PointRun) : (s.setRun p r).wet = s.wet := rfl
@[simp] theorem State.setRun_sweep (s : State) (p : Fin 24) (r : PointRun) : (s.setRun p r).sweep = s.sweep := rfl
@[simp] theorem State.setRun_notices (s : State) (p : Fin 24) (r : PointRun) : (s.setRun p r).notices = s.notices := rfl
@[simp] theorem State.setRun_outputs (s : State) (p : Fin 24) (r : PointRun) : (s.setRun p r).outputs = s.outputs := rfl
@[simp] theorem State.setRun_pending (s : State) (p : Fin 24) (r : PointRun) : (s.setRun p r).pending = s.pending := rfl

/-! ### setWet -/

@[simp] theorem State.setWet_now (s : State) (l : Fin 8) (w : WetLine) : (s.setWet l w).now = s.now := rfl
@[simp] theorem State.setWet_power (s : State) (l : Fin 8) (w : WetLine) : (s.setWet l w).power = s.power := rfl
@[simp] theorem State.setWet_link (s : State) (l : Fin 8) (w : WetLine) : (s.setWet l w).link = s.link := rfl
@[simp] theorem State.setWet_store (s : State) (l : Fin 8) (w : WetLine) : (s.setWet l w).store = s.store := rfl
@[simp] theorem State.setWet_points (s : State) (l : Fin 8) (w : WetLine) : (s.setWet l w).points = s.points := rfl
@[simp] theorem State.setWet_work (s : State) (l : Fin 8) (w : WetLine) : (s.setWet l w).work = s.work := rfl
@[simp] theorem State.setWet_capture (s : State) (l : Fin 8) (w : WetLine) : (s.setWet l w).capture = s.capture := rfl
@[simp] theorem State.setWet_purge (s : State) (l : Fin 8) (w : WetLine) : (s.setWet l w).purge = s.purge := rfl
@[simp] theorem State.setWet_surfaces (s : State) (l : Fin 8) (w : WetLine) : (s.setWet l w).surfaces = s.surfaces := rfl
@[simp] theorem State.setWet_ranking (s : State) (l : Fin 8) (w : WetLine) : (s.setWet l w).ranking = s.ranking := rfl
@[simp] theorem State.setWet_wet (s : State) (l : Fin 8) (w : WetLine) : (s.setWet l w).wet = s.wet.set l w := rfl
@[simp] theorem State.setWet_sweep (s : State) (l : Fin 8) (w : WetLine) : (s.setWet l w).sweep = s.sweep := rfl
@[simp] theorem State.setWet_notices (s : State) (l : Fin 8) (w : WetLine) : (s.setWet l w).notices = s.notices := rfl
@[simp] theorem State.setWet_outputs (s : State) (l : Fin 8) (w : WetLine) : (s.setWet l w).outputs = s.outputs := rfl
@[simp] theorem State.setWet_pending (s : State) (l : Fin 8) (w : WetLine) : (s.setWet l w).pending = s.pending := rfl

/-! ### writeImage -/

@[simp] theorem State.writeImage_now (s : State) (i : Image) : (s.writeImage i).now = s.now := rfl
@[simp] theorem State.writeImage_power (s : State) (i : Image) : (s.writeImage i).power = s.power := rfl
@[simp] theorem State.writeImage_link (s : State) (i : Image) : (s.writeImage i).link = s.link := rfl
@[simp] theorem State.writeImage_store (s : State) (i : Image) : (s.writeImage i).store = { s.store with written := i, dirty := true } := rfl
@[simp] theorem State.writeImage_points (s : State) (i : Image) : (s.writeImage i).points = s.points := rfl
@[simp] theorem State.writeImage_work (s : State) (i : Image) : (s.writeImage i).work = s.work := rfl
@[simp] theorem State.writeImage_capture (s : State) (i : Image) : (s.writeImage i).capture = s.capture := rfl
@[simp] theorem State.writeImage_purge (s : State) (i : Image) : (s.writeImage i).purge = s.purge := rfl
@[simp] theorem State.writeImage_surfaces (s : State) (i : Image) : (s.writeImage i).surfaces = s.surfaces := rfl
@[simp] theorem State.writeImage_ranking (s : State) (i : Image) : (s.writeImage i).ranking = s.ranking := rfl
@[simp] theorem State.writeImage_wet (s : State) (i : Image) : (s.writeImage i).wet = s.wet := rfl
@[simp] theorem State.writeImage_sweep (s : State) (i : Image) : (s.writeImage i).sweep = s.sweep := rfl
@[simp] theorem State.writeImage_notices (s : State) (i : Image) : (s.writeImage i).notices = s.notices := rfl
@[simp] theorem State.writeImage_outputs (s : State) (i : Image) : (s.writeImage i).outputs = s.outputs := rfl
@[simp] theorem State.writeImage_pending (s : State) (i : Image) : (s.writeImage i).pending = s.pending := rfl

/-! ### setOut -/

@[simp] theorem State.setOut_now (s : State) (o : Fin 2) (l : OutLine) : (s.setOut o l).now = s.now := rfl
@[simp] theorem State.setOut_power (s : State) (o : Fin 2) (l : OutLine) : (s.setOut o l).power = s.power := rfl
@[simp] theorem State.setOut_link (s : State) (o : Fin 2) (l : OutLine) : (s.setOut o l).link = s.link := rfl
@[simp] theorem State.setOut_store (s : State) (o : Fin 2) (l : OutLine) : (s.setOut o l).store = s.store := rfl
@[simp] theorem State.setOut_points (s : State) (o : Fin 2) (l : OutLine) : (s.setOut o l).points = s.points := rfl
@[simp] theorem State.setOut_work (s : State) (o : Fin 2) (l : OutLine) : (s.setOut o l).work = s.work := rfl
@[simp] theorem State.setOut_capture (s : State) (o : Fin 2) (l : OutLine) : (s.setOut o l).capture = s.capture := rfl
@[simp] theorem State.setOut_purge (s : State) (o : Fin 2) (l : OutLine) : (s.setOut o l).purge = s.purge := rfl
@[simp] theorem State.setOut_surfaces (s : State) (o : Fin 2) (l : OutLine) : (s.setOut o l).surfaces = s.surfaces := rfl
@[simp] theorem State.setOut_ranking (s : State) (o : Fin 2) (l : OutLine) : (s.setOut o l).ranking = s.ranking := rfl
@[simp] theorem State.setOut_wet (s : State) (o : Fin 2) (l : OutLine) : (s.setOut o l).wet = s.wet := rfl
@[simp] theorem State.setOut_sweep (s : State) (o : Fin 2) (l : OutLine) : (s.setOut o l).sweep = s.sweep := rfl
@[simp] theorem State.setOut_notices (s : State) (o : Fin 2) (l : OutLine) : (s.setOut o l).notices = s.notices := rfl
@[simp] theorem State.setOut_outputs (s : State) (o : Fin 2) (l : OutLine) : (s.setOut o l).outputs = s.outputs.set o l := rfl
@[simp] theorem State.setOut_pending (s : State) (o : Fin 2) (l : OutLine) : (s.setOut o l).pending = s.pending := rfl

/-! ### setFilter -/

@[simp] theorem State.setFilter_now (s : State) (line : PinLine) (port : Fin 24) (f : LineFilter) : (s.setFilter line port f).now = s.now := rfl
@[simp] theorem State.setFilter_power (s : State) (line : PinLine) (port : Fin 24) (f : LineFilter) : (s.setFilter line port f).power = s.power := rfl
@[simp] theorem State.setFilter_link (s : State) (line : PinLine) (port : Fin 24) (f : LineFilter) : (s.setFilter line port f).link = s.link := rfl
@[simp] theorem State.setFilter_store (s : State) (line : PinLine) (port : Fin 24) (f : LineFilter) : (s.setFilter line port f).store = s.store := rfl
@[simp] theorem State.setFilter_points (s : State) (line : PinLine) (port : Fin 24) (f : LineFilter) : (s.setFilter line port f).points = s.points := rfl
@[simp] theorem State.setFilter_work (s : State) (line : PinLine) (port : Fin 24) (f : LineFilter) : (s.setFilter line port f).work = s.work := rfl
@[simp] theorem State.setFilter_capture (s : State) (line : PinLine) (port : Fin 24) (f : LineFilter) : (s.setFilter line port f).capture = s.capture.setFilter line port f := rfl
@[simp] theorem State.setFilter_purge (s : State) (line : PinLine) (port : Fin 24) (f : LineFilter) : (s.setFilter line port f).purge = s.purge := rfl
@[simp] theorem State.setFilter_surfaces (s : State) (line : PinLine) (port : Fin 24) (f : LineFilter) : (s.setFilter line port f).surfaces = s.surfaces := rfl
@[simp] theorem State.setFilter_ranking (s : State) (line : PinLine) (port : Fin 24) (f : LineFilter) : (s.setFilter line port f).ranking = s.ranking := rfl
@[simp] theorem State.setFilter_wet (s : State) (line : PinLine) (port : Fin 24) (f : LineFilter) : (s.setFilter line port f).wet = s.wet := rfl
@[simp] theorem State.setFilter_sweep (s : State) (line : PinLine) (port : Fin 24) (f : LineFilter) : (s.setFilter line port f).sweep = s.sweep := rfl
@[simp] theorem State.setFilter_notices (s : State) (line : PinLine) (port : Fin 24) (f : LineFilter) : (s.setFilter line port f).notices = s.notices := rfl
@[simp] theorem State.setFilter_outputs (s : State) (line : PinLine) (port : Fin 24) (f : LineFilter) : (s.setFilter line port f).outputs = s.outputs := rfl
@[simp] theorem State.setFilter_pending (s : State) (line : PinLine) (port : Fin 24) (f : LineFilter) : (s.setFilter line port f).pending = s.pending := rfl

@[simp] theorem Capture.setFilter_queue (c : Capture) (line : PinLine) (port : Fin 24) (f : LineFilter) :
    (c.setFilter line port f).queue = c.queue := by cases line <;> rfl
@[simp] theorem Capture.setFilter_units (c : Capture) (line : PinLine) (port : Fin 24) (f : LineFilter) :
    (c.setFilter line port f).units = c.units := by cases line <;> rfl
@[simp] theorem Capture.setFilter_outcomes (c : Capture) (line : PinLine) (port : Fin 24) (f : LineFilter) :
    (c.setFilter line port f).outcomes = c.outcomes := by cases line <;> rfl
@[simp] theorem Capture.setFilter_filter (c : Capture) (line : PinLine) (port : Fin 24) (f : LineFilter) :
    (c.setFilter line port f).filter line port = f := by cases line <;> simp [Capture.setFilter, Capture.filter]

/-- A filter that is replaced is no other line's. -/
theorem Capture.setFilter_filter_ne (c : Capture) {line m : PinLine} {port q : Fin 24} (h : m ≠ line ∨ q ≠ port)
    (f : LineFilter) : (c.setFilter line port f).filter m q = c.filter m q := by
  cases line <;> cases m <;> simp_all [Capture.setFilter, Capture.filter, Fin.ext_iff, eq_comm]

/-! ### setUnit -/

@[simp] theorem State.setUnit_now (s : State) (k : Fin 4) (u : CaptureUnit) : (s.setUnit k u).now = s.now := rfl
@[simp] theorem State.setUnit_power (s : State) (k : Fin 4) (u : CaptureUnit) : (s.setUnit k u).power = s.power := rfl
@[simp] theorem State.setUnit_link (s : State) (k : Fin 4) (u : CaptureUnit) : (s.setUnit k u).link = s.link := rfl
@[simp] theorem State.setUnit_store (s : State) (k : Fin 4) (u : CaptureUnit) : (s.setUnit k u).store = s.store := rfl
@[simp] theorem State.setUnit_points (s : State) (k : Fin 4) (u : CaptureUnit) : (s.setUnit k u).points = s.points := rfl
@[simp] theorem State.setUnit_work (s : State) (k : Fin 4) (u : CaptureUnit) : (s.setUnit k u).work = s.work := rfl
@[simp] theorem State.setUnit_capture (s : State) (k : Fin 4) (u : CaptureUnit) : (s.setUnit k u).capture = { s.capture with units := s.capture.units.set k u } := rfl
@[simp] theorem State.setUnit_purge (s : State) (k : Fin 4) (u : CaptureUnit) : (s.setUnit k u).purge = s.purge := rfl
@[simp] theorem State.setUnit_surfaces (s : State) (k : Fin 4) (u : CaptureUnit) : (s.setUnit k u).surfaces = s.surfaces := rfl
@[simp] theorem State.setUnit_ranking (s : State) (k : Fin 4) (u : CaptureUnit) : (s.setUnit k u).ranking = s.ranking := rfl
@[simp] theorem State.setUnit_wet (s : State) (k : Fin 4) (u : CaptureUnit) : (s.setUnit k u).wet = s.wet := rfl
@[simp] theorem State.setUnit_sweep (s : State) (k : Fin 4) (u : CaptureUnit) : (s.setUnit k u).sweep = s.sweep := rfl
@[simp] theorem State.setUnit_notices (s : State) (k : Fin 4) (u : CaptureUnit) : (s.setUnit k u).notices = s.notices := rfl
@[simp] theorem State.setUnit_outputs (s : State) (k : Fin 4) (u : CaptureUnit) : (s.setUnit k u).outputs = s.outputs := rfl
@[simp] theorem State.setUnit_pending (s : State) (k : Fin 4) (u : CaptureUnit) : (s.setUnit k u).pending = s.pending := rfl

/-! ### giveJobs -/

@[simp] theorem State.giveJobs_now (s : State) : s.giveJobs.now = s.now := rfl
@[simp] theorem State.giveJobs_power (s : State) : s.giveJobs.power = s.power := rfl
@[simp] theorem State.giveJobs_link (s : State) : s.giveJobs.link = s.link := rfl
@[simp] theorem State.giveJobs_store (s : State) : s.giveJobs.store = s.store := rfl
@[simp] theorem State.giveJobs_points (s : State) : s.giveJobs.points = s.points := rfl
@[simp] theorem State.giveJobs_work (s : State) : s.giveJobs.work = s.work := rfl
@[simp] theorem State.giveJobs_capture (s : State) : s.giveJobs.capture = (List.finRange 4).foldl (Capture.giveOne s.now s.work.window) s.capture := rfl
@[simp] theorem State.giveJobs_purge (s : State) : s.giveJobs.purge = s.purge := rfl
@[simp] theorem State.giveJobs_surfaces (s : State) : s.giveJobs.surfaces = s.surfaces := rfl
@[simp] theorem State.giveJobs_ranking (s : State) : s.giveJobs.ranking = s.ranking := rfl
@[simp] theorem State.giveJobs_wet (s : State) : s.giveJobs.wet = s.wet := rfl
@[simp] theorem State.giveJobs_sweep (s : State) : s.giveJobs.sweep = s.sweep := rfl
@[simp] theorem State.giveJobs_notices (s : State) : s.giveJobs.notices = s.notices := rfl
@[simp] theorem State.giveJobs_outputs (s : State) : s.giveJobs.outputs = s.outputs := rfl
@[simp] theorem State.giveJobs_pending (s : State) : s.giveJobs.pending = s.pending := rfl

/-! ### buildJobs -/

@[simp] theorem State.buildJobs_now (s : State) : s.buildJobs.now = s.now := rfl
@[simp] theorem State.buildJobs_power (s : State) : s.buildJobs.power = s.power := rfl
@[simp] theorem State.buildJobs_link (s : State) : s.buildJobs.link = s.link := rfl
@[simp] theorem State.buildJobs_store (s : State) : s.buildJobs.store = s.store := rfl
@[simp] theorem State.buildJobs_points (s : State) : s.buildJobs.points = s.points := rfl
@[simp] theorem State.buildJobs_work (s : State) : s.buildJobs.work = s.work := rfl
@[simp] theorem State.buildJobs_purge (s : State) : s.buildJobs.purge = s.purge := rfl
@[simp] theorem State.buildJobs_surfaces (s : State) : s.buildJobs.surfaces = s.surfaces := rfl
@[simp] theorem State.buildJobs_ranking (s : State) : s.buildJobs.ranking = s.ranking := rfl
@[simp] theorem State.buildJobs_wet (s : State) : s.buildJobs.wet = s.wet := rfl
@[simp] theorem State.buildJobs_sweep (s : State) : s.buildJobs.sweep = s.sweep := rfl
@[simp] theorem State.buildJobs_notices (s : State) : s.buildJobs.notices = s.notices := rfl
@[simp] theorem State.buildJobs_outputs (s : State) : s.buildJobs.outputs = s.outputs := rfl
@[simp] theorem State.buildJobs_pending (s : State) : s.buildJobs.pending = s.pending := rfl

/-! ### adoptCapture -/

@[simp] theorem State.adoptCapture_now (s : State) : s.adoptCapture.now = s.now := rfl
@[simp] theorem State.adoptCapture_power (s : State) : s.adoptCapture.power = s.power := rfl
@[simp] theorem State.adoptCapture_link (s : State) : s.adoptCapture.link = s.link := rfl
@[simp] theorem State.adoptCapture_store (s : State) : s.adoptCapture.store = s.store := rfl
@[simp] theorem State.adoptCapture_points (s : State) : s.adoptCapture.points = s.points := rfl
@[simp] theorem State.adoptCapture_capture (s : State) : s.adoptCapture.capture = s.capture := rfl
@[simp] theorem State.adoptCapture_purge (s : State) : s.adoptCapture.purge = s.purge := rfl
@[simp] theorem State.adoptCapture_surfaces (s : State) : s.adoptCapture.surfaces = s.surfaces := rfl
@[simp] theorem State.adoptCapture_ranking (s : State) : s.adoptCapture.ranking = s.ranking := rfl
@[simp] theorem State.adoptCapture_wet (s : State) : s.adoptCapture.wet = s.wet := rfl
@[simp] theorem State.adoptCapture_sweep (s : State) : s.adoptCapture.sweep = s.sweep := rfl
@[simp] theorem State.adoptCapture_notices (s : State) : s.adoptCapture.notices = s.notices := rfl
@[simp] theorem State.adoptCapture_outputs (s : State) : s.adoptCapture.outputs = s.outputs := rfl
@[simp] theorem State.adoptCapture_pending (s : State) : s.adoptCapture.pending = s.pending := rfl

/-! ### evalOutputs -/

@[simp] theorem State.evalOutputs_now (s : State) : s.evalOutputs.now = s.now := rfl
@[simp] theorem State.evalOutputs_power (s : State) : s.evalOutputs.power = s.power := rfl
@[simp] theorem State.evalOutputs_link (s : State) : s.evalOutputs.link = s.link := rfl
@[simp] theorem State.evalOutputs_store (s : State) : s.evalOutputs.store = s.store := rfl
@[simp] theorem State.evalOutputs_points (s : State) : s.evalOutputs.points = s.points := rfl
@[simp] theorem State.evalOutputs_work (s : State) : s.evalOutputs.work = s.work := rfl
@[simp] theorem State.evalOutputs_capture (s : State) : s.evalOutputs.capture = s.capture := rfl
@[simp] theorem State.evalOutputs_purge (s : State) : s.evalOutputs.purge = s.purge := rfl
@[simp] theorem State.evalOutputs_surfaces (s : State) : s.evalOutputs.surfaces = s.surfaces := rfl
@[simp] theorem State.evalOutputs_ranking (s : State) : s.evalOutputs.ranking = s.ranking := rfl
@[simp] theorem State.evalOutputs_wet (s : State) : s.evalOutputs.wet = s.wet := rfl
@[simp] theorem State.evalOutputs_sweep (s : State) : s.evalOutputs.sweep = s.sweep := rfl
@[simp] theorem State.evalOutputs_notices (s : State) : s.evalOutputs.notices = s.notices := rfl
@[simp] theorem State.evalOutputs_pending (s : State) : s.evalOutputs.pending = s.pending := rfl

/-! ### evaluateSurfaces -/

@[simp] theorem State.evaluateSurfaces_now (s : State) : s.evaluateSurfaces.now = s.now := by simp only [State.evaluateSurfaces, State.offer]
@[simp] theorem State.evaluateSurfaces_power (s : State) : s.evaluateSurfaces.power = s.power := by simp only [State.evaluateSurfaces, State.offer]
@[simp] theorem State.evaluateSurfaces_link (s : State) : s.evaluateSurfaces.link = s.link := by simp only [State.evaluateSurfaces, State.offer]
@[simp] theorem State.evaluateSurfaces_store (s : State) : s.evaluateSurfaces.store = s.store := by simp only [State.evaluateSurfaces, State.offer]
@[simp] theorem State.evaluateSurfaces_points (s : State) : s.evaluateSurfaces.points = s.points := by simp only [State.evaluateSurfaces, State.offer]
@[simp] theorem State.evaluateSurfaces_work (s : State) : s.evaluateSurfaces.work = s.work := by simp only [State.evaluateSurfaces, State.offer]
@[simp] theorem State.evaluateSurfaces_capture (s : State) : s.evaluateSurfaces.capture = s.capture := by simp only [State.evaluateSurfaces, State.offer]
@[simp] theorem State.evaluateSurfaces_purge (s : State) : s.evaluateSurfaces.purge = s.purge := by simp only [State.evaluateSurfaces, State.offer]
@[simp] theorem State.evaluateSurfaces_wet (s : State) : s.evaluateSurfaces.wet = s.wet := by simp only [State.evaluateSurfaces, State.offer]
@[simp] theorem State.evaluateSurfaces_sweep (s : State) : s.evaluateSurfaces.sweep = s.sweep := by simp only [State.evaluateSurfaces, State.offer]
@[simp] theorem State.evaluateSurfaces_outputs (s : State) : s.evaluateSurfaces.outputs = s.outputs := by simp only [State.evaluateSurfaces, State.offer]
@[simp] theorem State.evaluateSurfaces_pending (s : State) : s.evaluateSurfaces.pending = s.pending := by simp only [State.evaluateSurfaces, State.offer]

/-! ### reviseSurfaces -/

@[simp] theorem State.reviseSurfaces_now (s : State) (new : Vector SurfaceRec 16) (cl : Fin 16 → Bool) : (s.reviseSurfaces new cl).now = s.now := rfl
@[simp] theorem State.reviseSurfaces_power (s : State) (new : Vector SurfaceRec 16) (cl : Fin 16 → Bool) : (s.reviseSurfaces new cl).power = s.power := rfl
@[simp] theorem State.reviseSurfaces_link (s : State) (new : Vector SurfaceRec 16) (cl : Fin 16 → Bool) : (s.reviseSurfaces new cl).link = s.link := rfl
@[simp] theorem State.reviseSurfaces_store (s : State) (new : Vector SurfaceRec 16) (cl : Fin 16 → Bool) : (s.reviseSurfaces new cl).store = s.store := rfl
@[simp] theorem State.reviseSurfaces_points (s : State) (new : Vector SurfaceRec 16) (cl : Fin 16 → Bool) : (s.reviseSurfaces new cl).points = s.points := rfl
@[simp] theorem State.reviseSurfaces_work (s : State) (new : Vector SurfaceRec 16) (cl : Fin 16 → Bool) : (s.reviseSurfaces new cl).work = s.work := rfl
@[simp] theorem State.reviseSurfaces_capture (s : State) (new : Vector SurfaceRec 16) (cl : Fin 16 → Bool) : (s.reviseSurfaces new cl).capture = s.capture := rfl
@[simp] theorem State.reviseSurfaces_purge (s : State) (new : Vector SurfaceRec 16) (cl : Fin 16 → Bool) : (s.reviseSurfaces new cl).purge = s.purge := rfl
@[simp] theorem State.reviseSurfaces_surfaces (s : State) (new : Vector SurfaceRec 16) (cl : Fin 16 → Bool) : (s.reviseSurfaces new cl).surfaces = new := rfl
@[simp] theorem State.reviseSurfaces_wet (s : State) (new : Vector SurfaceRec 16) (cl : Fin 16 → Bool) : (s.reviseSurfaces new cl).wet = s.wet := rfl
@[simp] theorem State.reviseSurfaces_sweep (s : State) (new : Vector SurfaceRec 16) (cl : Fin 16 → Bool) : (s.reviseSurfaces new cl).sweep = s.sweep := rfl
@[simp] theorem State.reviseSurfaces_outputs (s : State) (new : Vector SurfaceRec 16) (cl : Fin 16 → Bool) : (s.reviseSurfaces new cl).outputs = s.outputs := rfl
@[simp] theorem State.reviseSurfaces_pending (s : State) (new : Vector SurfaceRec 16) (cl : Fin 16 → Bool) : (s.reviseSurfaces new cl).pending = s.pending := rfl

/-! ### recordPoint -/

@[simp] theorem State.recordPoint_now (s : State) (p : Fin 24) (r : PointRun) : (s.recordPoint p r).now = s.now := rfl
@[simp] theorem State.recordPoint_power (s : State) (p : Fin 24) (r : PointRun) : (s.recordPoint p r).power = s.power := rfl
@[simp] theorem State.recordPoint_link (s : State) (p : Fin 24) (r : PointRun) : (s.recordPoint p r).link = s.link := rfl
@[simp] theorem State.recordPoint_store (s : State) (p : Fin 24) (r : PointRun) : (s.recordPoint p r).store = s.store := rfl
@[simp] theorem State.recordPoint_points (s : State) (p : Fin 24) (r : PointRun) : (s.recordPoint p r).points = s.points.set p { s.points[p] with run := r } := rfl
@[simp] theorem State.recordPoint_work (s : State) (p : Fin 24) (r : PointRun) : (s.recordPoint p r).work = s.work := rfl
@[simp] theorem State.recordPoint_capture (s : State) (p : Fin 24) (r : PointRun) : (s.recordPoint p r).capture = s.capture := rfl
@[simp] theorem State.recordPoint_purge (s : State) (p : Fin 24) (r : PointRun) : (s.recordPoint p r).purge = s.purge := rfl
@[simp] theorem State.recordPoint_surfaces (s : State) (p : Fin 24) (r : PointRun) : (s.recordPoint p r).surfaces = s.surfaces := rfl
@[simp] theorem State.recordPoint_ranking (s : State) (p : Fin 24) (r : PointRun) : (s.recordPoint p r).ranking = s.ranking := rfl
@[simp] theorem State.recordPoint_wet (s : State) (p : Fin 24) (r : PointRun) : (s.recordPoint p r).wet = s.wet := rfl
@[simp] theorem State.recordPoint_sweep (s : State) (p : Fin 24) (r : PointRun) : (s.recordPoint p r).sweep = s.sweep := rfl
@[simp] theorem State.recordPoint_outputs (s : State) (p : Fin 24) (r : PointRun) : (s.recordPoint p r).outputs = s.outputs := rfl
@[simp] theorem State.recordPoint_pending (s : State) (p : Fin 24) (r : PointRun) : (s.recordPoint p r).pending = s.pending := rfl

/-! ### startDebounce -/

@[simp] theorem State.startDebounce_now (s : State) (l : Fin 8) : (s.startDebounce l).now = s.now := rfl
@[simp] theorem State.startDebounce_power (s : State) (l : Fin 8) : (s.startDebounce l).power = s.power := rfl
@[simp] theorem State.startDebounce_link (s : State) (l : Fin 8) : (s.startDebounce l).link = s.link := rfl
@[simp] theorem State.startDebounce_store (s : State) (l : Fin 8) : (s.startDebounce l).store = s.store := rfl
@[simp] theorem State.startDebounce_points (s : State) (l : Fin 8) : (s.startDebounce l).points = s.points := rfl
@[simp] theorem State.startDebounce_work (s : State) (l : Fin 8) : (s.startDebounce l).work = s.work := rfl
@[simp] theorem State.startDebounce_capture (s : State) (l : Fin 8) : (s.startDebounce l).capture = s.capture := rfl
@[simp] theorem State.startDebounce_purge (s : State) (l : Fin 8) : (s.startDebounce l).purge = s.purge := rfl
@[simp] theorem State.startDebounce_surfaces (s : State) (l : Fin 8) : (s.startDebounce l).surfaces = s.surfaces := rfl
@[simp] theorem State.startDebounce_ranking (s : State) (l : Fin 8) : (s.startDebounce l).ranking = s.ranking := rfl
@[simp] theorem State.startDebounce_sweep (s : State) (l : Fin 8) : (s.startDebounce l).sweep = s.sweep := rfl
@[simp] theorem State.startDebounce_notices (s : State) (l : Fin 8) : (s.startDebounce l).notices = s.notices := rfl
@[simp] theorem State.startDebounce_outputs (s : State) (l : Fin 8) : (s.startDebounce l).outputs = s.outputs := rfl
@[simp] theorem State.startDebounce_pending (s : State) (l : Fin 8) : (s.startDebounce l).pending = s.pending := rfl

/-! ### postReply -/

@[simp] theorem State.postReply_now (s : State) (kind : Byte) (a : Answer) : (s.postReply kind a).now = s.now := rfl
@[simp] theorem State.postReply_power (s : State) (kind : Byte) (a : Answer) : (s.postReply kind a).power = s.power := rfl
@[simp] theorem State.postReply_link (s : State) (kind : Byte) (a : Answer) : (s.postReply kind a).link = { s.link with receiver := .answer, buffer := [], reply := some (s.replyFor kind a) } := rfl
@[simp] theorem State.postReply_store (s : State) (kind : Byte) (a : Answer) : (s.postReply kind a).store = s.store := rfl
@[simp] theorem State.postReply_points (s : State) (kind : Byte) (a : Answer) : (s.postReply kind a).points = s.points := rfl
@[simp] theorem State.postReply_work (s : State) (kind : Byte) (a : Answer) : (s.postReply kind a).work = s.work := rfl
@[simp] theorem State.postReply_capture (s : State) (kind : Byte) (a : Answer) : (s.postReply kind a).capture = s.capture := rfl
@[simp] theorem State.postReply_purge (s : State) (kind : Byte) (a : Answer) : (s.postReply kind a).purge = s.purge := rfl
@[simp] theorem State.postReply_surfaces (s : State) (kind : Byte) (a : Answer) : (s.postReply kind a).surfaces = s.surfaces := rfl
@[simp] theorem State.postReply_ranking (s : State) (kind : Byte) (a : Answer) : (s.postReply kind a).ranking = s.ranking := rfl
@[simp] theorem State.postReply_wet (s : State) (kind : Byte) (a : Answer) : (s.postReply kind a).wet = s.wet := rfl
@[simp] theorem State.postReply_sweep (s : State) (kind : Byte) (a : Answer) : (s.postReply kind a).sweep = s.sweep := rfl
@[simp] theorem State.postReply_notices (s : State) (kind : Byte) (a : Answer) : (s.postReply kind a).notices = s.notices := rfl
@[simp] theorem State.postReply_outputs (s : State) (kind : Byte) (a : Answer) : (s.postReply kind a).outputs = s.outputs := rfl
@[simp] theorem State.postReply_pending (s : State) (kind : Byte) (a : Answer) : (s.postReply kind a).pending = s.pending := rfl

/-! ### hunt -/

@[simp] theorem State.hunt_now (s : State) : s.hunt.now = s.now := rfl
@[simp] theorem State.hunt_power (s : State) : s.hunt.power = s.power := rfl
@[simp] theorem State.hunt_link (s : State) : s.hunt.link = { s.link with receiver := .hunt, buffer := [] } := rfl
@[simp] theorem State.hunt_store (s : State) : s.hunt.store = s.store := rfl
@[simp] theorem State.hunt_points (s : State) : s.hunt.points = s.points := rfl
@[simp] theorem State.hunt_work (s : State) : s.hunt.work = s.work := rfl
@[simp] theorem State.hunt_capture (s : State) : s.hunt.capture = s.capture := rfl
@[simp] theorem State.hunt_purge (s : State) : s.hunt.purge = s.purge := rfl
@[simp] theorem State.hunt_surfaces (s : State) : s.hunt.surfaces = s.surfaces := rfl
@[simp] theorem State.hunt_ranking (s : State) : s.hunt.ranking = s.ranking := rfl
@[simp] theorem State.hunt_wet (s : State) : s.hunt.wet = s.wet := rfl
@[simp] theorem State.hunt_sweep (s : State) : s.hunt.sweep = s.sweep := rfl
@[simp] theorem State.hunt_notices (s : State) : s.hunt.notices = s.notices := rfl
@[simp] theorem State.hunt_outputs (s : State) : s.hunt.outputs = s.outputs := rfl
@[simp] theorem State.hunt_pending (s : State) : s.hunt.pending = s.pending := rfl

/-! ### restartBlocks -/

@[simp] theorem State.restartBlocks_now (s : State) : s.restartBlocks.now = s.now := by simp only [State.restartBlocks]
@[simp] theorem State.restartBlocks_power (s : State) : s.restartBlocks.power = s.power := by simp only [State.restartBlocks]
@[simp] theorem State.restartBlocks_link (s : State) : s.restartBlocks.link = s.link := by simp only [State.restartBlocks]
@[simp] theorem State.restartBlocks_store (s : State) : s.restartBlocks.store = s.store := by simp only [State.restartBlocks]
@[simp] theorem State.restartBlocks_work (s : State) : s.restartBlocks.work = s.work := by simp only [State.restartBlocks]
@[simp] theorem State.restartBlocks_capture (s : State) : s.restartBlocks.capture = s.capture.discardAll := by simp only [State.restartBlocks]
@[simp] theorem State.restartBlocks_purge (s : State) : s.restartBlocks.purge = .fresh := by simp only [State.restartBlocks]
@[simp] theorem State.restartBlocks_ranking (s : State) : s.restartBlocks.ranking = .fresh := by simp only [State.restartBlocks]
@[simp] theorem State.restartBlocks_wet (s : State) : s.restartBlocks.wet = s.wet := by simp only [State.restartBlocks]
@[simp] theorem State.restartBlocks_notices (s : State) : s.restartBlocks.notices = .fresh := by simp only [State.restartBlocks]
@[simp] theorem State.restartBlocks_outputs (s : State) : s.restartBlocks.outputs = Vector.replicate 2 .fresh := by simp only [State.restartBlocks]
@[simp] theorem State.restartBlocks_pending (s : State) : s.restartBlocks.pending = s.pending := by simp only [State.restartBlocks]

/-! ### hold -/

@[simp] theorem State.hold_now (s : State) : s.hold.now = s.now := rfl
@[simp] theorem State.hold_power (s : State) : s.hold.power = .held := rfl
@[simp] theorem State.hold_link (s : State) : s.hold.link = s.link := rfl
@[simp] theorem State.hold_store (s : State) : s.hold.store = s.store.cutSave := rfl
@[simp] theorem State.hold_points (s : State) : s.hold.points = s.points := rfl
@[simp] theorem State.hold_work (s : State) : s.hold.work = s.work := rfl
@[simp] theorem State.hold_capture (s : State) : s.hold.capture = s.capture := rfl
@[simp] theorem State.hold_surfaces (s : State) : s.hold.surfaces = s.surfaces := rfl
@[simp] theorem State.hold_ranking (s : State) : s.hold.ranking = s.ranking := rfl
@[simp] theorem State.hold_wet (s : State) : s.hold.wet = s.wet := rfl
@[simp] theorem State.hold_sweep (s : State) : s.hold.sweep = s.sweep := rfl
@[simp] theorem State.hold_notices (s : State) : s.hold.notices = s.notices := rfl
@[simp] theorem State.hold_outputs (s : State) : s.hold.outputs = s.outputs := rfl
@[simp] theorem State.hold_pending (s : State) : s.hold.pending = s.pending := rfl

end Sys2Proof.Machine
end

