-- ==== Sys2Proof/Laws/Ops.lean ====
section
/-! SUPPORT. For each shared operation, one lemma that says everything it can do, or everything it leaves alone. Later proofs
cite these and unfold no operation of Machine/. -/

namespace Sys2Proof.Machine

/-! ### Numbers, timers, qualifiers -/

theorem limitNat_bounds {lo hi : Nat} (h : lo ≤ hi) (x : Nat) : lo ≤ limitNat lo hi x ∧ limitNat lo hi x ≤ hi := by
  unfold limitNat; omega

theorem limitNat_of_mem {lo hi x : Nat} (h₁ : lo ≤ x) (h₂ : x ≤ hi) : limitNat lo hi x = x := by
  unfold limitNat; omega

theorem limitInt_bounds {lo hi : Int} (h : lo ≤ hi) (x : Int) : lo ≤ limitInt lo hi x ∧ limitInt lo hi x ≤ hi := by
  unfold limitInt; omega

theorem limitInt_of_mem {lo hi x : Int} (h₁ : lo ≤ x) (h₂ : x ≤ hi) : limitInt lo hi x = x := by
  unfold limitInt; omega

@[simp] theorem startTimer_zero (now unit : Nat) : startTimer now 0 unit = none := rfl

theorem startTimer_pos {now n unit : Nat} (h : n ≠ 0) : startTimer now n unit = some (now + n * unit) := by
  simp [startTimer, h]

@[simp] theorem remaining_none (now unit : Nat) : remaining now none unit = 0 := rfl

/-- R1: a rounded quotient lies within half a unit of the exact one. -/
theorem roundDiv_spec {b : Int} (h : 0 < b) (a : Int) :
    2 * b * roundDiv a b ≤ 2 * a + b ∧ 2 * a + b < 2 * b * roundDiv a b + 2 * b := by
  have h2 : 0 < 2 * b := by omega
  unfold roundDiv
  constructor
  · exact Int.mul_ediv_self_le (by omega)
  · have := Int.lt_mul_ediv_self_add (x := 2 * a + b) h2
    linarith

/-! ### Images -/

@[simp] theorem Image.seal_image (i : Image) : i.seal.image = i := rfl
@[simp] theorem Image.seal_crc (i : Image) : i.seal.crc = crc16 i.bytes := rfl

/-- A value read back with some bits flipped is the one stored exactly when none is. -/
theorem eq_xor_iff (c f : BitVec 16) : c = c ^^^ f ↔ f = 0 := by
  constructor
  · intro h
    have h' : c ^^^ c = c ^^^ (c ^^^ f) := congrArg (c ^^^ ·) h
    rw [← BitVec.xor_assoc, BitVec.xor_self, BitVec.zero_xor] at h'
    exact h'.symm
  · rintro rfl
    exact BitVec.xor_zero.symm

/-- R165, R169: an image followed by its own CRC passes its check exactly when no bit of the CRC reads back wrong. -/
theorem Image.seal_passes (i : Image) (flips : BitVec 16) : i.seal.passes flips = true ↔ flips = 0 := by
  rw [SavedImage.passes, decide_eq_true_iff]
  simp only [Image.seal]
  exact eq_xor_iff _ _

/-! ### The notice queue -/

/-- R136: an arrival joins the tail of a list that has room, and is discarded by a full one. -/
theorem NoticeQueue.arrive_cases (q : NoticeQueue) (n : Notice) :
    (q.list.length < 32 ∧ q.arrive n = { q with list := q.list ++ [n] })
      ∨ (32 ≤ q.list.length ∧ q.arrive n = { q with overflow := true }) := by
  unfold NoticeQueue.arrive
  by_cases h : q.list.length < 32
  · exact .inl ⟨h, by simp [h]⟩
  · exact .inr ⟨by omega, by simp [h]⟩

theorem NoticeQueue.arrive_length_le {q : NoticeQueue} (h : q.list.length ≤ 32) (n : Notice) :
    (q.arrive n).list.length ≤ 32 := by
  obtain ⟨h', e⟩ | ⟨-, e⟩ := q.arrive_cases n <;> rw [e]
  · simpa using h'
  · exact h

/-! ### Level filters -/

theorem LineFilter.le_endsAt (f : LineFilter) (now : Nat) (v : PinLevel) (n : Nat) : now ≤ f.endsAt now v n :=
  Nat.le_max_left _ _

theorem LineFilter.taken_le (f : LineFilter) (now : Nat) (v : PinLevel) (n : Nat) : f.taken now v n ≤ n :=
  Nat.min_le_left _ _

theorem LineFilter.carried_le (f : LineFilter) (now : Nat) (v : PinLevel) (n : Nat) : f.carried now v n ≤ f.differing := by
  unfold LineFilter.carried LineFilter.running
  split
  · split <;> simp
  · exact Nat.zero_le _

/-- R79: the ticks a filter counts as differing lie between the latest sample of before and the tick the report ends at. -/
theorem LineFilter.counted_le (f : LineFilter) (now : Nat) (v : PinLevel) (n : Nat) :
    f.carried now v n + f.taken now v n ≤ f.differing + (f.endsAt now v n - f.sampledAt) := by
  have := f.carried_le now v n
  have : f.sampledAt + f.gap now v n + f.taken now v n ≤ f.endsAt now v n := Nat.le_max_right _ _
  omega

/-- R79: a filter after a report either stands settled at the level reported, which it had or took by 25 differing ticks, or
keeps its level with fewer of them counted. -/
theorem LineFilter.sample_cases (f : LineFilter) (now : Nat) (v : PinLevel) (n : Nat) :
    (f.sample now v n).sampledAt = f.endsAt now v n ∧ (f.sample now v n).sampled = v
      ∧ (((f.level = v ∨ f.changes now v n = true) ∧ (f.sample now v n).level = v ∧ (f.sample now v n).differing = 0)
        ∨ (f.level ≠ v ∧ f.carried now v n + f.taken now v n < 25 ∧ (f.sample now v n).level = f.level
            ∧ (f.sample now v n).differing = f.carried now v n + f.taken now v n)) := by
  unfold LineFilter.sample
  by_cases h : f.level = v
  · simp [h]
  · by_cases h' : Config.filterTicks ≤ f.carried now v n + f.taken now v n
    · simp [h, h', LineFilter.changes]
    · have : f.carried now v n + f.taken now v n < 25 := by simpa [Config.filterTicks] using h'
      simp [h, h', LineFilter.changes, this]

/-! ### Link -/

theorem State.answer_of_takes {s : State} (h : s.takesOwn = true) (kind : Byte) (f : State → State × Answer) :
    s.answer kind f = (f s).1.postReply kind (f s).2 := by
  simp [State.answer, h]

theorem State.answer_of_not {s : State} (h : s.takesOwn = false) (kind : Byte) (f : State → State × Answer) :
    s.answer kind f = s := by
  simp [State.answer, h]

theorem State.broadcast_of_receives {s : State} (h : s.receives = true) (f : State → State × Answer) :
    s.broadcast f = (f s).1.hunt := by
  simp [State.broadcast, h]

theorem State.broadcast_of_not {s : State} (h : s.receives = false) (f : State → State × Answer) :
    s.broadcast f = s := by
  simp [State.broadcast, h]

/-- R152, R153, R155: when a request under the part's own address is taken. -/
theorem State.takesOwn_iff (s : State) :
    s.takesOwn = true ↔ s.power = .running ∧ s.link.receiver ≠ .answer ∧ s.link.address ≠ 0 := by
  simp [State.takesOwn, State.receives, and_assoc]

/-! ### Sweeps -/

/-- R83, R89: settling gives the waiting jobs, and completes a sweep that has none left. -/
theorem State.settle_cases (s : State) :
    (s.settle = s.giveJobs.completeSweep ∧ s.sweep.inFlight = true ∧ s.giveJobs.capture.allEnded = true)
      ∨ (s.settle = s.giveJobs ∧ (s.sweep.inFlight = false ∨ s.giveJobs.capture.allEnded = false)) := by
  unfold State.settle
  by_cases h : s.sweep.inFlight = true <;> by_cases h' : s.giveJobs.capture.allEnded = true <;> simp_all

/-- R134: a snapshot touches the buffer, its marks and the notice queue. -/
theorem State.takeSnapshot_keeps (s : State) :
    s.takeSnapshot.now = s.now ∧ s.takeSnapshot.power = s.power ∧ s.takeSnapshot.link = s.link
      ∧ s.takeSnapshot.store = s.store ∧ s.takeSnapshot.points = s.points ∧ s.takeSnapshot.work = s.work
      ∧ s.takeSnapshot.capture = s.capture ∧ s.takeSnapshot.purge = s.purge ∧ s.takeSnapshot.surfaces = s.surfaces
      ∧ s.takeSnapshot.ranking = s.ranking ∧ s.takeSnapshot.wet = s.wet ∧ s.takeSnapshot.outputs = s.outputs
      ∧ s.takeSnapshot.pending = s.pending := by
  unfold State.takeSnapshot
  split <;> simp

/-- R131: what a completion leaves alone. -/
theorem State.completeSweep_keeps (s : State) :
    s.completeSweep.now = s.now ∧ s.completeSweep.power = s.power ∧ s.completeSweep.link = s.link
      ∧ s.completeSweep.store = s.store ∧ s.completeSweep.points = s.points ∧ s.completeSweep.work = s.work
      ∧ s.completeSweep.capture = s.capture ∧ s.completeSweep.purge = s.purge ∧ s.completeSweep.wet = s.wet
      ∧ s.completeSweep.pending = s.pending := by
  simp [State.completeSweep, State.takeSnapshot_keeps]

/-- R83, R89: what settling leaves alone. -/
theorem State.settle_keeps (s : State) :
    s.settle.now = s.now ∧ s.settle.power = s.power ∧ s.settle.link = s.link ∧ s.settle.store = s.store
      ∧ s.settle.points = s.points ∧ s.settle.work = s.work ∧ s.settle.purge = s.purge ∧ s.settle.wet = s.wet
      ∧ s.settle.pending = s.pending := by
  obtain ⟨e, -⟩ | ⟨e, -⟩ := s.settle_cases <;> simp [e, State.completeSweep_keeps]

/-! ### Purges -/

/-- R99: a grant is made to the head entry when one is free; otherwise nothing happens. -/
theorem State.serveOne_cases (s : State) :
    (∃ e rest, s.purge.queue = e :: rest ∧ s.purge.grants.length < 2
        ∧ s.serveOne = State.grant { s with purge := { s.purge with queue := rest } } e)
      ∨ ((s.purge.queue = [] ∨ 2 ≤ s.purge.grants.length) ∧ s.serveOne = (s, [])) := by
  unfold State.serveOne
  cases hq : s.purge.queue with
  | nil => exact .inr ⟨.inl rfl, rfl⟩
  | cons e rest =>
    by_cases h : s.purge.grants.length < 2
    · exact .inl ⟨e, rest, rfl, h, by simp [h]⟩
    · exact .inr ⟨.inr (by omega), by simp [h]⟩

/-- R99: what one grant leaves alone. -/
theorem State.serveOne_keeps (s : State) :
    s.serveOne.1.now = s.now ∧ s.serveOne.1.power = s.power ∧ s.serveOne.1.link = s.link
      ∧ s.serveOne.1.store = s.store ∧ s.serveOne.1.work = s.work ∧ s.serveOne.1.surfaces = s.surfaces
      ∧ s.serveOne.1.ranking = s.ranking ∧ s.serveOne.1.wet = s.wet ∧ s.serveOne.1.sweep = s.sweep
      ∧ s.serveOne.1.notices = s.notices ∧ s.serveOne.1.outputs = s.outputs ∧ s.serveOne.1.pending = s.pending := by
  obtain ⟨e, rest, -, -, h⟩ | ⟨-, h⟩ := s.serveOne_cases <;> simp [h, State.grant]

/-- R99: what serving the purge queue leaves alone. -/
theorem State.serve_keeps (s : State) :
    s.serve.1.now = s.now ∧ s.serve.1.power = s.power ∧ s.serve.1.link = s.link ∧ s.serve.1.store = s.store
      ∧ s.serve.1.work = s.work ∧ s.serve.1.surfaces = s.surfaces ∧ s.serve.1.ranking = s.ranking
      ∧ s.serve.1.wet = s.wet ∧ s.serve.1.sweep = s.sweep ∧ s.serve.1.notices = s.notices
      ∧ s.serve.1.outputs = s.outputs ∧ s.serve.1.pending = s.pending := by
  simp [State.serve, State.serveOne_keeps]

/-- R96, R106: what an arrival at the purge queue leaves alone. -/
theorem State.arrivePurge_keeps (s : State) (p : Fin 24) (o : PurgeOrigin) :
    (s.arrivePurge p o).now = s.now ∧ (s.arrivePurge p o).power = s.power ∧ (s.arrivePurge p o).link = s.link
      ∧ (s.arrivePurge p o).store = s.store ∧ (s.arrivePurge p o).work = s.work
      ∧ (s.arrivePurge p o).surfaces = s.surfaces ∧ (s.arrivePurge p o).ranking = s.ranking
      ∧ (s.arrivePurge p o).wet = s.wet ∧ (s.arrivePurge p o).sweep = s.sweep
      ∧ (s.arrivePurge p o).outputs = s.outputs ∧ (s.arrivePurge p o).pending = s.pending := by
  simp [State.arrivePurge, State.serve_keeps]

/-- R60: what the conversion of a point leaves alone. -/
theorem State.convert_keeps (s : State) (p : Fin 24) :
    (s.convert p).now = s.now ∧ (s.convert p).power = s.power ∧ (s.convert p).link = s.link
      ∧ (s.convert p).store = s.store ∧ (s.convert p).work = s.work ∧ (s.convert p).surfaces = s.surfaces
      ∧ (s.convert p).ranking = s.ranking ∧ (s.convert p).wet = s.wet ∧ (s.convert p).sweep = s.sweep
      ∧ (s.convert p).outputs = s.outputs ∧ (s.convert p).pending = s.pending := by
  simp only [State.convert]
  repeat' split
  all_goals simp [State.arrivePurge_keeps]

/-- R71, R72, R108: what the adoption of the points leaves alone. -/
theorem State.adoptPoints_keeps (s : State) :
    s.adoptPoints.now = s.now ∧ s.adoptPoints.power = s.power ∧ s.adoptPoints.link = s.link
      ∧ s.adoptPoints.store = s.store ∧ s.adoptPoints.surfaces = s.surfaces ∧ s.adoptPoints.ranking = s.ranking
      ∧ s.adoptPoints.wet = s.wet ∧ s.adoptPoints.sweep = s.sweep ∧ s.adoptPoints.outputs = s.outputs
      ∧ s.adoptPoints.pending = s.pending := by
  simp [State.adoptPoints, State.serve_keeps]

/-! ### Surfaces and wet lines -/

/-- R41, R43, R46: a latch event revises the surfaces, and the outputs follow it. -/
theorem State.latchEvent_cases (s : State) (f : SurfaceRec → SurfaceRec) :
    s.latchEvent f = (s.reviseSurfaces (Vector.ofFn fun i => f s.surfaces[i]) fun _ => false).evalOutputs
      ∨ s.latchEvent f = s.reviseSurfaces (Vector.ofFn fun i => f s.surfaces[i]) fun _ => false := by
  simp only [State.latchEvent]
  split
  · exact .inl rfl
  · exact .inr rfl

/-- R41, R43: what a latch event leaves alone. -/
theorem State.latchEvent_keeps (s : State) (f : SurfaceRec → SurfaceRec) :
    (s.latchEvent f).now = s.now ∧ (s.latchEvent f).power = s.power ∧ (s.latchEvent f).link = s.link
      ∧ (s.latchEvent f).store = s.store ∧ (s.latchEvent f).points = s.points ∧ (s.latchEvent f).work = s.work
      ∧ (s.latchEvent f).capture = s.capture ∧ (s.latchEvent f).purge = s.purge ∧ (s.latchEvent f).wet = s.wet
      ∧ (s.latchEvent f).sweep = s.sweep ∧ (s.latchEvent f).pending = s.pending
      ∧ (s.latchEvent f).surfaces = Vector.ofFn fun i => f s.surfaces[i] := by
  obtain e | e := s.latchEvent_cases f <;> simp [e]

/-- R25: what the adoption of the surfaces leaves alone. -/
theorem State.adoptSurfaces_keeps (s : State) :
    s.adoptSurfaces.now = s.now ∧ s.adoptSurfaces.power = s.power ∧ s.adoptSurfaces.link = s.link
      ∧ s.adoptSurfaces.store = s.store ∧ s.adoptSurfaces.points = s.points ∧ s.adoptSurfaces.work = s.work
      ∧ s.adoptSurfaces.capture = s.capture ∧ s.adoptSurfaces.purge = s.purge ∧ s.adoptSurfaces.wet = s.wet
      ∧ s.adoptSurfaces.sweep = s.sweep ∧ s.adoptSurfaces.pending = s.pending := by
  simp only [State.adoptSurfaces]
  split <;> simp

/-- R115, R117: what the clearing of a latch leaves alone. -/
theorem State.clearLatch_keeps (s : State) (l : Fin 8) :
    (s.clearLatch l).now = s.now ∧ (s.clearLatch l).power = s.power ∧ (s.clearLatch l).link = s.link
      ∧ (s.clearLatch l).store = s.store ∧ (s.clearLatch l).points = s.points ∧ (s.clearLatch l).work = s.work
      ∧ (s.clearLatch l).capture = s.capture ∧ (s.clearLatch l).purge = s.purge
      ∧ (s.clearLatch l).sweep = s.sweep ∧ (s.clearLatch l).pending = s.pending := by
  unfold State.clearLatch
  split
  · simp [State.latchEvent_keeps]
  · simp

/-! ### Sweep starts -/

/-- R130: what a sweep start leaves alone. -/
theorem State.startSweep_keeps (s : State) :
    s.startSweep.now = s.now ∧ s.startSweep.power = s.power ∧ s.startSweep.link = s.link
      ∧ s.startSweep.store = s.store ∧ s.startSweep.wet = s.wet ∧ s.startSweep.pending = s.pending := by
  simp only [State.startSweep]
  simp [State.settle_keeps, State.adoptSurfaces_keeps, State.adoptPoints_keeps]

/-- R88: what the end of a job leaves alone. -/
theorem State.endJob_keeps (s : State) (k : Fin 4) (j : Job) (o : JobOutcome) :
    (s.endJob k j o).now = s.now ∧ (s.endJob k j o).power = s.power ∧ (s.endJob k j o).link = s.link
      ∧ (s.endJob k j o).store = s.store ∧ (s.endJob k j o).work = s.work ∧ (s.endJob k j o).wet = s.wet
      ∧ (s.endJob k j o).pending = s.pending := by
  simp only [State.endJob]
  split <;> simp [State.settle_keeps, State.convert_keeps]

/-- R84, R85: a rising edge starts a job, counts a period, ends a job, or is none of its unit's. -/
theorem State.risingEdge_cases (s : State) (port : Fin 24) (line : PinLine) (rests : Bool) :
    s.risingEdge port line rests = s
      ∨ (∃ k j taken w, s.capture.units[k] = .armed j taken w ∧ taken < s.now ∧ s.now ≤ w ∧ rests = false
          ∧ s.risingEdge port line rests = s.setUnit k (.counting j w 0 0 0))
      ∨ (∃ k j w periods total high, s.capture.units[k] = .counting j w periods total high ∧ s.now ≤ w
          ∧ periods + 1 < j.n ∧ s.risingEdge port line rests = s.setUnit k (.counting j w (periods + 1) total high))
      ∨ (∃ k j w periods total high, s.capture.units[k] = .counting j w periods total high ∧ s.now ≤ w
          ∧ j.n ≤ periods + 1 ∧ s.risingEdge port line rests = s.endJob k j (closedOutcome j total high)) := by
  unfold State.risingEdge
  split
  · exact .inl rfl
  · rename_i k _
    split
    · exact .inl rfl
    · rename_i j taken w h
      split
      · exact .inr (.inl ⟨k, j, taken, w, h, by simp_all⟩)
      · exact .inl rfl
    · rename_i j w periods total high h
      split
      · exact .inl rfl
      · split
        · exact .inr (.inr (.inl ⟨k, j, w, periods, total, high, h, by omega, by assumption, rfl⟩))
        · exact .inr (.inr (.inr ⟨k, j, w, periods, total, high, h, by omega, by omega, rfl⟩))

/-- R84: what a rising edge leaves alone. -/
theorem State.risingEdge_keeps (s : State) (port : Fin 24) (line : PinLine) (rests : Bool) :
    (s.risingEdge port line rests).now = s.now ∧ (s.risingEdge port line rests).power = s.power
      ∧ (s.risingEdge port line rests).link = s.link ∧ (s.risingEdge port line rests).store = s.store
      ∧ (s.risingEdge port line rests).work = s.work ∧ (s.risingEdge port line rests).wet = s.wet
      ∧ (s.risingEdge port line rests).pending = s.pending := by
  obtain e | ⟨_, _, _, _, _, _, _, _, e⟩ | ⟨_, _, _, _, _, _, _, _, _, e⟩ | ⟨_, _, _, _, _, _, _, _, _, e⟩ :=
    s.risingEdge_cases port line rests <;> simp [e, State.endJob_keeps]

/-- R79, R84: what the samples of a line leave alone. The clock stands at the tick they end at. -/
theorem State.sampleLine_keeps (s : State) (port : Fin 24) (line : PinLine) (v : PinLevel) (n : Nat) :
    (s.sampleLine port line v n).now = (s.capture.filter line port).endsAt s.now v n
      ∧ (s.sampleLine port line v n).power = s.power ∧ (s.sampleLine port line v n).link = s.link
      ∧ (s.sampleLine port line v n).store = s.store ∧ (s.sampleLine port line v n).work = s.work
      ∧ (s.sampleLine port line v n).wet = s.wet ∧ (s.sampleLine port line v n).pending = s.pending := by
  have := (s.capture.filter line port).le_endsAt s.now v n
  simp only [State.sampleLine]
  split <;> simp [State.risingEdge_keeps] <;> omega


end Sys2Proof.Machine
end

