-- ==== Sys2Proof/Tests/Slice0.lean ====
section
/-! SUPPORT. Tests of the model on the manual's worked cases and tables, the ill-formed commands that each check of WellFormed
refuses, and for each statement with hypotheses a concrete state and operands that meet them. Expected values come from the
section of spec/ that each test names. A statement whose hypotheses are only that the part takes requests, receives or runs is
met by `State.reset`: witness_part_takes_requests, witness_request_frame, witness_idle_step. -/

namespace Sys2Proof.Tests

open Sys2Proof Sys2Proof.Machine

/-! ### Ill-formed commands -/

theorem test_payload_too_long : (Instr.ident (List.replicate 49 0)).wellFormed = false := by decide

theorem test_sweep_payload_too_long : (Instr.sweepRun .own (List.replicate 48 0)).wellFormed = false := by decide

theorem test_known_kind_is_not_unknown : (Instr.unknownKind 0x32 []).wellFormed = false := by decide

theorem test_counts_no_filtered_line_gives : (Instr.captureJobComplete 0 .f 49 25).wellFormed = false := by decide

theorem test_run_without_a_tick : (Instr.filteredLevelChange 0 .d ⟨.low, 0⟩).wellFormed = false := by decide

theorem test_more_ticks_than_a_filter_takes : (Instr.filteredLevelChange 0 .d ⟨.low, 26⟩).wellFormed = false := by decide

/-! ### Arithmetic: Table 1-1, Sections 1.6, 1.7, 3.8, 4.9 and R154 -/

theorem test_rounding : [roundDiv 121 2, roundDiv 13125 2, roundDiv (-1) 2, roundDiv (-5) 2, roundDiv (-26) 10]
    = [61, 6563, 0, -2, -3] := by decide

/-- 1.6.1, 1.6.2, 1.6.5, 1.6.7, 1.6.8. -/
theorem test_dew_points :
    [dewPoint 2250 5500 {}, dewPoint 2300 5600 {}, dewPoint 6000 5000 {}, dewPoint 2250 10000 { saturated := true },
      dewPoint (-997) 10000 {}]
      = [⟨2250, 1497, 1299, {}⟩, ⟨2300, 1572, 1376, {}⟩, ⟨5000, 6173, 3671, { clamped := true }⟩,
         ⟨2250, 2722, 2250, { saturated := true }⟩, ⟨-997, 288, -997, {}⟩] := by decide

/-- 1.6.3, 1.6.4, 1.6.6. -/
theorem test_dew_points_at_the_table_ends :
    [dewPoint 500 3000 {}, dewPoint (-1200) 4000 {}, dewPoint 5000 10000 {}]
      = [⟨500, 262, -1000, { lowDew := true }⟩, ⟨-1000, 115, -1000, { clamped := true, lowDew := true }⟩,
         ⟨5000, 12345, 5000, {}⟩] := by decide

/-- The members of 1.7.1. -/
def s3Members : List Contribution := [⟨3, 1299, {}⟩, ⟨1, 1376, {}⟩]

theorem test_combinations : [CombineMode.worst, .first, .mean].map (fun m => combine m s3Members)
    = [some (1376, {}), some (1299, {}), some (1318, {})] := by decide

/-- 4.9.3: the raw RH, whether it is in band and the measured RH. -/
theorem test_rh_band :
    [28400, 28500, 29999, 36001, 37500, 37501].map (fun c =>
        (rawRh { kind := .air, cDry := 30000, cWet := 36000, tOffset := 0 } c,
          rhInBand (rawRh { kind := .air, cDry := 30000, cWet := 36000, tOffset := 0 } c)))
      = [(-2667, false), (-2500, true), (-2, true), (10002, true), (12500, true), (12502, false)] := by decide

/-- 4.9.2 and R86 with each divisor. -/
theorem test_temperature_and_normalising :
    temperature { kind := .surface, cDry := 30000, cWet := 36000, tOffset := 0 } 16000 7000 = 1563
      ∧ normalise64 8325 16 = 33300 ∧ normalise64 133201 256 = 33300 ∧ normalise64 133202 256 = 33301 := by decide

/-- R87: exactly 2 % and 98 % are good. -/
theorem test_duty_limits : [dutyBad 18000 359, dutyBad 18000 360, dutyBad 18000 17640, dutyBad 18000 17641]
    = [true, false, false, true] := by decide

/-- The configuration of S3 in 3.8.1. -/
def s3Cfg : SurfaceCfg :=
  { SurfaceCfg.factory with watch := 500, alarm := 200, hysteresis := 50, riseCount := 2, fallCount := 4 }

/-- 3.8.1, steps 1 to 5: state and runs. -/
theorem test_rising_steps :
    [[480], [480, 470], [480, 470, 190], [480, 470, 190, -5], [480, 470, 190, -5, 30]].map (fun ms =>
        let r := ms.foldl (SurfaceRun.judge s3Cfg) (.cleared .dry)
        (r.state, r.riseRun, r.fallRun))
      = [(.dry, 1, 0), (.watch, 0, 0), (.watch, 1, 0), (.dew, 0, 0), (.dew, 0, 0)] := by decide

/-- 3.8.1, steps 6 to 10. -/
theorem test_falling_steps :
    [[60], [60, 60], [60, 60, 60], [60, 60, 60, 60], [60, 60, 60, 60, 220]].map (fun ms =>
        let r := ms.foldl (SurfaceRun.judge s3Cfg) (.cleared .dew)
        (r.state, r.riseRun, r.fallRun))
      = [(.dew, 0, 1), (.dew, 0, 2), (.dew, 0, 3), (.near, 0, 0), (.near, 0, 0)] := by decide

/-- 3.8.3: the forecasts of sweeps 107 to 111, and of a margin that has reached 0. -/
theorem test_forecasts :
    [forecastOf [520, 500, 470, 450, 420, 400, 370], forecastOf [520, 500, 470, 450, 420, 400, 370, 350],
      forecastOf [470, 450, 420, 400, 370, 350, 320, 290], forecastOf [450, 420, 400, 370, 350, 320, 290, 300],
      forecastOf [5, 4, 4, 4, 4, 4, 4, 4], forecastOf [4, 4, 4, 4, 4, 4, 4, 5], forecastOf [9, 8, 7, 6, 5, 4, 3, 0]]
      = [none, some 15, some 12, some 14, some 28, none, some 0] := by decide

/-- R154: the CRC of the digits 1 to 9. -/
theorem test_crc : crc16 [0x31, 0x32, 0x33, 0x34, 0x35, 0x36, 0x37, 0x38, 0x39] = 0x29B1 := by decide +kernel

/-- Table 7-3 at its limits, and Table 10-1. -/
theorem test_resistances_and_bit_rates :
    [classify 39999, classify 40000, classify 400000, classify 400001] = [.wet, .dry, .dry, .openTape]
      ∧ [bitRateOf false false, bitRateOf false true, bitRateOf true false, bitRateOf true true]
        = [19200, 9600, 38400, 19200] := by decide

/-! ### One command on a small state -/

/-- The state a command answers. -/
def ran (c : Instr) (s : State) : State :=
  match exec c s with
  | .next t => t
  | .fault _ => s
  | .refused _ => s

/-- The status and the payload of the reply a request is given. -/
def reply (c : Instr) (s : State) : Option (Status × List Byte) :=
  (ran c s).link.reply.map fun r => (r.status, r.payload)

/-- R160, with the address of assumption 2. -/
theorem test_ident : reply (.ident []) .reset = some (.ok, [0x55, 0x24, 0x16, 1, 1, 24, 16, 8, 2]) := by decide

/-- Table 11-1, through GLOBAL_READ and Table 10-9. -/
theorem test_global_read : reply (.globalRead []) .reset = some (.ok, [2, 0, 64, 4, 0, 250, 3, 3, 75, 0, 60, 0, 180]) := by
  decide

/-- R159: NV_FAULT and DIRTY stand in summary byte 2, and the STARTUP notice is counted. -/
theorem test_summary_after_reset :
    (ran (.ident []) .reset).link.reply.map Reply.summary = some [1, 0x0C, 0, 0] := by decide

/-- R137, R138, Table 10-12: the STARTUP notice, cause power-on, factory defaults. -/
theorem test_notice_read : reply (.noticeRead [0]) .reset
    = some (.okAdjusted, [1, 1, 0, 1, 0, 0, 1, 0, 1, 0, 0, 0, 0, 0, 0, 0]) := by decide

/-- R76: c_dry 500 is limited to 1000, and the record is echoed. -/
theorem test_point_write_limits :
    reply (.pointWrite [2, 1, 0x01, 0xF4, 0x8C, 0xA0, 0xFE, 0x0B]) .reset
      = some (.okAdjusted, [2, 1, 0x03, 0xE8, 0x8C, 0xA0, 0xFE, 0x0C]) := by decide

/-- R33: alarm is limited to watch as limited. -/
theorem test_surface_write_limits_alarm :
    (reply (.surfaceWrite
      [3, 1, 9, 2, 2, 3, 5, 1, 0, 0, 0, 0, 1, 0, 20, 0, 200, 0, 50, 2, 4, 3, 1, 2, 12]) .reset).map
        (fun r => (r.1, (r.2.drop 12).take 5))
      = some (.okAdjusted, [1, 0, 50, 0, 50]) := by decide

/-- R127, R81, R130: with every point OFF a sweep completes in its start event. -/
theorem test_empty_sweep_completes :
    (ran (.sweepOnce .own [0, 0]) .reset).sweep.inFlight = false
      ∧ (ran (.sweepOnce .own [0, 0]) .reset).sweep.number = 1
      ∧ (ran (.sweepOnce .own [0, 0]) .reset).ranking = { sweep := 1, entries := [] } := by decide

/-- R128: an interval of 1 s is limited to 2 s and held pending. -/
theorem test_sweep_interval :
    reply (.sweepInterval .own [0, 1]) .reset = some (.okAdjusted, [0, 0, 10, 0, 2, 0, 0, 0, 0, 0]) := by decide

/-- R111, R117, R118: a line newly enabled starts its debounce. -/
theorem test_wetline_write :
    ((ran (.wetlineWrite [1, 0, 0, 0, 0, 0, 0, 0, 0, 4]) .reset).wet[0]).timer = some 2000000 := by decide

/-- R150, R143, R144: OUT_B with every surface UNUSED has no demand and stays OFF. -/
theorem test_output_read :
    reply (.outputRead [1]) .reset = some (.ok, [1, 0, 0, 4, 1, 0, 0, 0, 0, 1, 0, 0, 0, 0, 0, 0, 0, 0]) := by decide

/-- R166, R167: a verified SAVE clears DIRTY and NV_FAULT and fills the nonvolatile memory. -/
theorem test_save :
    let s := ran (.saveComplete true) (ran (.save []) .reset)
    s.store.dirty = false ∧ s.store.nvFault = false ∧ s.store.nv.isSome = true
      ∧ s.notices.list.getLast? = some ⟨.saved, 0, 0, 0, 0, 0, {}⟩ := by decide

/-- Start-up inputs: address 5, 38400 bits per second, every tape at its termination of 100 kΩ. -/
def pins : StartPins := { adr := 5, baud1 := true, baud0 := false, sense := Vector.replicate 8 100000, nvFlips := 0 }

/-- R165, R169: a saved image is started on, and not when a bit of its stored CRC reads back wrong. -/
theorem test_start_image (i : Image) :
    (({ State.reset.store with nv := some i.seal }).startImage pins = some i)
      ∧ ({ State.reset.store with nv := some i.seal }).startImage { pins with nvFlips := 1 } = none := by
  simp [Store.startImage, Image.seal_passes, Image.seal_image, pins]

/-- R169: supply returning while RESETn is low leaves the part held, and the release starts it. -/
theorem test_supply_returns_under_reset :
    let s := ran (.powerOn pins) (ran .resetPinAssert (ran .powerLoss .reset))
    s.power = .held ∧ (ran (.resetPinRelease pins) s).notices.list = [⟨.startup, 0, 2, 1, 0, 0, {}⟩] := by decide

/-- R148, R169: while RESETn is held both pins release their drivers; running, OUT_B energises its own when off. -/
theorem test_outputs_while_held :
    State.reset.outDrive 1 = true ∧ (ran .resetPinAssert .reset).outDrive 1 = false := by decide

/-- R153, R154, R155: the bytes of an IDENT frame to address 1 are answered. -/
theorem test_ident_frame :
    ((State.reset.receiveAll (requestFrame 1 0x01 [])).link.reply.map Reply.status) = some .ok := by
  decide +kernel

/-- R153: a length byte of 49 abandons the frame. -/
theorem test_length_abandons :
    (State.reset.receiveAll [0xC3, 1, 1, 49]).link.receiver = .hunt
      ∧ (State.reset.receiveAll [0xC3, 1, 1, 48]).link.receiver = .frame := by decide

/-! ### Witnesses: the machine and the line -/

/-- A part with one command waiting. -/
def oneWaiting : State := { State.reset with pending := [.secondsCount] }

/-- A part with a SAVE in flight. -/
def saving : State := { State.reset with store := { State.reset.store with saving := some .factory } }

/-- A part with a reply waiting. -/
def answering : State := State.reset.postReply 0x01 { status := .ok, payload := [] }

/-- A part whose reply is being sent. -/
def sending : State := { answering with link := answering.link.startReply }

/-- A part that has collected the given bytes of a frame. -/
def collecting (bs : List Byte) : State :=
  { State.reset with link := { State.reset.link with receiver := .frame, buffer := bs } }

theorem witness_step : oneWaiting.pending = [.secondsCount] := rfl

theorem witness_idle_step : State.reset.pending = [] ∧ State.reset.power = .running := by decide

theorem witness_part_takes_requests : State.reset.takesOwn = true := by decide

theorem witness_summary : State.reset.notices.list.length ≤ 32 := by decide

theorem witness_wrong_length :
    ownRequest (.save [0]) = some (0x30, [0]) ∧ requestLength 0x30 = some 0 ∧ [(0 : Byte)].length ≠ 0
      ∧ kindIsUnknown 0x7F = true := by decide

theorem witness_save_in_flight :
    busyDuringSave (.load []) = true ∧ ownRequest (.load []) = some (0x31, [])
      ∧ requestLength 0x31 = some ([] : List Byte).length ∧ saving.store.saving.isSome = true
      ∧ saving.takesOwn = true := by decide

theorem witness_refused_request :
    ownRequest (.purge [0]) = some (0x27, [0]) ∧ exec (.purge [0]) State.reset = .next (ran (.purge [0]) .reset)
      ∧ (ran (.purge [0]) .reset).link.reply.map (fun r => decide (2 ≤ r.status.code)) = some true :=
  ⟨by decide, rfl, by decide⟩

theorem witness_request_frame :
    ownRequest (.snapRead [3]) = some (0x25, [3]) ∧ (Instr.snapRead [3]).wellFormed = true
      ∧ State.reset.link.receiver = .hunt
      ∧ (.sweepOnce .broadcast [0, 0], 0x20, [2, 0, 0]) ∈ broadcastable .broadcast [0, 0]
      ∧ (Instr.sweepOnce .broadcast [0, 0]).wellFormed = true ∧ State.reset.receives = true := by decide

theorem witness_broadcast :
    (.restart .own [], 0x32, []) ∈ broadcastable .own [] ∧ (.restart .broadcast [], 0x32, []) ∈ broadcastable .broadcast []
      ∧ State.reset.receives = true ∧ (1 : BitVec 5) ≠ 0
      ∧ ({ State.reset with link := { State.reset.link with address := 0 } : State }).receives = true
      ∧ ({ State.reset with link := { State.reset.link with address := 0 } : State }).takesOwn = false := by decide

/-- R124, R158: an action above 3 and a wrong length, in a frame while a SAVE is in flight. -/
theorem test_sweep_frames_refused :
    [[4, 0, 0], [], [1, 0]].map (fun p => ((saving.receiveAll (requestFrame 1 0x20 p)).link.reply.map Reply.status))
      = [some .badValue, some .badLength, some .badLength] := by decide +kernel

theorem witness_lost_frames :
    (0 : BitVec 16) ≠ crc16 (1 :: 0x01 :: BitVec.ofNat 8 ([] : List Byte).length :: [])
      ∧ (2 : Byte) ≠ 0 ∧ (2 : Byte).toNat ≠ State.reset.link.address.toNat
      ∧ (0x01 : Byte) ≠ 0x20 ∧ (0x01 : Byte) ≠ 0x24 ∧ (0x01 : Byte) ≠ 0x32 := by decide +kernel

theorem witness_received_byte :
    answering.link.receiver = .answer ∧ (collecting [0xC3]).link.receiver = .frame
      ∧ (collecting [0xC3, 1, 1]).link.buffer.length = 3 ∧ 48 < (49 : Byte).toNat
      ∧ ¬(3 ≤ (collecting [0xC3]).link.buffer.length
          ∧ (collecting [0xC3]).link.buffer.length + 1 = 6 + byteAt ((collecting [0xC3]).link.buffer ++ [1]) 3) := by
  decide

theorem witness_late_frame : isFrameRow (.ident []) = true ∧ answering.link.receiver = .answer := by decide

theorem witness_reply_in_progress :
    answering.power = .running ∧ answering.link.reply.isSome = true ∧ sending.link.reply.map Reply.sending = some true := by
  decide

/-! ### Witnesses: points, surfaces and global settings -/

/-- A POINT_WRITE payload whose span is exactly 100. -/
def pointPayload : List Byte := [23, 1, 0x75, 0x30, 0x75, 0x94, 0, 0]

theorem witness_point_write :
    pointPayload.length = 8 ∧ byteAt pointPayload 0 < 24 ∧ pointKindOf (byteAt pointPayload 1) = some .air
      ∧ limitNat 1000 60000 (u16At pointPayload 2) + 100 ≤ limitNat 1000 60000 (u16At pointPayload 4)
      ∧ State.reset.store.saving = none := by decide

theorem witness_index_out_of_range :
    ownRequest (.purge [24]) = some (0x27, [24]) ∧ requestLength 0x27 = some [(24 : Byte)].length
      ∧ indexLimit (.purge [24]) = some 24 ∧ 24 ≤ byteAt [24] 0 ∧ busyDuringSave (.purge [24]) = false
      ∧ saving.takesOwn = true ∧ busyDuringSave (.outputWrite []) = true ∧ State.reset.store.saving = none := by decide

theorem witness_runtime_records :
    (State.reset.surfaces[3]).run.ring.length ≤ 8 ∧ State.reset.takesOwn = true := by decide

/-- A SURFACE_WRITE payload with two members. -/
def surfacePayload : List Byte :=
  [15, 1, 23, 2, 2, 3, 23, 1, 0, 0, 0, 0, 1, 1, 244, 0, 200, 0, 50, 2, 4, 3, 1, 7, 12]

theorem witness_surface_write :
    surfacePayload.length = 25 ∧ byteAt surfacePayload 0 < 16 ∧ byteAt surfacePayload 1 ≤ 1
      ∧ byteAt surfacePayload 2 < 24 ∧ 1 ≤ byteAt surfacePayload 3 ∧ byteAt surfacePayload 3 ≤ 4
      ∧ (∀ j < byteAt surfacePayload 3, byteAt surfacePayload (4 + 2 * j) < 24)
      ∧ (∀ j < byteAt surfacePayload 3, ∀ i < j,
          byteAt surfacePayload (4 + 2 * i) ≠ byteAt surfacePayload (4 + 2 * j))
      ∧ combineModeOf (byteAt surfacePayload 12) = some .mean ∧ byteAt surfacePayload 22 ≤ 1
      ∧ (byteAt surfacePayload 22 = 1 → byteAt surfacePayload 23 < 8) := by decide

theorem witness_structural_faults :
    2 < byteAt [0, 3, 0, 0, 0, 0, 0, 0] 1
      ∧ limitNat 1000 60000 (u16At [0, 1, 0, 0, 0, 0, 0, 0] 4) < limitNat 1000 60000 (u16At [0, 1, 0, 0, 0, 0, 0, 0] 2) + 100
      ∧ 24 ≤ byteAt (surfacePayload.set 2 24) 2 ∧ byteAt (surfacePayload.set 23 8) 22 = 1
      ∧ 8 ≤ byteAt (surfacePayload.set 23 8) 23 ∧ byteAt (surfacePayload.set 3 0) 3 = 0
      ∧ byteAt (surfacePayload.set 6 2) (4 + 2 * 0) = byteAt (surfacePayload.set 6 2) (4 + 2 * 1)
      ∧ byteAt [0, 0, 0, 1, 0, 0, 0, 0, 0, 0] 3 < 2 ∧ 1 < byteAt [2, 0, 0, 0, 0, 0, 0, 0, 0, 5] 0
      ∧ 2 < byteAt [0, 3] 1 ∧ 3 < byteAt [4] 0 ∧ saving.takesOwn = true ∧ saving.link.receiver = .hunt
      ∧ 3 < byteAt [4, 0, 0] 0 := by decide

/-- A GLOBAL_WRITE payload with both divisors in their sets. -/
def globalPayload : List Byte := [2, 0, 16, 1, 0, 250, 3, 3, 75, 0, 60, 0, 180]

theorem witness_global_write :
    globalPayload.length = 13 ∧ u16At globalPayload 1 ∈ [16, 64, 256] ∧ byteAt globalPayload 3 ∈ [1, 4, 16]
      ∧ u16At (globalPayload.set 2 17) 1 ∉ [16, 64, 256] ∧ saving.store.saving.isSome = true := by decide

theorem witness_factory_image_is_valid : State.reset.store.written.Valid := by
  simp only [Image.Valid, PointCfg.Valid, SurfaceCfg.Valid, GlobalCfg.Valid]
  decide

/-! ### Witnesses: arithmetic, risk states and ranking -/

/-- R5 at both ends and inside, R7 at the floor, an entry, one below the next, and the ceiling. -/
theorem test_table_lookups :
    [-1000, -999, -800, 2250, 4999, 5000].map satPressure = [287, 287, 336, 2722, 12339, 12345]
      ∧ [286, 287, 335, 336, 12344, 12345].map rawDewPoint
        = [(-1000, true), (-1000, false), (-804, false), (-800, false), (5000, false), (5000, false)] := by decide

theorem witness_table : (0 : Nat) < 30 ∧ (-1000 : Int) ≤ 5000 ∧ (0 : Int) ≤ 286 ∧ (286 : Int) < 287 := by decide

theorem witness_dew_point : 10000 ≤ 10000 ∧ (-1200 : Int) < -1000 ∧ (5000 : Int) < 6000 := by decide

theorem witness_combination :
    (∀ m ∈ s3Members, 1 ≤ m.weight) ∧ combine .mean s3Members = some (1318, {}) := by decide

theorem witness_state_machine :
    (0 : Int) ≤ s3Cfg.hysteresis ∧ RiskState.dry.ofMargin = true ∧ RiskState.dew.ofMargin = true
      ∧ ([480] ++ [470] : List Int).length = s3Cfg.riseCount
      ∧ (∀ x ∈ ([480] ++ [470] : List Int), RiskState.dry.severity < (rawLevel s3Cfg x).severity)
      ∧ ([60, 60, 60] ++ [60] : List Int).length = s3Cfg.fallCount
      ∧ (∀ x ∈ ([60, 60, 60] ++ [60] : List Int),
          (rawLevel s3Cfg (x - s3Cfg.hysteresis)).severity < RiskState.dew.severity)
      ∧ (rawLevel s3Cfg 30).severity < RiskState.dew.severity
      ∧ RiskState.dew.severity ≤ (rawLevel s3Cfg (30 - s3Cfg.hysteresis)).severity := by decide

theorem witness_candidates :
    RiskState.watch.severity < (candidate s3Cfg .watch 199).severity
      ∧ (candidate s3Cfg .watch 550).severity < RiskState.watch.severity
      ∧ candidate s3Cfg .watch 549 = .watch ∧ (rawLevel s3Cfg 549).severity < RiskState.watch.severity
      ∧ candidate s3Cfg .watch 500 = .watch := by decide

/-- R40: a margin counts on its own side, clears the run of the other, and a steady one clears both. -/
theorem test_runs_of_one_margin :
    [199, 550, 549].map (fun m =>
        let r := SurfaceRun.judge s3Cfg { SurfaceRun.cleared .watch with riseRun := 0, fallRun := 2 } m
        (r.state, r.riseRun, r.fallRun))
      = [(.watch, 1, 0), (.watch, 0, 3), (.watch, 0, 0)] := by decide

/-- P9 as a surface point, P3 an air point: 3.8.2's terms. -/
def s3Points : Vector PointRec 24 :=
  ((Vector.replicate 24 (.fresh .factory)).set 9
      { cfg := { PointCfg.factory with kind := .surface }
        run := { PointRun.fresh .surface with health := .good, readings := .surface 1563 {} } }).set 3
      { cfg := { PointCfg.factory with kind := .air }
        run := { PointRun.fresh .air with
          health := .holding, readings := .air ⟨5500, {}, 2250, {}, 2250, 1497, 1299, { held := true }⟩ } }

/-- S3 on those two points. -/
def s3Live : SurfaceCfg := { s3Cfg with enabled := true, surfacePoint := 9, airList := [⟨3, 1⟩] }

theorem witness_surface_evaluation :
    surfaceTemp s3Points[s3Live.surfacePoint] = some (1563, {})
      ∧ combine s3Live.mode (s3Live.airList.filterMap fun m => contributionOf m.weight s3Points[m.point])
          = some (1299, { held := true })
      ∧ surfaceTemp s3Points[SurfaceCfg.factory.surfacePoint] = none ∧ SurfaceCfg.factory.enabled = false
      ∧ ({ SurfaceRun.cleared .watch with values := some ⟨60, 1563, {}, 1318, {}, 245, {}⟩ }).heldAge < s3Live.holdSweeps
      ∧ (SurfaceRun.cleared .watch).values = none := by decide

/-- R22, R38, R45: the first live margin of an UNKNOWN surface gives its level and one notice. -/
theorem test_first_live_margin :
    (evalSurface 61 s3Points 3 ⟨s3Live, .cleared .unknown⟩).1.run.state = .watch
      ∧ (evalSurface 61 s3Points 3 ⟨s3Live, .cleared .unknown⟩).2
        = [⟨.surface, 3, 6, 2, 61, 264, { held := true }⟩] := by decide

theorem witness_full_ring :
    ([520, 500, 470, 450, 420, 400, 370, 350] : List Int) = 520 :: ([500, 470, 450, 420, 400, 370] ++ [350])
      ∧ ([500, 470, 450, 420, 400, 370] : List Int).length = 6 := by decide

/-- The values of S3 of 3.8.2. -/
def s3Values : Values := { sweep := 60, ts := 1563, tsQ := {}, td := 1318, tdQ := {}, margin := 245, marginQ := {} }

/-- A part with S3 enabled, bound to W2 and in state `st` on the values of 3.8.2. -/
def withS3 (st : RiskState) (latch : Bool) (level : WetLevel) : State :=
  { State.reset with
    surfaces := State.reset.surfaces.set 3
      { cfg := { s3Cfg with enabled := true, wetLine := some 2 }
        run := { SurfaceRun.cleared st with live := true, values := some s3Values } }
    store := { State.reset.store with
      written := { Image.factory with wet := { enabled := Vector.replicate 8 true, debounce := 20 } } }
    wet := State.reset.wet.set 2
      { raw := some .wet, timer := some 8000000, debounced := some level, latch := latch } }

theorem witness_ranking :
    ((withS3 .watch false .dry).surfaces[3]).cfg.enabled = true
      ∧ ((withS3 .watch false .dry).surfaces[3]).run.values = some s3Values
      ∧ ((withS3 .watch false .dry).surfaces[3]).run.state ≠ .unknown := by decide

/-! ### Witnesses: wet lines and sweeps -/

theorem witness_wet_line_events :
    ((withS3 .watch false .dry).wet[2]).raw ≠ some .dry
      ∧ WetLevel.dry = (if 100000 < 40000 then .wet else if 100000 ≤ 400000 then .dry else .openTape)
      ∧ ((withS3 .watch false .dry).wet[2]).timer = some 8000000
      ∧ ((withS3 .watch false .dry).wet[2]).debounced ≠ ((withS3 .watch false .dry).wet[2]).raw
      ∧ ((withS3 .watch false .wet).wet[2]).debounced = ((withS3 .watch false .wet).wet[2]).raw := by decide

theorem witness_wet_ack :
    (withS3 .wet true .wet).takesOwn = true ∧ ((withS3 .wet true .wet).wet[2]).debounced = some .wet
      ∧ ((withS3 .watch false .dry).wet[2]).latch = false ∧ ((withS3 .wet true .dry).wet[2]).debounced ≠ some .wet
      ∧ ((withS3 .wet true .dry).wet[2]).latch = true := by decide

/-- 3.8.2: S3 leaves WET for the raw level of its live margin, and enters WET at the latch. -/
theorem test_latch_moves_s3 :
    ((ran (.wetAck [2]) (withS3 .wet true .dry)).surfaces[3]).run.state = .watch
      ∧ ((ran (.debounceExpiry 2) (withS3 .watch false .dry)).surfaces[3]).run.state = .wet := by decide

/-- A WETLINE_WRITE payload that enables W0 alone. -/
def wetlinePayload : List Byte := [1, 0, 0, 0, 0, 0, 0, 0, 0, 20]

theorem witness_wetline_write :
    (∀ i < 8, byteAt wetlinePayload i ≤ 1) ∧ State.reset.store.saving = none
      ∧ (withS3 .wet true .dry).store.written.wet.enabled[2] = true ∧ byteAt wetlinePayload 2 = 0
      ∧ ((withS3 .wet true .dry).wet[2]).latch = true := by decide

/-- R43, R45, R117: disabling W2 clears its latch, and S3 leaves WET with one notice. -/
theorem test_disabled_line_releases_s3 :
    ((ran (.wetlineWrite wetlinePayload) (withS3 .wet true .dry)).surfaces[3]).run.state = .watch
      ∧ (ran (.wetlineWrite wetlinePayload) (withS3 .wet true .dry)).notices.list.getLast?
        = some ⟨.surface, 3, 5, 2, 0, 245, {}⟩ := by decide

/-- A part in CONTINUOUS whose timer runs, with a sweep in flight or not. -/
def cycling (inFlight : Bool) : State :=
  { State.reset with
    sweep := { State.reset.sweep with mode := .continuous, timer := some 40000000, inFlight := inFlight } }

/-- R123: the overrun of a sweep in flight. -/
theorem test_overrun :
    (ran .sweepTimerExpiry (cycling true)).sweep.overrunCount = 1
      ∧ (ran .sweepTimerExpiry (cycling true)).notices.list.getLast? = some ⟨.overrun, 0, 0, 10, 0, 1, {}⟩ := by decide

theorem witness_sweep_requests :
    [(0 : Byte), 0].length = 2 ∧ State.reset.sweep.mode = .stopped ∧ State.reset.sweep.inFlight = false
      ∧ (cycling true).takesOwn = true ∧ (cycling true).sweep.mode = .continuous
      ∧ ({ State.reset with sweep := { State.reset.sweep with inFlight := true } }).sweep.inFlight = true := by decide

theorem witness_sweep_timer :
    (cycling true).sweep.timer = some 40000000 ∧ (cycling true).sweep.inFlight = true
      ∧ (cycling false).sweep.inFlight = false ∧ (cycling false).power = .running := by decide

/-- A part with P2 written AIR and not adopted yet. -/
def p2Written : State := State.reset.writePoint 2 { PointCfg.factory with kind := .air }

theorem witness_adoption :
    p2Written.store.written.points[2] ≠ (p2Written.points[2]).cfg
      ∧ p2Written.store.written.points[3] = (p2Written.points[3]).cfg
      ∧ (3 : Fin 24) ∉ p2Written.purge.queue.map PurgeEntry.point
      ∧ (∀ k : Fin 4, p2Written.capture.units[k] = .idle)
      ∧ p2Written.startSweep.capture.allEnded = false
      ∧ (State.startSweep { State.reset with sweep := { State.reset.sweep with arm := true } }).capture.allEnded = true
      ∧ { State.reset.sweep with arm := true }.arm = true := by decide

/-- R81, R83, R84: P2's two jobs, F before D, go to the first two units with their windows. -/
theorem test_jobs_of_a_sweep :
    p2Written.startSweep.capture.queue = []
      ∧ p2Written.startSweep.capture.units[0] = .armed ⟨2, .f, 64⟩ 0 1000000
      ∧ p2Written.startSweep.capture.units[1] = .armed ⟨2, .d, 4⟩ 0 1000000
      ∧ p2Written.startSweep.capture.units[2] = .idle := by decide

/-- A part whose snapshot is ready, and one whose snapshot sweep is in flight. -/
def snapped : State :=
  { State.reset with sweep := { State.reset.sweep with ready := true, buffer := some State.reset.snapshotNow } }

def snapping : State :=
  { State.reset with sweep := { State.reset.sweep with inFlight := true, number := 7, snapSweep := some 7 } }

theorem witness_snapshot :
    State.reset.sweep.ready = false ∧ snapped.sweep.ready = true
      ∧ snapped.sweep.buffer.isSome = true ∧ snapping.sweep.snapSweep = some snapping.sweep.number
      ∧ State.reset.sweep.snapSweep ≠ some State.reset.sweep.number := by decide

/-! ### Witnesses: capture, conversion and purge -/

/-- The calibration of P2 in 4.9. -/
def p2Cfg (k : PointKind) : PointCfg := { kind := k, cDry := 30000, cWet := 36000, tOffset := 0 }

/-- The filter of a line that has been LOW up to tick 40000, and of one that has then been HIGH for 10 ticks. -/
def lowFilter : LineFilter := ⟨.low, .low, 0, 40000, false⟩
def spikedFilter : LineFilter := ⟨.low, .high, 10, 40010, false⟩

/-- Sweep 70 in flight with P2 of the given kind and runtime part, the capture units and queue as given, and every line LOW
up to the present tick. -/
def measuring (r : PointRec) (units : Vector CaptureUnit 4) (queue : List Job) (outcomes : List EndedJob) : State :=
  { State.reset with
    now := 40000
    points := State.reset.points.set 2 r
    sweep := { State.reset.sweep with inFlight := true, number := 70 }
    capture :=
      { queue := queue, units := units, outcomes := outcomes
        fFilter := Vector.replicate 24 lowFilter, dFilter := Vector.replicate 24 lowFilter } }

/-- P2's D job, and P2's F job. -/
def dJob : Job := { port := 2, line := .d, n := 4 }
def fJob : Job := { port := 2, line := .f, n := 64 }

def airP2 : PointRec := .fresh (p2Cfg .air)
def surfaceP2 : PointRec := .fresh (p2Cfg .surface)

/-- Unit 0 as given, the others IDLE. -/
def oneUnit (u : CaptureUnit) : Vector CaptureUnit 4 := #v[u, .idle, .idle, .idle]

/-- P2's D job taken at `taken`, in its N-th period with `total` and `high` counted so far, and in its second. -/
def armedState (taken ends : Nat) : State := measuring surfaceP2 (oneUnit (.armed dJob taken ends)) [] []
def lastPeriod (total high : Nat) : State := measuring surfaceP2 (oneUnit (.counting dJob 1000900 3 total high)) [] []
def secondPeriod (ends : Nat) : State := measuring surfaceP2 (oneUnit (.counting dJob ends 1 500 240)) [] []

theorem witness_level_filter :
    lowFilter.level = .low ∧ lowFilter.level ≠ .high ∧ lowFilter.sampled ≠ .high ∧ spikedFilter.sampled = .high
      ∧ 40010 ≤ spikedFilter.sampledAt + 14 ∧ spikedFilter.differing + 14 < 25 ∧ 25 ≤ spikedFilter.differing + 15
      ∧ 40025 ≤ spikedFilter.sampledAt + (25 - spikedFilter.differing)
      ∧ spikedFilter.sampledAt + min 20 (25 - spikedFilter.differing) < 40030 ∧ spikedFilter.differing ≠ 0
      ∧ (LineFilter.fresh 0).resting = true ∧ 25 ≤ (LineFilter.fresh 0).sampledAt + min 25 25 := by decide

/-- R79: 10 and 14 ticks HIGH change nothing, a 25th does, and LOW for one tick between them starts the count again. -/
theorem test_level_filter :
    (lowFilter.sample 40000 .high 10 = spikedFilter ∧ (spikedFilter.sample 40010 .high 14).level = .low)
      ∧ spikedFilter.sample 40010 .high 15 = ⟨.high, .high, 0, 40025, false⟩
      ∧ ((spikedFilter.sample 40010 .low 1).sample 40011 .high 24).level = .low := by decide

/-- R79: 20 HIGH ticks met 20 ticks after the first 10 do not follow them, for the level would have changed at tick 40025: they
are a new run after a tick LOW, and the level changes at its 25th tick. -/
theorem test_level_filter_after_a_pause :
    spikedFilter.sample 40030 .high 20 = ⟨.low, .high, 20, 40031, false⟩
      ∧ (spikedFilter.sample 40030 .high 20).sample 40031 .high 25 = ⟨.high, .high, 0, 40036, false⟩ := by decide

theorem witness_probe_line_events :
    ((armedState 900 1000900).capture.unitOf 2 .d = some 0
        ∧ (armedState 900 1000900).capture.units[0] = .armed dJob 900 1000900
        ∧ (armedState 900 1000900).capture.filter .d 2 = lowFilter ∧ lowFilter.changes 40000 .high 25 = true
        ∧ lowFilter.rests 40000 .high 25 = false
        ∧ (lowFilter.sample 40000 .high 25).sampledAt = 40025 ∧ (900 < 40025 ∧ 40025 ≤ 1000900)
        ∧ (armedState 900 1000900).capture.unitOf 2 .f = none)
      ∧ ((armedState 900 40024).capture.units[0] = .armed dJob 900 40024 ∧ 40024 < 40025)
      ∧ ((secondPeriod 1000900).capture.units[0] = .counting dJob 1000900 1 500 240 ∧ 1 + 1 < dJob.n)
      ∧ ((secondPeriod 40024).capture.units[0] = .counting dJob 40024 1 500 240)
      ∧ ((lastPeriod 500 240).capture.units[0] = .counting dJob 1000900 3 500 240 ∧ dJob.n ≤ 3 + 1) := by decide

/-- A job taken at the very tick a line's 25th HIGH sample falls at. -/
def takenAtTheEdge : State :=
  { armedState 40000 1040000 with
    capture := (armedState 40000 1040000).capture.setFilter .d 2 ⟨.low, .low, 0, 39975, false⟩ }

/-- R84: an edge at the tick the job was taken does not start it. -/
theorem witness_edge_at_the_taking :
    takenAtTheEdge.capture.units[0] = .armed dJob 40000 1040000
      ∧ (takenAtTheEdge.capture.filter .d 2).changes takenAtTheEdge.now .high 25 = true
      ∧ ((takenAtTheEdge.capture.filter .d 2).sample takenAtTheEdge.now .high 25).sampledAt = 40000
      ∧ (ran (.filteredLevelChange 2 .d ⟨.high, 25⟩) takenAtTheEdge).capture.units[0] = .armed dJob 40000 1040000 := by
  decide

/-- P2's D line as the power-on at tick 40000 left it, its job taken at once. -/
def restingHigh : State :=
  { armedState 40000 1040000 with
    capture := (armedState 40000 1040000).capture.setFilter .d 2 (LineFilter.fresh 40000) }

/-- R93: a line resting HIGH since the power-on gives its rising edge after 25 ticks, and its job, taken before, stays ARMED;
after one tick LOW the edge starts it (R84). -/
theorem test_line_resting_high :
    (restingHigh.capture.filter .d 2).rests restingHigh.now .high 25 = true
      ∧ (ran (.filteredLevelChange 2 .d ⟨.high, 25⟩) restingHigh).capture.units[0] = .armed dJob 40000 1040000
      ∧ ((ran (.filteredLevelChange 2 .d ⟨.high, 25⟩) restingHigh).capture.filter .d 2).level = .high
      ∧ (ran (.startEdge 2 .d) (ran (.filteredLevelChange 2 .d ⟨.low, 1⟩) restingHigh)).capture.units[0]
        = .counting dJob 1040000 0 0 0 := by decide

/-- P2 with its F job ending and its D job waiting, every other unit busy. -/
def fEnds : State :=
  measuring airP2
    #v[.counting fJob 1000900 63 33275 16650, .armed { port := 9, line := .d, n := 4 } 900 1000900,
      .armed { port := 5, line := .d, n := 4 } 900 1000900, .armed { port := 5, line := .f, n := 64 } 900 1000900]
    [dJob] []

theorem witness_job_end_with_another_waiting :
    fEnds.JobEnds (.captureJobComplete 2 .f 33300 16650) 0 fJob (.fDone 33300) 40025
      ∧ (∃ q ∈ fEnds.capture.queue, q.port = fJob.port)
      ∧ ∀ m : Fin 4, m ≠ 0 → (fEnds.capture.units[m]).job? ≠ none :=
  ⟨⟨rfl, by decide, rfl, rfl, by decide, by decide, 1000900, 63, 33275, rfl, by decide, by decide, by decide,
    by decide, rfl⟩, by decide, by decide⟩

/-- The table of 5.9 at 4.9 ms: P2's F job is held by unit 1 when its D job ends, and P3's job waits. -/
def dEndsInPair : State :=
  measuring airP2
    #v[.counting dJob 1000900 3 17975 8700, .counting fJob 1000900 20 9000 4500,
      .armed { port := 5, line := .d, n := 4 } 900 1000900, .armed { port := 5, line := .f, n := 64 } 900 1000900]
    [{ port := 3, line := .d, n := 4 }] []

theorem witness_job_end_with_another_held_and_a_queue :
    dEndsInPair.JobEnds (.captureJobComplete 2 .d 18000 8700) 0 dJob (.dDone 18000 8700) 40025
      ∧ dEndsInPair.capture.queue ≠ []
      ∧ (∃ m : Fin 4, m ≠ 0 ∧ (dEndsInPair.capture.units[m]).holdsPort dJob.port = true)
      ∧ ∀ m : Fin 4, m ≠ 0 → (dEndsInPair.capture.units[m]).job? ≠ none :=
  ⟨⟨rfl, by decide, rfl, rfl, by decide, by decide, 1000900, 3, 17975, rfl, by decide, by decide, by decide,
    by decide, rfl⟩, by decide, by decide, by decide⟩

/-- P2 with its D job ending by its window and its F job still held. -/
def dEndsFirst : State :=
  measuring airP2 #v[.armed dJob 900 1000900, .armed fJob 900 1000900, .idle, .idle] [] []

theorem witness_job_end_with_another_held :
    dEndsFirst.JobEnds (.captureWindowExpiry 2 .d) 0 dJob (.failed .dWindow) 1000900
      ∧ dEndsFirst.capture.queue = [] ∧ ∃ m : Fin 4, m ≠ 0 ∧ (dEndsFirst.capture.units[m]).holdsPort dJob.port = true :=
  ⟨⟨rfl, by decide, rfl, rfl, ⟨1000900, .inl ⟨900, rfl⟩, by decide⟩, rfl⟩, rfl, by decide⟩

theorem witness_surface_conversion :
    (lastPeriod 17975 8700).JobEnds (.captureJobComplete 2 .d 18000 8700) 0 dJob (.dDone 18000 8700) 40025
      ∧ (lastPeriod 17975 359).JobEnds (.captureJobComplete 2 .d 18000 359) 0 dJob (.failed .dDuty) 40025
      ∧ (lastPeriod 17975 8700).LastJob 2 0 ∧ (lastPeriod 17975 8700).capture.outcomes = []
      ∧ ((lastPeriod 17975 8700).points[2]).cfg.kind = .surface
      ∧ ((lastPeriod 17975 8700).points[2]).run.phase = .none
      ∧ (lastPeriod 17975 8700).sweep.inFlight = true
      ∧ ∀ m : Fin 4, m ≠ 0 → ((lastPeriod 17975 8700).capture.units[m]).job? = none := by
  refine ⟨⟨rfl, by decide, rfl, rfl, by decide, by decide, 1000900, 3, 17975, rfl, by decide, by decide, by decide,
      by decide, by decide⟩,
    ⟨rfl, by decide, rfl, rfl, by decide, by decide, 1000900, 3, 17975, rfl, by decide, by decide, by decide,
      by decide, by decide⟩, ?_⟩
  unfold State.LastJob
  decide

/-- 4.9.1: the temperature of a D job of 18000 ticks, 8700 of them HIGH. -/
theorem test_surface_conversion :
    ((ran (.captureJobComplete 2 .d 18000 8700) (lastPeriod 17975 8700)).points[2]).run.readings = .surface 2250 {}
      ∧ (ran (.captureJobComplete 2 .d 18000 8700) (lastPeriod 17975 8700)).sweep.inFlight = false := by decide

/-- P2 as an AIR point with the given runtime part, its F job ended with `f` and its D job one edge from 18000 ticks, 8700 of
them HIGH. -/
def airEnds (run : PointRun) (f : JobOutcome) : State :=
  measuring { cfg := p2Cfg .air, run := run } (oneUnit (.counting dJob 1000900 3 17975 8700)) [] [EndedJob.mk 2 .f f]

/-- P2 of 4.9.1, in SOAKED of 4.9.4, one reading short of the saturation limit, the same with its purges used up, and in
WAITING one failure short of FAULT. -/
def dryP2 : PointRun := PointRun.fresh .air
def soakedP2 : PointRun := { PointRun.fresh .air with health := .good, phase := .soaked }
def nearlySaturatedP2 : PointRun := { PointRun.fresh .air with health := .good, satRun := 2 }
def purgedOutP2 : PointRun := { nearlySaturatedP2 with purgeCount := 3 }
def waitingP2 : PointRun :=
  { PointRun.fresh .air with
    health := .holding, phase := .waiting, failRun := 1
    readings := .air ⟨9900, { held := true }, 2250, { held := true }, 2250, 2695, 2235, { held := true }⟩ }

/-- The end of P2's last job with P9's job still held. -/
theorem witness_job_left :
    ({ lastPeriod 17975 8700 with
      capture := { (lastPeriod 17975 8700).capture with
        units := #v[.counting dJob 1000900 3 17975 8700, .armed { port := 9, line := .d, n := 4 } 900 1000900, .idle, .idle] }
      : State }).JobsLeftBut 0
      ∧ ¬(lastPeriod 17975 8700).JobsLeftBut 0 ∧ ¬(airEnds dryP2 (.fDone 33300)).JobsLeftBut 0
      ∧ dEndsFirst.capture.OthersLeft 9 ∧ ¬dEndsFirst.capture.OthersLeft 2 := by
  unfold State.JobsLeftBut Capture.OthersLeft
  refine ⟨.inr ⟨1, by decide, by decide⟩, by decide, by decide, .inr ⟨0, dJob, by decide, by decide⟩, ?_⟩
  rintro (⟨q, hq, -⟩ | ⟨m, j, hj, hp⟩)
  · cases hq
  · have h : ∀ m : Fin 4, (dEndsFirst.capture.units[m]).job?.all (fun j => decide (j.port = 2)) = true := by decide
    have h' := h m
    rw [hj] at h'
    exact hp (by simpa using h')

theorem witness_air_conversion :
    (airEnds dryP2 (.fDone 33300)).JobEnds (.captureJobComplete 2 .d 18000 8700) 0 dJob (.dDone 18000 8700) 40025
      ∧ (airEnds dryP2 (.fDone 33300)).LastJob 2 0
      ∧ (airEnds dryP2 (.fDone 33300)).capture.outcomeOf 2 .d = none
      ∧ (airEnds dryP2 (.fDone 33300)).capture.outcomeOf 2 .f = some (.fDone 33300)
      ∧ (airEnds dryP2 (.fDone 33300)).points[2] = PointRec.mk (p2Cfg .air) dryP2 := by
  refine ⟨⟨rfl, by decide, rfl, rfl, by decide, by decide, 1000900, 3, 17975, rfl, by decide, by decide, by decide,
      by decide, by decide⟩, ?_⟩
  unfold State.LastJob
  decide

/-- The six good cases by phase and RH, with 99.00 % and 95.00 % on their sides. -/
theorem witness_good_air_conversions :
    (dryP2.phase = .none ∧ (max 0 (min 10000 (9899 : Int))).toNat < 9900)
      ∧ (9900 ≤ (max 0 (min 10000 (9900 : Int))).toNat ∧ dryP2.satRun + 1 < (airEnds dryP2 (.fDone 35940)).work.satCount)
      ∧ (purgedOutP2.phase = .none ∧ (airEnds purgedOutP2 (.fDone 35940)).work.satCount ≤ purgedOutP2.satRun + 1
          ∧ (airEnds purgedOutP2 (.fDone 35940)).work.maxPurges ≤ purgedOutP2.purgeCount)
      ∧ (soakedP2.phase = .soaked ∧ 9500 ≤ (max 0 (min 10000 (9500 : Int))).toNat
          ∧ (max 0 (min 10000 (9499 : Int))).toNat < 9500)
      ∧ waitingP2.phase = .waiting
      ∧ (nearlySaturatedP2.phase = .none
          ∧ (airEnds nearlySaturatedP2 (.fDone 35940)).work.satCount ≤ nearlySaturatedP2.satRun + 1
          ∧ nearlySaturatedP2.purgeCount < (airEnds nearlySaturatedP2 (.fDone 35940)).work.maxPurges
          ∧ (airEnds nearlySaturatedP2 (.fDone 35940)).purge.queue = []
          ∧ (airEnds nearlySaturatedP2 (.fDone 35940)).purge.grants.length < 2) := by decide

theorem witness_failed_air_conversions :
    (airEnds waitingP2 (.failed .fWindow)).capture.outcomeOf 2 .f = some (.failed .fWindow)
      ∧ (airEnds waitingP2 (.failed .fWindow)).work.faultCount ≤ waitingP2.failRun + 1
      ∧ rawRh (p2Cfg .air) 28400 < -2500 ∧ 12500 < rawRh (p2Cfg .air) 37501 := by decide

/-- 4.9.1 and 4.9.4. -/
theorem test_air_conversions :
    ((ran (.captureJobComplete 2 .d 18000 8700) (airEnds dryP2 (.fDone 33300))).points[2]).run.readings
        = .air ⟨5500, {}, 2250, {}, 2250, 1497, 1299, {}⟩
      ∧ ((ran (.captureJobComplete 2 .d 18000 8700) (airEnds soakedP2 (.fDone 35700))).points[2]).run.readings
        = .air ⟨9500, {}, 2250, {}, 2250, 2722, 2250, { saturated := true }⟩ := by decide

/-- R95, R96, R99: RH at 99.00 % at the limit is granted a heater at once; with the purges used up the point is SOAKED. -/
theorem test_saturation_grants_a_heater :
    let t := ran (.captureJobComplete 2 .d 18000 8700) (airEnds nearlySaturatedP2 (.fDone 35940))
    (t.points[2]).run.phase = .heating ∧ t.heaterOn 2 = true ∧ (t.points[2]).run.purgeCount = 1
      ∧ ((ran (.captureJobComplete 2 .d 18000 8700) (airEnds purgedOutP2 (.fDone 35940))).points[2]).run.phase = .soaked := by
  decide

/-- R107: a waiting point that enters FAULT leaves the purge queue. -/
theorem test_waiting_point_fails :
    let s := airEnds waitingP2 (.failed .fWindow)
    let t := ran (.captureJobComplete 2 .d 18000 8700)
      { s with purge := { Purge.fresh with
          grants := [Grant.start 0 0 75 60, Grant.start 1 0 75 60], queue := [⟨2, .auto⟩, ⟨7, .manual⟩] } }
    (t.points[2]).run.health = .fault ∧ (t.points[2]).run.phase = .none ∧ t.purge.queue = [⟨7, .manual⟩] := by decide

/-- P2 in `phase` on the readings of 4.9.1, with the given purge controller. -/
def purging (phase : Phase) (frozen : Option Frozen) (g : Purge) : State :=
  { State.reset with
    points := State.reset.points.set 2
      { cfg := p2Cfg .air
        run := { PointRun.fresh .air with
          health := .good, phase := phase, frozen := frozen
          readings := .air ⟨5500, {}, 2250, {}, 2250, 1497, 1299, {}⟩ } }
    purge := g }

/-- Two grants held elsewhere. -/
def bothHeld : Purge := { Purge.fresh with grants := [Grant.start 0 0 75 60, Grant.start 1 0 75 60] }

theorem witness_purge_request :
    (State.reset.points[2]).cfg.kind ≠ .air ∧ (purging .none none bothHeld).takesOwn = true
      ∧ ((purging .none none bothHeld).points[2]).cfg.kind = .air
      ∧ ((purging .none none bothHeld).points[2]).run.health = .good
      ∧ ((purging .none none bothHeld).points[2]).run.phase = .none
      ∧ (purging .none none bothHeld).CaptureLaw ∧ 2 ≤ (purging .none none bothHeld).purge.grants.length
      ∧ (purging .none none .fresh).purge.queue = [] ∧ (purging .none none .fresh).purge.grants.length < 2
      ∧ (dEndsInPair.capture.units[2]).job? ≠ none ∧ (dEndsInPair.capture.units[2]).holdsPort 2 = false := by
  unfold State.CaptureLaw
  decide

/-- P2 in HEATING alone. -/
def heating : State :=
  purging .heating (some ⟨1299, 2250, Quals.freeze {}⟩) { Purge.fresh with grants := [Grant.start 2 0 75 60] }

/-- P0 and P2 in HEATING and P1 waiting. -/
def heatingWithQueue : State :=
  let p := fun (ph : Phase) => PointRec.mk (p2Cfg .air)
    { PointRun.fresh .air with
      health := .good, phase := ph, readings := .air ⟨5500, {}, 2250, {}, 2250, 1497, 1299, {}⟩ }
  { State.reset with
    points := ((State.reset.points.set 0 (p .heating)).set 1 (p .waiting)).set 2 (p .heating)
    purge := { Purge.fresh with
      grants := [Grant.start 0 0 75 60, Grant.start 2 0 75 60], queue := [⟨1, .auto⟩] } }

/-- The same with P0 written anew, so that the next sweep start cancels its purge and grants P1. -/
def p0Rewritten : State :=
  { heatingWithQueue with
    store := { State.reset.store with
      written := { Image.factory with points := (Image.factory.points.set 1 (p2Cfg .air)).set 2 (p2Cfg .air) } } }

theorem witness_purges_at_adoption :
    p0Rewritten.ArbiterLaw ∧ p0Rewritten.store.written.points[0] ≠ (p0Rewritten.points[0]).cfg
      ∧ p0Rewritten.store.written.points[1] = (p0Rewritten.points[1]).cfg
      ∧ (p0Rewritten.purge.queue.take (2 - 1)).map PurgeEntry.point = [1] := by
  unfold State.ArbiterLaw
  decide

/-- R100, R108: P0's grant passes to P1, and P2 keeps its own. -/
theorem test_adoption_cancels_a_purge :
    p0Rewritten.startSweep.purge.grants.map Grant.point = [2, 1]
      ∧ (p0Rewritten.startSweep.points[1]).run.phase = .heating
      ∧ p0Rewritten.startSweep.notices.list.drop 1
        = [⟨.point, 0, 22, 0, 1, -32768, {}⟩, ⟨.point, 1, 21, 22, 1, 5500, { held := true }⟩] := by decide

theorem witness_heater_timers :
    heating.purge.grantOf 2 = some (Grant.start 2 0 75 60) ∧ (Grant.start 2 0 75 60).energised = true
      ∧ (Grant.start 2 0 75 60).duty < 100
      ∧ (Grant.start 2 0 75 60).periodStart + 4000000 < (Grant.start 2 0 75 60).purgeEnds
      ∧ heating.ArbiterLaw ∧ heating.CaptureLaw ∧ heating.purge.queue = [] := by
  unfold State.ArbiterLaw State.CaptureLaw
  decide

theorem witness_purge_ends_with_another_waiting :
    heatingWithQueue.purge.grantOf 2 = some (Grant.start 2 0 75 60) ∧ heatingWithQueue.ArbiterLaw
      ∧ heatingWithQueue.purge.queue = [⟨1, .auto⟩] ∧ heatingWithQueue.power = .running := by
  unfold State.ArbiterLaw
  decide

/-- R100, R103: the released grant goes to the point that waits. -/
theorem test_released_grant_is_served :
    let t := ran (.purgeTimerExpiry 2) heatingWithQueue
    (t.points[2]).run.phase = .recovering ∧ (t.points[1]).run.phase = .heating ∧ t.purge.queue = [] := by decide

/-- P2 in RECOVERING. -/
def recovering : State :=
  purging .recovering (some ⟨1299, 2250, Quals.freeze {}⟩)
    { Purge.fresh with recovery := Purge.fresh.recovery.set 2 (some 960000000) }

theorem witness_recovery :
    recovering.purge.recovery[2] = some 960000000 ∧ (recovering.points[2]).run.phase = .recovering
      ∧ recovering.power = .running := by decide

/-! ### Witnesses: notices, outputs, store, supply -/

/-- An OUTPUT_WRITE payload for OUT_A with members S0 to S3, trip WET and times of one hour. -/
def outputPayload : List Byte := [0, 0, 15, 5, 1, 0x0E, 0x10, 0x0E, 0x10, 1]

theorem witness_output_write :
    outputPayload.length = 10 ∧ byteAt outputPayload 0 = (0 : Fin 2).val
      ∧ tripLevelOf (byteAt outputPayload 3) = some .wet ∧ byteAt outputPayload 4 ≤ 1
      ∧ contactOf (byteAt outputPayload 9) = some .openOnDemand := by decide

/-- A part whose OUT_A holds both timers in the given state. -/
def outputIn (st : LineState) : State :=
  { State.reset with outputs := State.reset.outputs.set 0 { state := st, minOn := some 12000000, minOff := some 12000000 } }

theorem witness_output_lines :
    ((outputIn .onHeld).outputs[0]).minOn = some 12000000 ∧ ((outputIn .offHeld).outputs[0]).minOff = some 12000000
      ∧ (OutLine.mk .off none none).minOff = none ∧ (OutLine.mk .on (some 1) none).minOn ≠ none
      ∧ (OutLine.mk .off none (some 1)).minOff ≠ none := by decide

/-- R146: at the expiry an ON_HELD line turns off and starts min_off, 300 s. -/
theorem test_min_on_expiry :
    (ran (.minOnExpiry 0) (outputIn .onHeld)).outputs[0]
      = { state := .off, minOn := none, minOff := some (12000000 + 300 * 4000000) } := by decide

theorem witness_output_line_turns :
    (outputIn .onHeld).mayRestart (.minOnExpiry 0) = false ∧ (Instr.minOnExpiry 0).wellFormed = true
      ∧ exec (.minOnExpiry 0) (outputIn .onHeld) = .next (ran (.minOnExpiry 0) (outputIn .onHeld))
      ∧ ((outputIn .onHeld).outputs[0]).state.isOn = true
      ∧ ((ran (.minOnExpiry 0) (outputIn .onHeld)).outputs[0]).state.isOn = false
      ∧ ((outputIn .offHeld).outputs[0]).state.isOn = false
      ∧ ((ran (.minOffExpiry 0) (outputIn .offHeld)).outputs[0]).state.isOn = true :=
  ⟨by decide, by decide, rfl, by decide, by decide, by decide, by decide⟩

/-- A line whose timer runs, at a command that is not its expiry. -/
theorem witness_running_timers :
    (outputIn .on).mayRestart .secondsCount = false ∧ ((outputIn .on).outputs[0]).state.isOn = true
      ∧ ((outputIn .on).outputs[0]).minOn = some 12000000 ∧ ((outputIn .off).outputs[0]).state.isOn = false
      ∧ ((outputIn .off).outputs[0]).minOff = some 12000000 ∧ Instr.secondsCount ≠ .minOnExpiry 0 := by decide

/-- R147: a line with its min-on timer running holds ON against the end of its demand, its timer as it was. -/
theorem test_running_timer_is_kept :
    (ran (.outputWrite outputPayload) (outputIn .on)).outputs[0]
      = { state := .onHeld, minOn := some 12000000, minOff := some 12000000 } := by decide

theorem witness_load_and_save_complete :
    State.reset.store.saved = some (SavedImage.mk .factory (crc16 Image.factory.bytes))
      ∧ ({ State.reset with store := { State.reset.store with saved := none } }).store.saved = none
      ∧ saving.store.saving = some .factory ∧ saving.power = .running
      ∧ (∀ l : Fin 8, Image.factory.wet.enabled[l] = false → (State.reset.wet[l]).latch = false)
      ∧ (withS3 .wet true .dry).store.written.wet.enabled[2] = true ∧ Image.factory.wet.enabled[2] = false
      ∧ (withS3 .wet true .dry).store.saved.map SavedImage.image = some .factory :=
  ⟨rfl, rfl, rfl, rfl, by decide, by decide, by decide, rfl⟩

/-- An image in CONTINUOUS at 10 s, and a part without supply whose nonvolatile memory holds `nv`. -/
def continuousImage : Image := { Image.factory with startMode := .continuous }

def unpowered (nv : Option SavedImage) : State :=
  { ran .powerLoss .reset with store := { (ran .powerLoss .reset).store with nv := nv } }

/-- R169: an image whose check failed once keeps failing it, though its CRC reads back right at the next start. -/
theorem test_failed_check_is_kept :
    let s := ran (.powerOn { pins with nvFlips := 1 }) (unpowered (some Image.factory.seal))
    s.store.nvFault = true ∧ s.store.nv = none
      ∧ (ran (.powerOn pins) (ran .powerLoss s)).store.nvFault = true := by
  have h : (unpowered (some Image.factory.seal)).store.startImage { pins with nvFlips := 1 } = none :=
    (test_start_image Image.factory).2
  have e : ran (.powerOn { pins with nvFlips := 1 }) (unpowered (some Image.factory.seal)) =
      (unpowered (some Image.factory.seal)).startUpOn 1 { pins with nvFlips := 1 }
        ((unpowered (some Image.factory.seal)).store.startImage { pins with nvFlips := 1 }) := rfl
  rw [e, h]
  decide

/-- R121, R169: in CONTINUOUS sweep 1 starts and the timer is loaded. -/
theorem test_power_on_continuous :
    let t := ran (.powerOn pins) (unpowered (some continuousImage.seal))
    t.sweep.number = 1 ∧ t.sweep.timer = some 40000000 ∧ t.notices.list.head? = some ⟨.startup, 0, 1, 0, 0, 0, {}⟩ := by
  have h : (unpowered (some continuousImage.seal)).store.startImage pins = some continuousImage := by
    simp [unpowered, Store.startImage, Image.seal_passes, Image.seal_image, pins]
  have e : ran (.powerOn pins) (unpowered (some continuousImage.seal)) =
      (unpowered (some continuousImage.seal)).startUpOn 1 pins
        ((unpowered (some continuousImage.seal)).store.startImage pins) := rfl
  rw [e, h]
  decide

theorem witness_start_up :
    (unpowered none).power = .off ∧ (ran .resetPinAssert .reset).power = .held
      ∧ goodImage none pins.nvFlips = none ∧ (none : Option Image).getD .factory = Image.factory
      ∧ Image.factory.startMode = .stopped ∧ continuousImage.startMode = .continuous
      ∧ (ran .resetPinAssert (unpowered none)).power = .offHeld := by decide

theorem witness_good_image : goodImage (some continuousImage.seal) pins.nvFlips = some continuousImage := by
  simp [goodImage, Image.seal, pins]

theorem witness_restart :
    State.reset.takesOwn = true ∧ State.reset.store.saving = none ∧ State.reset.sweep.mode = .stopped
      ∧ (cycling true).takesOwn = true ∧ (cycling true).store.saving = none
      ∧ (cycling true).sweep.mode = .continuous := by decide

/-! ### Witnesses: the laws, in a state with one command waiting -/

theorem witness_step_answers : step oneWaiting = .next (ran .secondsCount { oneWaiting with pending := [] }) := rfl

theorem witness_receiver_notice_and_output_laws :
    oneWaiting.ReceiverLaw ∧ oneWaiting.NoticeLaw ∧ oneWaiting.OutputLaw := by
  unfold State.ReceiverLaw State.NoticeLaw State.OutputLaw
  decide

theorem witness_notices_kept :
    oneWaiting.mayRestart .secondsCount = false ∧ Instr.secondsCount.wellFormed = true
      ∧ oneWaiting.mayRestart (.noticeDrop [1]) = false
      ∧ (collecting [0xC3, 1, 0x22]).mayRestart (.byteReceived 1 0) = false
      ∧ (collecting [0xC3, 1, 0x32]).mayRestart (.byteReceived 0 0) = true
      ∧ (Instr.noticeDrop [1]).wellFormed = true := by decide

theorem witness_wet_and_tape_laws : (withS3 .wet true .dry).WetLaw ∧ (withS3 .wet true .dry).TapeLaw := by
  unfold State.WetLaw State.TapeLaw
  decide

theorem witness_ranking_law :
    ({ withS3 .watch false .dry with ranking := rankingOf 60 (withS3 .watch false .dry).surfaces }).RankingLaw := by
  unfold State.RankingLaw RankEntry.before
  decide

theorem witness_surface_law : (withS3 .watch false .dry).SurfaceLaw := by
  intro i
  unfold SurfaceRec.InRange
  refine ⟨?_, ?_, ?_, ?_, ?_, ?_, ?_, ?_⟩ <;> revert i <;> decide

theorem witness_capture_law : (lastPeriod 17975 8700).CaptureLaw := by
  unfold State.CaptureLaw
  decide

theorem witness_count_law : dEndsInPair.CountLaw := by
  have h : ∀ (m : PinLine) (p : Fin 24), dEndsInPair.capture.filter m p = lowFilter := by
    intro m p
    cases m <;> simp [dEndsInPair, measuring, Capture.filter]
  refine ⟨fun m p => ?_, fun _ k => ?_, by decide, ?_, fun e he => (by cases he)⟩
  · rw [h m p]
    unfold LineFilter.InRange
    decide
  · have hk : k = 0 ∨ k = 1 ∨ k = 2 ∨ k = 3 := by omega
    rcases hk with rfl | rfl | rfl | rfl
    · show 8700 ≤ 17975 ∧ _ ≤ 17975
      decide
    · show 4500 ≤ 9000 ∧ _ ≤ 9000
      decide
    · trivial
    · trivial
  · intro k j hj
    have hk : ∀ k : Fin 4, (dEndsInPair.capture.units[k]).job?.all (fun j => decide (1 ≤ j.n)) = true := by decide
    have h := hk k
    rw [hj] at h
    simpa using h

theorem witness_accepted_outcomes : (JobOutcome.fDone 33300).Accepted ∧ (JobOutcome.dDone 18000 8700).Accepted := by
  unfold JobOutcome.Accepted
  decide

theorem witness_purge_law : heating.PurgeLaw := by
  unfold State.PurgeLaw State.ArbiterLaw State.PhaseLaw
  decide

/-- P2 in HEATING after a good conversion in sweep 1, with P5 waiting for an AUTO purge while P0 is heated too. -/
def heatedOnce : State :=
  { heatingWithQueue with
    points := Vector.ofFn fun p =>
      let r := heatingWithQueue.points[p]
      { r with
        run := { r.run with
          lastGood := if r.run.readings = .absent then none else some 1
          frozen := if r.run.phase = .heating then some ⟨1299, 2250, Quals.freeze {}⟩ else none } } }

theorem witness_point_law : heatedOnce.PurgeLaw ∧ heatedOnce.PointLaw ∧ heatedOnce.purge.queue = [⟨1, .auto⟩] := by
  refine ⟨?_, ⟨?_, by decide⟩, by decide⟩
  · unfold State.PurgeLaw State.ArbiterLaw State.PhaseLaw
    decide
  · unfold PointRec.InRange
    decide

theorem witness_dew_law : heating.DewLaw := by
  have hr : ∀ p : Fin 24, (heating.points[p]).run.readings = .absent
      ∨ (heating.points[p]).run.readings = .air ⟨5500, {}, 2250, {}, 2250, 1497, 1299, {}⟩ := by decide
  have hf : ∀ p : Fin 24, (heating.points[p]).run.frozen = none
      ∨ (heating.points[p]).run.frozen = some ⟨1299, 2250, Quals.freeze {}⟩ := by decide
  refine fun p => ⟨fun a ha => ?_, fun f h => ?_⟩
  · rcases hr p with h | h <;> rw [h] at ha <;> cases ha
    unfold AirReading.InBounds
    decide
  · rcases hf p with h' | h' <;> rw [h'] at h <;> cases h
    decide

theorem witness_config_law : oneWaiting.ConfigLaw := by
  have h : Image.factory.Valid := witness_factory_image_is_valid
  refine ⟨h, fun m hm => by cases hm; exact h, fun m hm => (by cases hm), fun i hi => (by cases hi), ?_, ?_, ?_, by decide,
    fun v hv => by cases hv⟩
  · simp only [PointCfg.Valid]
    decide
  · simp only [SurfaceCfg.Valid]
    decide
  · unfold WorkGlobals.Valid
    decide

theorem witness_point_law_configuration : heatedOnce.ConfigLaw := by
  have h : Image.factory.Valid := witness_factory_image_is_valid
  refine ⟨h, fun m hm => by cases hm; exact h, fun m hm => (by cases hm), fun i hi => (by cases hi), ?_, ?_, ?_, by decide,
    fun v hv => by cases hv⟩
  · simp only [PointCfg.Valid]
    decide
  · simp only [SurfaceCfg.Valid]
    decide
  · unfold WorkGlobals.Valid
    decide

theorem witness_crc_law : oneWaiting.CrcLaw := by
  rintro m (h | h) <;> cases h
  rfl

theorem witness_margin_law : (withS3 .watch false .dry).MarginLaw := by
  have hp : ∀ p : Fin 24, ((withS3 .watch false .dry).points[p]).run.readings = .absent := by decide
  have hv : ∀ k : Fin 16, ((withS3 .watch false .dry).surfaces[k]).run.values = none
      ∨ ((withS3 .watch false .dry).surfaces[k]).run.values = some s3Values := by decide
  refine ⟨fun p t q h => ?_, fun k v h => ?_⟩
  · rw [hp p] at h
    cases h
  · rcases hv k with h' | h' <;> rw [h'] at h <;> cases h
    decide

end Sys2Proof.Tests
end

section
/-! The arithmetic of Chapter 1: rounding, the saturation table and its two interpolations, the dew-point calculator and the
combination of members (R1 to R12). -/

namespace Sys2Proof.Machine

/-! ### Rounding (R1) -/

theorem roundDiv_mono {b : Int} (hb : 0 < b) {x y : Int} (h : x ≤ y) : roundDiv x b ≤ roundDiv y b :=
  Int.ediv_le_ediv (by omega) (by omega)

theorem roundDiv_mul_cancel {b : Int} (hb : 0 < b) (k : Int) : roundDiv (k * b) b = k := by
  have h : 2 * (k * b) + b = b + k * (2 * b) := by ring
  rw [roundDiv, h, Int.add_mul_ediv_right _ _ (by omega), Int.ediv_eq_zero_of_lt (by omega) (by omega), zero_add]

theorem le_roundDiv {a b k : Int} (hb : 0 < b) (h : k * b ≤ a) : k ≤ roundDiv a b :=
  (roundDiv_mul_cancel hb k).symm.le.trans (roundDiv_mono hb h)

theorem roundDiv_le {a b k : Int} (hb : 0 < b) (h : a ≤ k * b) : roundDiv a b ≤ k :=
  (roundDiv_mono hb h).trans (roundDiv_mul_cancel hb k).le

/-! ### The table (R2) -/

theorem vapourAt_step_le {k : Nat} (h : k < 30) : vapourAt k + 49 ≤ vapourAt (k + 1) := by
  have steps : ∀ k < 30, vapourAt k + 49 ≤ vapourAt (k + 1) := by decide
  exact steps k h

theorem vapourAt_le_vapourAt {i j : Nat} (hij : i ≤ j) (hj : j ≤ 30) : vapourAt i ≤ vapourAt j := by
  induction j, hij using Nat.le_induction with
  | base => exact le_rfl
  | succ j _ ih =>
    have := ih (by omega)
    have := vapourAt_step_le (k := j) (by omega)
    omega

@[simp] theorem vapourAt_zero : vapourAt 0 = 287 := rfl
@[simp] theorem vapourAt_thirty : vapourAt 30 = 12345 := rfl

/-! ### The saturation pressure (R5) -/

/-- Position `r` above the start of interval `i` is held by it: the last interval holds its end too. -/
theorem tableInterval_eq {i : Nat} {tc : Int} (hi : i ≤ 29) (h0 : 0 ≤ tc + 1000 - 200 * i)
    (h1 : tc + 1000 - 200 * i < 200 ∨ i = 29 ∧ tc + 1000 - 200 * i = 200) : tableInterval tc = i := by
  unfold tableInterval; omega

/-- R4, R5: where the interval of a clamped temperature lies. -/
theorem tableInterval_spec {tc : Int} (hlo : -1000 ≤ tc) (hhi : tc ≤ 5000) :
    tableInterval tc ≤ 29 ∧ 0 ≤ tc + 1000 - 200 * tableInterval tc ∧ tc + 1000 - 200 * tableInterval tc ≤ 200 := by
  unfold tableInterval; omega

theorem tableInterval_mono {a b : Int} (h : a ≤ b) : tableInterval a ≤ tableInterval b := by
  unfold tableInterval; omega

theorem satPressure_bounds {tc : Int} (hlo : -1000 ≤ tc) (hhi : tc ≤ 5000) :
    (vapourAt (tableInterval tc) : Int) ≤ satPressure tc ∧ satPressure tc ≤ vapourAt (tableInterval tc + 1) := by
  obtain ⟨hi, h0, h1⟩ := tableInterval_spec hlo hhi
  have hstep := vapourAt_step_le (k := tableInterval tc) (by omega)
  have hrise : 0 ≤ (vapourAt (tableInterval tc + 1) : Int) - vapourAt (tableInterval tc) := by omega
  have lower := le_roundDiv (k := 0) (b := 200) (by norm_num) (by simpa using mul_nonneg hrise h0)
  have upper := roundDiv_le (b := 200) (by norm_num) (mul_le_mul_of_nonneg_left h1 hrise)
  simp only [satPressure]
  omega

theorem satPressure_mono {a b : Int} (hlo : -1000 ≤ a) (hab : a ≤ b) (hhi : b ≤ 5000) :
    satPressure a ≤ satPressure b := by
  obtain ⟨hi, -, -⟩ := tableInterval_spec (hlo.trans hab) hhi
  obtain hlt | heq := (tableInterval_mono hab).lt_or_eq
  · calc satPressure a ≤ vapourAt (tableInterval a + 1) := (satPressure_bounds hlo (hab.trans hhi)).2
      _ ≤ vapourAt (tableInterval b) := by exact_mod_cast vapourAt_le_vapourAt hlt (by omega)
      _ ≤ satPressure b := (satPressure_bounds (hlo.trans hab) hhi).1
  · have hstep := vapourAt_step_le (k := tableInterval b) (by omega)
    simp only [satPressure, heq]
    have := mul_le_mul_of_nonneg_left (a := (vapourAt (tableInterval b + 1) : Int) - vapourAt (tableInterval b))
      (show a + 1000 - 200 * tableInterval b ≤ b + 1000 - 200 * tableInterval b by omega) (by omega)
    have := roundDiv_mono (b := 200) (by norm_num) this
    omega

/-- R5: the interpolation meets the table at its entries, the last one from below. -/
theorem satPressure_at_entry {k : Nat} (hk : k ≤ 30) : satPressure (-1000 + 200 * (k : Int)) = vapourAt k := by
  obtain hk | rfl := Nat.lt_or_eq_of_le hk
  · rw [satPressure, tableInterval_eq (i := k) (by omega) (by omega) (by omega)]
    simp [roundDiv]
  · decide

theorem satPressure_nonneg {tc : Int} (hlo : -1000 ≤ tc) (hhi : tc ≤ 5000) : 0 ≤ satPressure tc := by
  have := (satPressure_bounds hlo hhi).1
  omega

theorem satPressure_le {tc : Int} (hlo : -1000 ≤ tc) (hhi : tc ≤ 5000) : satPressure tc ≤ 12345 :=
  (satPressure_mono hlo hhi le_rfl).trans (satPressure_at_entry (k := 30) le_rfl).le

/-! ### The inverse lookup (R7) -/

/-- The largest of the first `n` numbers at or below `j`, picked by a test that holds exactly up to `j`. -/
theorem foldl_range_pick {n j : Nat} {test : Nat → Prop} [DecidablePred test] (h : ∀ k < n, test k ↔ k ≤ j) :
    (List.range n).foldl (fun a k => if test k then k else a) 0 = min (n - 1) j := by
  induction n with
  | zero => simp
  | succ n ih =>
    rw [List.range_succ, List.foldl_append, ih fun k hk => h k (by omega)]
    simp only [List.foldl_cons, List.foldl_nil, h n (by omega)]
    split <;> omega

theorem inverseInterval_eq {j : Nat} {e : Int} (hj : j ≤ 29) (hlo : (vapourAt j : Int) ≤ e)
    (hhi : e < vapourAt (j + 1)) : inverseInterval e = j := by
  have test : ∀ k < 30, (vapourAt k : Int) ≤ e ↔ k ≤ j := by
    intro k hk
    constructor
    · intro h
      by_contra hkj
      have := vapourAt_le_vapourAt (i := j + 1) (j := k) (by omega) (by omega)
      omega
    · intro h
      have := vapourAt_le_vapourAt h (by omega)
      omega
  rw [inverseInterval, foldl_range_pick test]
  omega

/-- R7: a pressure inside the table lies in one of its intervals. -/
theorem exists_vapour_interval {e : Int} (hlo : 287 ≤ e) (hhi : e < 12345) :
    ∃ j ≤ 29, (vapourAt j : Int) ≤ e ∧ e < vapourAt (j + 1) := by
  have search : ∀ n ≤ 30, e < vapourAt n → ∃ j < n, (vapourAt j : Int) ≤ e ∧ e < vapourAt (j + 1) := by
    intro n
    induction n with
    | zero => intro _ h; simp at h; omega
    | succ n ih =>
      intro hn h
      by_cases hb : e < vapourAt n
      · obtain ⟨j, hj, h⟩ := ih (by omega) hb
        exact ⟨j, by omega, h⟩
      · exact ⟨n, by omega, by omega, h⟩
  obtain ⟨j, hj, h⟩ := search 30 le_rfl (by simpa using hhi)
  exact ⟨j, by omega, h⟩

theorem rawDewPoint_floor {e : Int} (h : e < 287) : rawDewPoint e = (-1000, true) := by
  simp [rawDewPoint, h]

theorem rawDewPoint_ceiling {e : Int} (h : 12345 ≤ e) : rawDewPoint e = (5000, false) := by
  have : ¬e < 287 := by omega
  simp [rawDewPoint, h, this]

theorem rawDewPoint_inside {j : Nat} {e : Int} (hj : j ≤ 29) (hlo : (vapourAt j : Int) ≤ e)
    (hhi : e < vapourAt (j + 1)) :
    rawDewPoint e =
      (-1000 + 200 * j + roundDiv (200 * (e - vapourAt j)) ((vapourAt (j + 1) : Int) - vapourAt j), false) := by
  have h0 := vapourAt_le_vapourAt (i := 0) (j := j) (by omega) (by omega)
  have h30 := vapourAt_le_vapourAt (i := j + 1) (j := 30) (by omega) le_rfl
  rw [vapourAt_zero] at h0
  rw [vapourAt_thirty] at h30
  have hfloor : ¬e < 287 := by omega
  have hceiling : ¬12345 ≤ e := by omega
  simp [rawDewPoint, inverseInterval_eq hj hlo hhi, hfloor, hceiling]

/-- R7: the floor, the ceiling, or the interpolation in one of the 30 intervals. -/
theorem rawDewPoint_cases (e : Int) :
    e < 287 ∧ rawDewPoint e = (-1000, true) ∨ 12345 ≤ e ∧ rawDewPoint e = (5000, false)
      ∨ ∃ j ≤ 29, (vapourAt j : Int) ≤ e ∧ e < vapourAt (j + 1) := by
  by_cases hlo : e < 287
  · exact .inl ⟨hlo, rawDewPoint_floor hlo⟩
  · by_cases hhi : 12345 ≤ e
    · exact .inr (.inl ⟨hhi, rawDewPoint_ceiling hhi⟩)
    · exact .inr (.inr (exists_vapour_interval (by omega) (by omega)))

theorem rawDewPoint_inside_bounds {j : Nat} {e : Int} (hj : j ≤ 29) (hlo : (vapourAt j : Int) ≤ e)
    (hhi : e < vapourAt (j + 1)) :
    -1000 + 200 * (j : Int) ≤ (rawDewPoint e).1 ∧ (rawDewPoint e).1 ≤ -1000 + 200 * (j : Int) + 200 := by
  have hstep := vapourAt_step_le (k := j) (by omega)
  have lower := le_roundDiv (k := 0) (a := 200 * (e - vapourAt j)) (b := (vapourAt (j + 1) : Int) - vapourAt j)
    (by omega) (by omega)
  have upper := roundDiv_le (k := 200) (a := 200 * (e - vapourAt j)) (b := (vapourAt (j + 1) : Int) - vapourAt j)
    (by omega) (by omega)
  rw [rawDewPoint_inside hj hlo hhi]
  omega

theorem rawDewPoint_bounds (e : Int) : -1000 ≤ (rawDewPoint e).1 ∧ (rawDewPoint e).1 ≤ 5000 := by
  obtain ⟨-, h⟩ | ⟨-, h⟩ | ⟨j, hj, hlo, hhi⟩ := rawDewPoint_cases e
  · simp [h]
  · simp [h]
  · have := rawDewPoint_inside_bounds hj hlo hhi
    omega

theorem rawDewPoint_floor_iff (e : Int) : (rawDewPoint e).2 = true ↔ e < 287 := by
  obtain ⟨he, h⟩ | ⟨he, h⟩ | ⟨j, hj, hlo, hhi⟩ := rawDewPoint_cases e
  · simp [h, he]
  · simp [h]; omega
  · have := vapourAt_le_vapourAt (i := 0) (j := j) (by omega) (by omega)
    rw [vapourAt_zero] at this
    simp [rawDewPoint_inside hj hlo hhi]; omega

theorem rawDewPoint_mono {a b : Int} (hab : a ≤ b) : (rawDewPoint a).1 ≤ (rawDewPoint b).1 := by
  obtain ⟨-, ha⟩ | ⟨ha, -⟩ | ⟨i, hi, haLo, haHi⟩ := rawDewPoint_cases a
  · rw [ha]
    exact (rawDewPoint_bounds b).1
  · rw [rawDewPoint_ceiling ha, rawDewPoint_ceiling (ha.trans hab)]
  obtain ⟨hb, -⟩ | ⟨-, hb⟩ | ⟨j, hj, hbLo, hbHi⟩ := rawDewPoint_cases b
  · rw [rawDewPoint_floor hb, rawDewPoint_floor (by omega)]
  · rw [hb]
    exact (rawDewPoint_bounds a).2
  obtain hij | rfl | hij := Nat.lt_trichotomy i j
  · have := rawDewPoint_inside_bounds hi haLo haHi
    have := rawDewPoint_inside_bounds hj hbLo hbHi
    omega
  · have hstep := vapourAt_step_le (k := i) (by omega)
    rw [rawDewPoint_inside hi haLo haHi, rawDewPoint_inside hi hbLo hbHi]
    exact add_le_add_right (roundDiv_mono (by omega) (by omega)) _
  · have := vapourAt_le_vapourAt (i := j + 1) (j := i) hij (by omega)
    omega

/-- R7: the inverse lookup meets the table at its entries. -/
theorem rawDewPoint_at_entry {k : Nat} (hk : k ≤ 30) : (rawDewPoint (vapourAt k)).1 = -1000 + 200 * (k : Int) := by
  obtain hk | rfl := Nat.lt_or_eq_of_le hk
  · have hstep := vapourAt_step_le hk
    rw [rawDewPoint_inside (j := k) (by omega) le_rfl (by omega), sub_self, mul_zero,
      ← zero_mul ((vapourAt (k + 1) : Int) - vapourAt k), roundDiv_mul_cancel (by omega), add_zero]
  · rw [rawDewPoint_ceiling (by simp)]
    rfl

/-- Settles O23: the interpolations are `roundDiv` within one interval, where it is monotone and exact at the ends; across
intervals the table itself rises. -/
theorem vapourTableLookups : Obligations.VapourTableLookups := by
  refine ⟨rfl, fun _ => rfl, ?_, ?_, fun e => rawDewPoint_floor, fun e => rawDewPoint_ceiling,
    fun k => vapourAt_step_le, fun tc => satPressure_bounds, fun a b => satPressure_mono,
    fun k => satPressure_at_entry, fun a b _ => rawDewPoint_mono, rawDewPoint_bounds,
    fun k => rawDewPoint_at_entry, rawDewPoint_floor_iff⟩
  · rintro i tc r hi rfl h0 h1
    rw [satPressure, tableInterval_eq hi h0 h1]
    rfl
  · rintro j e step hj hlo hhi rfl
    exact rawDewPoint_inside hj hlo hhi

/-! ### The dew-point calculator (R3, R4, R6, R8, R9) -/

theorem clampTemp_bounds (t : Int) : -1000 ≤ clampTemp t ∧ clampTemp t ≤ 5000 := by
  unfold clampTemp; omega

theorem clampTemp_ne_iff (t : Int) : clampTemp t ≠ t ↔ t < -1000 ∨ 5000 < t := by
  unfold clampTemp; omega

theorem airPressure_full (es : Int) : airPressure es 10000 = es :=
  roundDiv_mul_cancel (by norm_num) es

theorem airPressure_zero (es : Int) : airPressure es 0 = 0 := by
  simp [airPressure, roundDiv]

theorem airPressure_mono {es : Int} (hes : 0 ≤ es) {a b : Nat} (h : a ≤ b) : airPressure es a ≤ airPressure es b :=
  roundDiv_mono (by norm_num) (mul_le_mul_of_nonneg_left (by exact_mod_cast h) hes)

theorem airPressure_bounds {es : Int} (hes : 0 ≤ es) {rh : Nat} (h : rh ≤ 10000) :
    0 ≤ airPressure es rh ∧ airPressure es rh ≤ es :=
  ⟨(airPressure_zero es).symm.le.trans (airPressure_mono hes (Nat.zero_le rh)),
    (airPressure_mono hes h).trans (airPressure_full es).le⟩

/-- R6: at any humidity up to 100 % the vapour pressure lies between 0 and the saturation pressure at Tc. -/
theorem dewPoint_e_bounds (t : Int) {rh : Nat} (q : Quals) (h : rh ≤ 10000) :
    0 ≤ (dewPoint t rh q).e ∧ (dewPoint t rh q).e ≤ satPressure (dewPoint t rh q).tc :=
  have ⟨hlo, hhi⟩ := clampTemp_bounds t
  airPressure_bounds (satPressure_nonneg hlo hhi) h

/-- R8: the dew point lies between the table's floor and Tc. -/
theorem dewPoint_td_bounds (t : Int) (rh : Nat) (q : Quals) :
    -1000 ≤ (dewPoint t rh q).td ∧ (dewPoint t rh q).td ≤ (dewPoint t rh q).tc :=
  ⟨le_min (rawDewPoint_bounds _).1 (clampTemp_bounds t).1, min_le_right _ _⟩

/-- Settles O24: each stage has its own bounds, and the flags are those of the clamp and of the table's floor. -/
theorem dewPointLimitsAndQualifiers : Obligations.DewPointLimitsAndQualifiers := by
  intro t rh q hrh
  obtain ⟨he0, heSat⟩ := dewPoint_e_bounds t q hrh
  obtain ⟨htd, htdTc⟩ := dewPoint_td_bounds t rh q
  refine ⟨rfl, ?_, rfl, he0, heSat, ?_, ?_, htd, htdTc, ?_, ?_, rfl, rfl⟩
  · rfl
  · rintro rfl
    exact airPressure_full _
  · rintro rfl
    exact airPressure_zero _
  · simp only [dewPoint, Bool.or_eq_true, decide_eq_true_iff, clampTemp_ne_iff]
  · simp only [dewPoint, Bool.or_eq_true, rawDewPoint_floor_iff]

/-! ### The combination (R10, R11, R12) -/

/-- R11: the running maximum that WORST takes bounds the start and every member, and is one of them. -/
theorem foldl_max_td (ms : List Contribution) (v : Int) :
    v ≤ ms.foldl (fun a x => max a x.td) v ∧ (∀ a ∈ ms, a.td ≤ ms.foldl (fun a x => max a x.td) v)
      ∧ (ms.foldl (fun a x => max a x.td) v = v ∨ ∃ a ∈ ms, ms.foldl (fun a x => max a x.td) v = a.td) := by
  induction ms generalizing v with
  | nil => simp
  | cons m ms ih =>
    obtain ⟨hv, hms, hmem⟩ := ih (max v m.td)
    simp only [List.foldl_cons, List.forall_mem_cons, List.exists_mem_cons_iff]
    refine ⟨(le_max_left _ _).trans hv, ⟨(le_max_right _ _).trans hv, hms⟩, ?_⟩
    obtain hmax | hlater := hmem
    · obtain h | h := max_choice v m.td <;> rw [hmax, h] <;> simp
    · exact .inr (.inr hlater)

/-- R12: a flag that a union carries exactly when one of its sets does is carried by the union over a list exactly when the
set it starts from or one of the members' sets carries it. -/
theorem foldl_union_flag {flag : Quals → Bool} (hunion : ∀ a b, flag (a.union b) = (flag a || flag b))
    (ms : List Contribution) (q : Quals) :
    flag (ms.foldl (fun q m => q.union m.q) q) = true ↔ flag q = true ∨ ∃ a ∈ ms, flag a.q = true := by
  induction ms generalizing q with
  | nil => simp
  | cons m ms ih => simp [ih, hunion, or_assoc]

theorem unionQuals_flag {flag : Quals → Bool} (hunion : ∀ a b, flag (a.union b) = (flag a || flag b))
    (hempty : flag {} = false) (ms : List Contribution) :
    flag (unionQuals ms) = true ↔ ∃ a ∈ ms, flag a.q = true := by
  simp [unionQuals, foldl_union_flag hunion, hempty]

/-- The sum of the weights of a list of members (R11). -/
def totalWeight (ms : List Contribution) : Int := (ms.map fun m => (m.weight : Int)).sum

/-- The weighted sum of the dew points of a list of members (R11). -/
def weightedSum (ms : List Contribution) : Int := (ms.map fun m => (m.weight : Int) * m.td).sum

@[simp] theorem totalWeight_cons (m : Contribution) (ms : List Contribution) :
    totalWeight (m :: ms) = m.weight + totalWeight ms := by simp [totalWeight]

@[simp] theorem weightedSum_cons (m : Contribution) (ms : List Contribution) :
    weightedSum (m :: ms) = m.weight * m.td + weightedSum ms := by simp [weightedSum]

theorem totalWeight_nonneg (ms : List Contribution) : 0 ≤ totalWeight ms := by
  induction ms with
  | nil => simp [totalWeight]
  | cons m ms ih => rw [totalWeight_cons]; omega

theorem totalWeight_pos {ms : List Contribution} (hne : ms ≠ []) (hw : ∀ m ∈ ms, 1 ≤ m.weight) : 0 < totalWeight ms := by
  cases ms with
  | nil => exact absurd rfl hne
  | cons m ms =>
    have := hw m (by simp)
    have := totalWeight_nonneg ms
    rw [totalWeight_cons]
    omega

theorem mul_totalWeight_le {ms : List Contribution} {v : Int} (h : ∀ m ∈ ms, v ≤ m.td) :
    v * totalWeight ms ≤ weightedSum ms := by
  induction ms with
  | nil => simp [totalWeight, weightedSum]
  | cons m ms ih =>
    obtain ⟨hm, hms⟩ := List.forall_mem_cons.1 h
    have := mul_le_mul_of_nonneg_left hm (Int.natCast_nonneg m.weight)
    have := ih hms
    rw [totalWeight_cons, weightedSum_cons]
    linarith

theorem le_mul_totalWeight {ms : List Contribution} {v : Int} (h : ∀ m ∈ ms, m.td ≤ v) :
    weightedSum ms ≤ v * totalWeight ms := by
  induction ms with
  | nil => simp [totalWeight, weightedSum]
  | cons m ms ih =>
    obtain ⟨hm, hms⟩ := List.forall_mem_cons.1 h
    have := mul_le_mul_of_nonneg_left hm (Int.natCast_nonneg m.weight)
    have := ih hms
    rw [totalWeight_cons, weightedSum_cons]
    linarith

/-- R1, R11: a rounded weighted mean lies between two of its members: were all of them above it they would be at least 1
above it, and so would the mean. -/
theorem roundDiv_mean_between {ms : List Contribution} (hne : ms ≠ []) (hw : ∀ m ∈ ms, 1 ≤ m.weight) :
    (∃ a ∈ ms, a.td ≤ roundDiv (weightedSum ms) (totalWeight ms))
      ∧ ∃ b ∈ ms, roundDiv (weightedSum ms) (totalWeight ms) ≤ b.td := by
  have hpos := totalWeight_pos hne hw
  constructor
  · by_contra! hall
    have := le_roundDiv hpos (mul_totalWeight_le (v := roundDiv (weightedSum ms) (totalWeight ms) + 1) hall)
    omega
  · by_contra! hall
    have := roundDiv_le hpos (le_mul_totalWeight (v := roundDiv (weightedSum ms) (totalWeight ms) - 1)
      fun m hm => Int.le_sub_one_of_lt (hall m hm))
    omega

@[simp] theorem combine_nil (mode : CombineMode) : combine mode [] = none := rfl

theorem combine_worst (m : Contribution) (ms : List Contribution) :
    combine .worst (m :: ms) = some (ms.foldl (fun a x => max a x.td) m.td, unionQuals (m :: ms)) := rfl

theorem combine_eq_none_iff (mode : CombineMode) (ms : List Contribution) : combine mode ms = none ↔ ms = [] := by
  cases ms with
  | nil => simp
  | cons m ms => cases mode <;> simp [combine]

/-- R11: the greatest of a list of members is one of them and bounds them all. -/
theorem combine_worst_spec {ms : List Contribution} {v : Int} {q : Quals} (h : combine .worst ms = some (v, q)) :
    (∃ a ∈ ms, v = a.td) ∧ ∀ a ∈ ms, a.td ≤ v := by
  cases ms with
  | nil => cases h
  | cons m ms =>
    rw [combine_worst] at h
    obtain ⟨rfl, rfl⟩ := Prod.mk.inj (Option.some.inj h)
    obtain ⟨hm, hms, hmem⟩ := foldl_max_td ms m.td
    exact ⟨List.exists_mem_cons_iff _ _ _ |>.2 hmem, List.forall_mem_cons.2 ⟨hm, hms⟩⟩

/-- R11: FIRST takes the first usable member with its qualifiers. -/
theorem combine_first_spec {ms : List Contribution} {v : Int} {q : Quals} (h : combine .first ms = some (v, q)) :
    ∃ a, ms.head? = some a ∧ v = a.td ∧ q = a.q := by
  cases ms with
  | nil => cases h
  | cons m ms => cases h; exact ⟨m, rfl, rfl, rfl⟩

/-- R11: MEAN takes the rounded weighted mean. -/
theorem combine_mean_spec {ms : List Contribution} {v : Int} {q : Quals} (h : combine .mean ms = some (v, q)) :
    ms ≠ [] ∧ v = roundDiv (weightedSum ms) (totalWeight ms) := by
  cases ms with
  | nil => cases h
  | cons m ms => cases h; exact ⟨List.cons_ne_nil _ _, rfl⟩

/-- R12: but under FIRST, the qualifiers are the union over the members. -/
theorem combine_quals {mode : CombineMode} {ms : List Contribution} {v : Int} {q : Quals} (hmode : mode ≠ .first)
    (h : combine mode ms = some (v, q)) : q = unionQuals ms := by
  cases ms with
  | nil => cases h
  | cons m ms =>
    cases mode with
    | first => exact absurd rfl hmode
    | worst => cases h; rfl
    | mean => cases h; rfl

/-- R8, R11: the combination lies between two of the members combined. -/
theorem combine_between {mode : CombineMode} {ms : List Contribution} (hw : ∀ m ∈ ms, 1 ≤ m.weight) {v : Int} {q : Quals}
    (h : combine mode ms = some (v, q)) : (∃ a ∈ ms, a.td ≤ v) ∧ ∃ b ∈ ms, v ≤ b.td := by
  cases mode with
  | first =>
    obtain ⟨a, ha, rfl, -⟩ := combine_first_spec h
    have := List.mem_of_head? ha
    exact ⟨⟨a, this, le_rfl⟩, a, this, le_rfl⟩
  | worst =>
    obtain ⟨⟨a, ha, rfl⟩, -⟩ := combine_worst_spec h
    exact ⟨⟨a, ha, le_rfl⟩, a, ha, le_rfl⟩
  | mean =>
    obtain ⟨hne, rfl⟩ := combine_mean_spec h
    exact roundDiv_mean_between hne hw

/-- Settles O25: mode by mode, the mean by the rounding of a weighted sum. -/
theorem combinationLiesWithinMembers : Obligations.CombinationLiesWithinMembers := by
  intro mode ms hw
  refine ⟨combine_eq_none_iff mode ms, fun v q h => ?_⟩
  obtain ⟨hlo, hhi⟩ := combine_between hw h
  refine ⟨hlo, hhi, ?_, ?_, ?_, fun hmode => ?_⟩
  · rintro rfl
    exact combine_worst_spec h
  · rintro rfl
    exact combine_first_spec h
  · rintro rfl
    exact (combine_mean_spec h).2
  · rw [combine_quals hmode h]
    exact ⟨unionQuals_flag (flag := Quals.clamped) (fun _ _ => rfl) rfl ms,
      unionQuals_flag (flag := Quals.held) (fun _ _ => rfl) rfl ms,
      unionQuals_flag (flag := Quals.saturated) (fun _ _ => rfl) rfl ms,
      unionQuals_flag (flag := Quals.lowDew) (fun _ _ => rfl) rfl ms⟩

end Sys2Proof.Machine
end

section
/-! What one update of the part can do to the data the bounds of Tables 1-3, 2-1, 4-1, 5-2, 6-3 and 8-1 speak of (`State.Move`),
and that each law of the bounds survives it. `Q` is what is known of the outcomes of capture jobs that are converted. -/

namespace Sys2Proof.Machine

/-! ### Records of points -/

/-- R59, R61 to R63, R66: a reading group is kept, cleared, marked HELD, or formed by a conversion under configuration `c`. -/
inductive Readings.Moves (Q : JobOutcome → Prop) (c : PointCfg) (old : Readings) : Readings → Prop where
  | kept : Moves Q c old old
  | cleared : Moves Q c old .absent
  | held : Moves Q c old old.addHeld
  | air (phase : Phase) (raw t : Int) : Moves Q c old (.air (airReading phase raw t))
  | surface (total high : Nat) (h : Q (.dDone total high)) : Moves Q c old (.surface (temperature c total high) {})

/-- R63 to R66, R99, R104: what one update makes of the runtime part of a point on configuration `c`. -/
structure PointRun.Moves (Q : JobOutcome → Prop) (c : PointCfg) (old new : PointRun) : Prop where
  readings : old.readings.Moves Q c new.readings
  frozen : new.frozen = none ∨ new.frozen = old.frozen ∨ new.frozen = old.readings.freeze

/-- R71, R72: a point keeps its working configuration or takes the written one, `w`. -/
structure PointRec.Moves (Q : JobOutcome → Prop) (w : PointCfg) (old new : PointRec) : Prop where
  cfg : new.cfg = old.cfg ∨ new.cfg = w
  run : old.run.Moves Q old.cfg new.run

/-- R8, R99: the dew points of a point's runtime part are in bounds. -/
def PointRun.DewInBounds (r : PointRun) : Prop :=
  (∀ a, r.readings = .air a → a.InBounds) ∧ ∀ f, r.frozen = some f → -1000 ≤ f.td ∧ f.td ≤ f.tc ∧ f.tc ≤ 5000

/-- R62: the temperature a SURFACE point records is in range. -/
def PointRun.TempInBounds (r : PointRun) : Prop :=
  ∀ t q, r.readings = .surface t q → -5200 ≤ t ∧ t ≤ 10200

/-- R87: the counts of a D job that is handed on: a duty from 2 % to 98 % of some ticks. -/
def JobOutcome.DutyInRange : JobOutcome → Prop
  | .dDone total high => 0 < total ∧ total ≤ 50 * high ∧ 50 * high ≤ 49 * total
  | _ => True

section
variable {Q : JobOutcome → Prop} {c w : PointCfg} {old new : PointRun} {p q : PointRec}

@[simp] theorem PointRun.Moves.refl (r : PointRun) : r.Moves Q c r := ⟨.kept, .inr (.inl rfl)⟩

@[simp] theorem PointRec.Moves.refl (r : PointRec) : r.Moves Q w r := ⟨.inl rfl, .refl _⟩

/-- R59: an update that clears a point's readings. -/
theorem PointRun.Moves.cleared (hr : new.readings = .absent) (hf : new.frozen = none) : old.Moves Q c new :=
  ⟨hr ▸ .cleared, .inl hf⟩

theorem measuredRh_le (raw : Int) : measuredRh raw ≤ 10000 := by
  unfold measuredRh; omega

theorem rhUsed_le (phase : Phase) (raw : Int) : (rhUsed phase raw).1 ≤ 10000 := by
  unfold rhUsed
  split
  · exact le_rfl
  · exact measuredRh_le raw

/-- R8, Table 1-3: the reading group of a good conversion is in bounds. -/
theorem airReading_inBounds (phase : Phase) (raw t : Int) : (airReading phase raw t).InBounds := by
  obtain ⟨hclampLo, hclampHi⟩ := clampTemp_bounds t
  obtain ⟨htd, htdTc⟩ := dewPoint_td_bounds t (rhUsed phase raw).1 (rhUsed phase raw).2
  obtain ⟨-, he⟩ := dewPoint_e_bounds t (rhUsed phase raw).2 (rhUsed_le phase raw)
  have hsat := satPressure_le hclampLo hclampHi
  exact ⟨measuredRh_le raw, htd, htdTc, hclampHi, by simpa [airReading] using he.trans hsat⟩

theorem Readings.addHeld_air {r : Readings} {a : AirReading} (h : r.addHeld = .air a) :
    ∃ b, r = .air b ∧ a = { b with rhQ := b.rhQ.addHeld, tQ := b.tQ.addHeld, dewQ := b.dewQ.addHeld } := by
  cases r <;> cases h
  exact ⟨_, rfl, rfl⟩

theorem Readings.addHeld_surface {r : Readings} {t : Int} {q : Quals} (h : r.addHeld = .surface t q) :
    ∃ q', r = .surface t q' := by
  cases r <;> cases h
  exact ⟨_, rfl⟩

theorem Readings.freeze_eq_some {r : Readings} {f : Frozen} (h : r.freeze = some f) :
    ∃ a, r = .air a ∧ f = { td := a.td, tc := a.tc, q := a.dewQ.freeze } := by
  cases r <;> cases h
  exact ⟨_, rfl, rfl⟩

theorem PointRun.Moves.dewInBounds (m : old.Moves Q c new) (h : old.DewInBounds) : new.DewInBounds := by
  obtain ⟨hair, hfrozen⟩ := h
  constructor
  · intro a ha
    have moved := m.readings
    rw [ha] at moved
    generalize hr : Readings.air a = r at moved
    cases moved with
    | kept => exact hair a hr.symm
    | cleared => cases hr
    | held =>
      obtain ⟨b, hb, rfl⟩ := Readings.addHeld_air hr.symm
      exact hair b hb
    | air phase raw t => cases hr; exact airReading_inBounds phase raw t
    | surface total high hQ => cases hr
  · intro f hf
    obtain h | h | h := m.frozen <;> rw [hf] at h
    · cases h
    · exact hfrozen f h.symm
    · obtain ⟨a, ha, rfl⟩ := Readings.freeze_eq_some h.symm
      obtain ⟨-, htd, htc, hmax, -⟩ := hair a ha
      exact ⟨htd, htc, hmax⟩

/-- R62: a duty from 2 % to 98 % and an offset in range give a temperature in range. -/
theorem temperature_bounds (hc : c.Valid) {total high : Nat} (h : (JobOutcome.dDone total high).DutyInRange) :
    -5200 ≤ temperature c total high ∧ temperature c total high ≤ 10200 := by
  obtain ⟨-, -, -, hlo, hhi⟩ := hc
  obtain ⟨hpos, hmin, hmax⟩ := h
  have lower := le_roundDiv (a := 15000 * (high : Int)) (b := total) (k := 300) (by omega) (by omega)
  have upper := roundDiv_le (a := 15000 * (high : Int)) (b := total) (k := 14700) (by omega) (by omega)
  unfold temperature
  omega

theorem PointRun.Moves.tempInBounds (hQ : ∀ o, Q o → o.DutyInRange) (hc : c.Valid) (m : old.Moves Q c new)
    (h : old.TempInBounds) : new.TempInBounds := by
  intro t q hr
  have moved := m.readings
  rw [hr] at moved
  generalize hr : Readings.surface t q = r at moved
  cases moved with
  | kept => exact h t q hr.symm
  | cleared => cases hr
  | held =>
    obtain ⟨q', hq'⟩ := Readings.addHeld_surface hr.symm
    exact h t q' hq'
  | air phase raw t => cases hr
  | surface total high hdone => cases hr; exact temperature_bounds hc (hQ _ hdone)

end

/-! ### Records of surfaces -/

/-- R13, R18, R23 to R30: a surface keeps its working configuration or takes the written one, `w`; its values are cleared,
kept, held, or formed from the points. -/
structure SurfaceRec.Moves (points : Vector PointRec 24) (w : SurfaceCfg) (old new : SurfaceRec) : Prop where
  cfg : new.cfg = old.cfg ∨ new.cfg = w
  values : new.run.values = none ∨ new.run.values = old.run.values ∨ new.run.values = old.run.values.map Values.hold
    ∨ ∃ num, new.run.values = formValues num points old.cfg

/-- R14: the values of a surface are in bounds. -/
def Values.InBounds (v : Values) : Prop :=
  (-5200 ≤ v.ts ∧ v.ts ≤ 10200) ∧ (-1000 ≤ v.td ∧ v.td ≤ 5000) ∧ v.margin = v.ts - v.td
    ∧ -10200 ≤ v.margin ∧ v.margin ≤ 11200

@[simp] theorem SurfaceRec.Moves.refl (points : Vector PointRec 24) (w : SurfaceCfg) (r : SurfaceRec) :
    r.Moves points w r := ⟨.inl rfl, .inr (.inl rfl)⟩

theorem surfaceTemp_eq_some {r : PointRec} {t : Int} {q : Quals} (h : surfaceTemp r = some (t, q)) :
    r.run.readings = .surface t q := by
  unfold surfaceTemp at h
  split at h
  · split at h
    · cases h; assumption
    · cases h
  · cases h

/-- R21: a member brings the frozen dew point or the recorded one, with its weight. -/
theorem contributionOf_eq_some {w : Nat} {r : PointRec} {m : Contribution} (h : contributionOf w r = some m) :
    m.weight = w ∧ ((∃ f, r.run.frozen = some f ∧ m.td = f.td) ∨ ∃ a, r.run.readings = .air a ∧ m.td = a.td) := by
  unfold contributionOf at h
  split at h
  · split at h
    · obtain ⟨f, hf, rfl⟩ := Option.map_eq_some_iff.1 h
      exact ⟨rfl, .inl ⟨f, hf, rfl⟩⟩
    · split at h
      · split at h
        · cases h
          exact ⟨rfl, .inr ⟨_, by assumption, rfl⟩⟩
        · cases h
      · cases h
  · cases h

theorem contributionOf_td_bounds {w : Nat} {r : PointRec} {m : Contribution} (hr : r.run.DewInBounds)
    (h : contributionOf w r = some m) : -1000 ≤ m.td ∧ m.td ≤ 5000 := by
  obtain ⟨hair, hfrozen⟩ := hr
  obtain ⟨-, ⟨f, hf, htd⟩ | ⟨a, ha, htd⟩⟩ := contributionOf_eq_some h
  · obtain ⟨hlo, htc, hhi⟩ := hfrozen f hf
    omega
  · obtain ⟨-, hlo, htc, hhi, -⟩ := hair a ha
    omega

/-- R8, R10: the combined dew point of members with weights in range lies in the range of the dew points. -/
theorem combine_contributions_bounds {points : Vector PointRec 24} {c : SurfaceCfg}
    (hp : ∀ p : Fin 24, (points[p]).run.DewInBounds) (hc : c.Valid) {v : Int} {q : Quals}
    (h : combine c.mode (contributions points c) = some (v, q)) : -1000 ≤ v ∧ v ≤ 5000 := by
  obtain ⟨-, -, hweights, -⟩ := hc
  have member : ∀ m ∈ contributions points c, 1 ≤ m.weight ∧ -1000 ≤ m.td ∧ m.td ≤ 5000 := by
    intro m hm
    obtain ⟨a, ha, hcontr⟩ := List.mem_filterMap.1 hm
    exact ⟨(contributionOf_eq_some hcontr).1 ▸ (hweights a ha).1, contributionOf_td_bounds (hp a.point) hcontr⟩
  obtain ⟨⟨a, ha, hav⟩, b, hb, hvb⟩ := combine_between (fun m hm => (member m hm).1) h
  obtain ⟨-, hlo, -⟩ := member a ha
  obtain ⟨-, -, hhi⟩ := member b hb
  omega

/-- R13: the values of an evaluation are Ts, the combined dew point and their difference. -/
theorem formValues_eq_some {num : SweepNo} {points : Vector PointRec 24} {c : SurfaceCfg} {v : Values}
    (h : formValues num points c = some v) :
    surfaceTemp points[c.surfacePoint] = some (v.ts, v.tsQ)
      ∧ combine c.mode (contributions points c) = some (v.td, v.tdQ) ∧ v.margin = v.ts - v.td := by
  unfold formValues at h
  split at h
  · cases h
    exact ⟨by assumption, by assumption, rfl⟩
  · cases h

theorem formValues_inBounds {num : SweepNo} {points : Vector PointRec 24} {c : SurfaceCfg} {v : Values}
    (hdew : ∀ p : Fin 24, (points[p]).run.DewInBounds) (htemp : ∀ p : Fin 24, (points[p]).run.TempInBounds)
    (hc : c.Valid) (h : formValues num points c = some v) : v.InBounds := by
  obtain ⟨hts, htd, hmargin⟩ := formValues_eq_some h
  have tsBounds := htemp _ _ _ (surfaceTemp_eq_some hts)
  have tdBounds := combine_contributions_bounds hdew hc htd
  exact ⟨tsBounds, tdBounds, hmargin, by omega, by omega⟩

theorem SurfaceRec.Moves.valuesInBounds {points : Vector PointRec 24} {w : SurfaceCfg} {old new : SurfaceRec}
    (hdew : ∀ p : Fin 24, (points[p]).run.DewInBounds) (htemp : ∀ p : Fin 24, (points[p]).run.TempInBounds)
    (hc : old.cfg.Valid) (m : old.Moves points w new) (h : ∀ v, old.run.values = some v → v.InBounds) :
    ∀ v, new.run.values = some v → v.InBounds := by
  intro v hv
  obtain e | e | e | ⟨num, e⟩ := m.values <;> rw [hv] at e
  · cases e
  · exact h v e.symm
  · obtain ⟨u, hu, rfl⟩ := Option.map_eq_some_iff.1 e.symm
    exact h u hu
  · exact formValues_inBounds hdew htemp hc e.symm

/-! ### The store and the sweep controller -/

/-- 3.6, R158: every image the store holds is in range. -/
def Store.ImagesValid (t : Store) : Prop :=
  t.written.Valid ∧ (∀ m : SavedImage, t.saved = some m → m.image.Valid)
    ∧ (∀ m : SavedImage, t.nv = some m → m.image.Valid) ∧ ∀ i : Image, t.saving = some i → i.Valid

/-- R165: every image beside the written one carries its CRC. -/
def Store.Sealed (t : Store) : Prop :=
  ∀ m : SavedImage, t.saved = some m ∨ t.nv = some m → m.crc = crc16 m.image.bytes

/-- An update of the store keeps its images in range and their CRCs. -/
structure Store.Moves (old new : Store) : Prop where
  images : old.ImagesValid → new.ImagesValid
  seals : old.Sealed → new.Sealed

@[simp] theorem Store.Moves.refl (t : Store) : t.Moves t := ⟨id, id⟩

/-- Table 8-1: the interval in force and the pending one are in range. -/
def Sweep.IntervalsInRange (w : Sweep) : Prop :=
  (2 ≤ w.interval ∧ w.interval ≤ 600) ∧ ∀ v, w.pendingIv = some v → 2 ≤ v ∧ v ≤ 600

theorem Sweep.IntervalsInRange.of_eq {w w' : Sweep} (h : w.IntervalsInRange) (hi : w'.interval = w.interval)
    (hp : w'.pendingIv = w.pendingIv) : w'.IntervalsInRange := by
  unfold Sweep.IntervalsInRange
  rw [hi, hp]
  exact h

/-! ### The laws, record by record -/

theorem State.dewLaw_iff (s : State) : s.DewLaw ↔ ∀ p : Fin 24, (s.points[p]).run.DewInBounds := Iff.rfl

theorem State.crcLaw_iff (s : State) : s.CrcLaw ↔ s.store.Sealed := Iff.rfl

theorem State.marginLaw_iff (s : State) :
    s.MarginLaw ↔ (∀ p : Fin 24, (s.points[p]).run.TempInBounds)
      ∧ ∀ (k : Fin 16) (v : Values), (s.surfaces[k]).run.values = some v → v.InBounds := Iff.rfl

theorem State.configLaw_iff (s : State) :
    s.ConfigLaw ↔ s.store.ImagesValid ∧ (∀ p : Fin 24, (s.points[p]).cfg.Valid) ∧ (∀ k : Fin 16, (s.surfaces[k]).cfg.Valid)
      ∧ s.work.Valid ∧ s.sweep.IntervalsInRange := by
  simp only [State.ConfigLaw, Store.ImagesValid, Sweep.IntervalsInRange, and_assoc]

/-! ### Moves of the state -/

/-- The data the bounds speak of. -/
structure Records where
  store     : Store
  points    : Vector PointRec 24
  work      : WorkGlobals
  surfaces  : Vector SurfaceRec 16
  interval  : Nat
  pendingIv : Option Nat

/-- The bounded data of a state. -/
def State.records (s : State) : Records :=
  { store := s.store, points := s.points, work := s.work, surfaces := s.surfaces
    interval := s.sweep.interval, pendingIv := s.sweep.pendingIv }

/-- One update of the part: the records of points and surfaces move, and configurations in range stay so. -/
structure State.Move (Q : JobOutcome → Prop) (s t : State) : Prop where
  store : s.store.Moves t.store
  points : ∀ p : Fin 24, (s.points[p]).Moves Q s.store.written.points[p] t.points[p]
  surfaces : ∀ k : Fin 16, (s.surfaces[k]).Moves s.points s.store.written.surfaces[k] t.surfaces[k]
  work : s.store.written.Valid → s.work.Valid → t.work.Valid
  intervals : s.store.written.Valid → s.sweep.IntervalsInRange → t.sweep.IntervalsInRange

/-- A state that updates of the part lead to. -/
abbrev State.Reaches (Q : JobOutcome → Prop) : State → State → Prop := Relation.ReflTransGen (State.Move Q)

section
variable {Q : JobOutcome → Prop} {s t u : State}

/-! Each law survives a move. -/

theorem State.Move.dewLaw (m : s.Move Q t) (h : s.DewLaw) : t.DewLaw :=
  t.dewLaw_iff.2 fun p => (m.points p).run.dewInBounds (s.dewLaw_iff.1 h p)

theorem State.Move.crcLaw (m : s.Move Q t) (h : s.CrcLaw) : t.CrcLaw :=
  t.crcLaw_iff.2 (m.store.seals (s.crcLaw_iff.1 h))

theorem State.Move.configLaw (m : s.Move Q t) (h : s.ConfigLaw) : t.ConfigLaw := by
  rw [State.configLaw_iff] at h ⊢
  obtain ⟨himages, hpoints, hsurfaces, hwork, hintervals⟩ := h
  obtain ⟨hwritten, -⟩ := id himages
  refine ⟨m.store.images himages, fun p => ?_, fun k => ?_, m.work hwritten hwork, m.intervals hwritten hintervals⟩
  · obtain e | e := (m.points p).cfg <;> rw [e]
    · exact hpoints p
    · exact hwritten.1 p
  · obtain e | e := (m.surfaces k).cfg <;> rw [e]
    · exact hsurfaces k
    · exact hwritten.2.1 k

theorem State.Move.marginLaw (hQ : ∀ o, Q o → o.DutyInRange) (m : s.Move Q t) (hd : s.DewLaw) (hc : s.ConfigLaw)
    (h : s.MarginLaw) : t.MarginLaw := by
  have hdew := s.dewLaw_iff.1 hd
  obtain ⟨-, hpoints, hsurfaces, -⟩ := s.configLaw_iff.1 hc
  obtain ⟨htemp, hvalues⟩ := s.marginLaw_iff.1 h
  exact t.marginLaw_iff.2 ⟨fun p => (m.points p).run.tempInBounds hQ (hpoints p) (htemp p),
    fun k => (m.surfaces k).valuesInBounds hdew htemp (hsurfaces k) (hvalues k)⟩

/-! Each law survives any number of moves. -/

theorem State.Reaches.dewLaw (m : s.Reaches Q t) (h : s.DewLaw) : t.DewLaw := by
  induction m with
  | refl => exact h
  | tail _ last ih => exact last.dewLaw ih

theorem State.Reaches.crcLaw (m : s.Reaches Q t) (h : s.CrcLaw) : t.CrcLaw := by
  induction m with
  | refl => exact h
  | tail _ last ih => exact last.crcLaw ih

theorem State.Reaches.configLaw (m : s.Reaches Q t) (h : s.ConfigLaw) : t.ConfigLaw := by
  induction m with
  | refl => exact h
  | tail _ last ih => exact last.configLaw ih

theorem State.Reaches.marginLaw (hQ : ∀ o, Q o → o.DutyInRange) (m : s.Reaches Q t) (hd : s.DewLaw) (hc : s.ConfigLaw)
    (h : s.MarginLaw) : t.MarginLaw := by
  induction m with
  | refl => exact h
  | tail before last ih => exact last.marginLaw hQ (State.Reaches.dewLaw before hd) (State.Reaches.configLaw before hc) ih

/-! Moves of one part of the state. -/

/-- An update of the point table and the settings in force. -/
theorem State.Move.of_points_work
    (hp : ∀ p : Fin 24, (s.points[p]).Moves Q s.store.written.points[p] t.points[p])
    (hw : s.store.written.Valid → s.work.Valid → t.work.Valid)
    (h : t.records = { s.records with points := t.points, work := t.work }) : s.Move Q t := by
  simp only [State.records, Records.mk.injEq, true_and] at h
  obtain ⟨hstore, hsurfaces, hinterval, hpending⟩ := h
  exact ⟨hstore ▸ .refl _, hp, fun k => hsurfaces ▸ .refl _ _ _, hw,
    fun _ h => h.of_eq hinterval hpending⟩

/-- An update of the point table. -/
theorem State.Move.of_points (hp : ∀ p : Fin 24, (s.points[p]).Moves Q s.store.written.points[p] t.points[p])
    (h : t.records = { s.records with points := t.points }) : s.Move Q t := by
  have hwork : t.work = s.work := congrArg Records.work h
  exact .of_points_work hp (fun _ => hwork ▸ id) (h.trans (by rw [hwork]; rfl))

/-- An update of the runtime part of one point. -/
theorem State.Move.of_run {p : Fin 24} {r : PointRun} (hr : (s.points[p]).run.Moves Q (s.points[p]).cfg r)
    (h : t.records = { s.records with points := s.points.set p { s.points[p] with run := r } }) : s.Move Q t := by
  have hpoints : t.points = s.points.set p { s.points[p] with run := r } := congrArg Records.points h
  refine .of_points (fun q => ?_) (hpoints ▸ h)
  rw [hpoints]
  by_cases hq : p = q
  · subst hq
    have moved : (s.points[p]).Moves Q s.store.written.points[p] { s.points[p] with run := r } := ⟨.inl rfl, hr⟩
    simpa using moved
  · have : (p : Nat) ≠ q := fun e => hq (Fin.ext e)
    simp [this]

/-- An update of the surface table. -/
theorem State.Move.of_surfaces
    (hk : ∀ k : Fin 16, (s.surfaces[k]).Moves s.points s.store.written.surfaces[k] t.surfaces[k])
    (h : t.records = { s.records with surfaces := t.surfaces }) : s.Move Q t := by
  simp only [State.records, Records.mk.injEq, true_and] at h
  obtain ⟨hstore, hpoints, hwork, hinterval, hpending⟩ := h
  exact ⟨hstore ▸ .refl _, fun p => hpoints ▸ .refl _, hk, fun _ => hwork ▸ id,
    fun _ h => h.of_eq hinterval hpending⟩

/-- An update of the store and the intervals. -/
theorem State.Move.of_store_intervals (hs : s.store.Moves t.store)
    (hi : s.store.written.Valid → s.sweep.IntervalsInRange → t.sweep.IntervalsInRange)
    (h : t.records = { s.records with
      store := t.store, interval := t.sweep.interval, pendingIv := t.sweep.pendingIv }) : s.Move Q t := by
  simp only [State.records, Records.mk.injEq, true_and, and_true] at h
  obtain ⟨hpoints, hwork, hsurfaces⟩ := h
  exact ⟨hs, fun p => hpoints ▸ .refl _, fun k => hsurfaces ▸ .refl _ _ _, fun _ => hwork ▸ id, hi⟩

/-- An update of the store. -/
theorem State.Move.of_store (hs : s.store.Moves t.store) (h : t.records = { s.records with store := t.store }) :
    s.Move Q t := by
  have hi : t.sweep.interval = s.sweep.interval := congrArg Records.interval h
  have hp : t.sweep.pendingIv = s.sweep.pendingIv := congrArg Records.pendingIv h
  exact .of_store_intervals hs (fun _ hin => hin.of_eq hi hp) (h.trans (by rw [hi, hp]; rfl))

/-- An update of the intervals. -/
theorem State.Move.of_intervals (hi : s.store.written.Valid → s.sweep.IntervalsInRange → t.sweep.IntervalsInRange)
    (h : t.records = { s.records with interval := t.sweep.interval, pendingIv := t.sweep.pendingIv }) : s.Move Q t := by
  have hs : t.store = s.store := congrArg Records.store h
  exact .of_store_intervals (hs ▸ .refl _) hi (h.trans (by rw [hs]; rfl))

/-- An update that leaves the bounded data alone. -/
theorem State.Move.of_records (h : t.records = s.records) : s.Move Q t := by
  have hp : t.points = s.points := congrArg Records.points h
  exact .of_points (fun p => hp ▸ .refl _) (h.trans (by rw [hp]; rfl))

theorem State.Reaches.trans (m : s.Reaches Q t) (n : t.Reaches Q u) : s.Reaches Q u := Relation.ReflTransGen.trans m n

theorem State.Reaches.of_records (h : t.records = s.records) : s.Reaches Q t := .single (.of_records h)

/-- What changes no bounded data after some moves adds nothing to them. -/
theorem State.Reaches.frame (m : s.Reaches Q t) (h : u.records = t.records) : s.Reaches Q u := m.tail (.of_records h)

end

end Sys2Proof.Machine
end

section
/-! The moves each operation of the blocks makes (`State.Reaches`): points and purges, surfaces and wet lines, sweeps, capture. -/

namespace Sys2Proof.Machine

section
variable {Q : JobOutcome → Prop} {s t : State}

/-! ### Updates that leave the bounded data alone -/

@[simp] theorem State.elapse_records (s : State) (n : Nat) : (s.elapse n).records = s.records := rfl
@[simp] theorem State.elapseTo_records (s : State) (n : Nat) : (s.elapseTo n).records = s.records := rfl
@[simp] theorem State.offer_records (s : State) (ns : List Notice) : (s.offer ns).records = s.records := rfl
@[simp] theorem State.giveJobs_records (s : State) : s.giveJobs.records = s.records := rfl
@[simp] theorem State.buildJobs_records (s : State) : s.buildJobs.records = s.records := rfl
@[simp] theorem State.evalOutputs_records (s : State) : s.evalOutputs.records = s.records := rfl
@[simp] theorem State.setOut_records (s : State) (o : Fin 2) (l : OutLine) : (s.setOut o l).records = s.records := rfl
@[simp] theorem State.hunt_records (s : State) : s.hunt.records = s.records := rfl
@[simp] theorem State.postReply_records (s : State) (kind : Byte) (a : Answer) :
    (s.postReply kind a).records = s.records := rfl
theorem State.setPurge_records (s : State) (g : Purge) : ({ s with purge := g } : State).records = s.records := rfl
theorem State.setPower_records (s : State) (p : Power) : ({ s with power := p } : State).records = s.records := rfl
theorem State.setLink_records (s : State) (k : Link) : ({ s with link := k } : State).records = s.records := rfl
theorem State.sweepEnded_records (s : State) :
    ({ s with sweep := { s.sweep with inFlight := false } } : State).records = s.records := rfl

/-! ### Purges (R99, R103, R104) -/

theorem PointRun.granted_moves (c : PointCfg) (r : PointRun) (o : PurgeOrigin) : r.Moves Q c (r.granted o) :=
  ⟨.held, .inr (.inr rfl)⟩

theorem State.serveOne_reaches (s : State) : s.Reaches Q s.serveOne.1 := by
  obtain ⟨e, rest, -, -, h⟩ | ⟨-, h⟩ := s.serveOne_cases <;> rw [h]
  exact .single (.of_run (PointRun.granted_moves _ _ e.origin) rfl)

theorem State.serve_reaches (s : State) : s.Reaches Q s.serve.1 :=
  s.serveOne_reaches.trans s.serveOne.1.serveOne_reaches

theorem State.arrivePurge_reaches (s : State) (p : Fin 24) (o : PurgeOrigin) : s.Reaches Q (s.arrivePurge p o) := by
  let s1 : State := { s with purge := { s.purge with queue := s.purge.queue ++ [{ point := p, origin := o }] } }
  have arrived : s.Reaches Q s1 := .of_records rfl
  exact (arrived.trans s1.serve_reaches).frame (State.offer_records _ _)

theorem State.recordPoint_reaches {p : Fin 24} {r : PointRun} (h : (s.points[p]).run.Moves Q (s.points[p]).cfg r) :
    s.Reaches Q (s.recordPoint p r) :=
  .single (.of_run h rfl)

/-! ### Conversions (R60 to R65) -/

/-- R64, Table 4-4: a failed conversion keeps the readings or holds them. -/
theorem PointRun.failed_moves (c : PointCfg) (r : PointRun) (w : WorkGlobals) (num : SweepNo) (cause : FailCause) :
    r.Moves Q c (r.failed w num cause) := by
  unfold PointRun.failed
  simp only
  split
  · exact ⟨.kept, .inr (.inl rfl)⟩
  · exact ⟨.kept, .inr (.inl rfl)⟩
  · split
    · exact ⟨.held, .inr (.inl rfl)⟩
    · exact ⟨.kept, .inr (.inl rfl)⟩
  · split
    · exact ⟨.held, .inr (.inl rfl)⟩
    · exact ⟨.held, .inr (.inl rfl)⟩

/-- R95: the saturation step leaves the readings and the frozen dew point alone. -/
theorem satStep_keeps (w : WorkGlobals) (r : PointRun) (rh : Nat) :
    (satStep w r rh).1.readings = r.readings ∧ (satStep w r rh).1.frozen = r.frozen := by
  unfold satStep
  repeat' split
  all_goals exact ⟨rfl, rfl⟩

theorem PointRun.goodAir_moves (c : PointCfg) (r : PointRun) (w : WorkGlobals) (num : SweepNo) (raw t : Int) :
    r.Moves Q c (r.goodAir w num raw t).1 :=
  ⟨.air _ raw t, .inr (.inl (satStep_keeps w r _).2)⟩

/-- R60, R62: a SURFACE point's temperature comes from the counts of its D job. -/
theorem conversionOf_surface {c : PointCfg} {f d : Option JobOutcome} {t : Int}
    (h : conversionOf c f d = some (.surface t)) :
    ∃ total high, d = some (.dDone total high) ∧ t = temperature c total high := by
  unfold conversionOf at h
  split at h
  · cases h
  · split at h
    · cases h; exact ⟨_, _, rfl, rfl⟩
    · cases h
    · cases h
  · split at h
    · cases h
    · cases h
    · split at h <;> cases h
    · cases h

/-- R88: an outcome found for a line was handed on. -/
theorem Capture.outcomeOf_eq_some {c : Capture} {port : Fin 24} {line : PinLine} {o : JobOutcome}
    (h : c.outcomeOf port line = some o) : ∃ e ∈ c.outcomes, e.outcome = o := by
  obtain ⟨e, he, rfl⟩ := Option.map_eq_some_iff.1 h
  exact ⟨e, List.mem_of_find?_eq_some he, rfl⟩

theorem State.convert_reaches (hQ : ∀ e ∈ s.capture.outcomes, Q e.outcome) (p : Fin 24) : s.Reaches Q (s.convert p) := by
  have consumed : s.Reaches Q { s with capture := s.capture.consume p } := .of_records rfl
  simp only [State.convert]
  split
  · exact consumed
  · rename_i cause _
    have moved := PointRun.failed_moves (Q := Q) (s.points[p]).cfg (s.points[p]).run s.work s.sweep.number cause
    split
    · exact .single (.of_run (p := p) moved rfl)
    · exact .single (.of_run (p := p) moved rfl)
  · rename_i t ht
    obtain ⟨total, high, hd, rfl⟩ := conversionOf_surface ht
    obtain ⟨e, he, heq⟩ := Capture.outcomeOf_eq_some hd
    exact consumed.trans (State.recordPoint_reaches ⟨.surface total high (heq ▸ hQ e he), .inr (.inl rfl)⟩)
  · rename_i raw t _
    have recorded := consumed.trans (State.recordPoint_reaches
      (PointRun.goodAir_moves (s.points[p]).cfg (s.points[p]).run s.work s.sweep.number raw t))
    split
    · exact recorded.trans (State.arrivePurge_reaches _ p .auto)
    · exact recorded

/-! ### Adoption (R25, R71, R72, R80, R110) -/

theorem PointRec.adopt_moves (r : PointRec) (c : PointCfg) : r.Moves Q c (r.adopt c) := by
  unfold PointRec.adopt
  split
  · exact .refl r
  · exact ⟨.inr rfl, .cleared rfl rfl⟩

theorem State.adoptPoints_reaches (s : State) : s.Reaches Q s.adoptPoints := by
  let g := s.store.written.globals
  let s1 : State := { s with
    points := Vector.ofFn fun p => (s.points[p]).adopt s.store.written.points[p]
    purge := s.purge.abort s.pointChanged
    work := { s.work with faultCount := g.faultCount, satCount := g.satCount, maxPurges := g.maxPurges } }
  have adopted : s.Reaches Q s1 := .single (.of_points_work (fun p => ?_) ?_ rfl)
  · exact (adopted.trans s1.serve_reaches).frame (State.offer_records _ _)
  · simpa [s1] using PointRec.adopt_moves (s.points[p]) s.store.written.points[p]
  · rintro ⟨-, -, ⟨hfault, -, -, -, hsat, hmax, -⟩, -⟩ ⟨-, hnF, hnD, hwindow, -⟩
    exact ⟨hfault, hnF, hnD, hwindow, hsat, hmax⟩

theorem State.reviseSurfaces_reaches {new : Vector SurfaceRec 16} (cleared : Fin 16 → Bool)
    (h : ∀ k : Fin 16, (s.surfaces[k]).Moves s.points s.store.written.surfaces[k] new[k]) :
    s.Reaches Q (s.reviseSurfaces new cleared) :=
  .single (.of_surfaces h rfl)

theorem adoptSurface_moves (points : Vector PointRec 24) (c : SurfaceCfg) (latch : Bool) (r : SurfaceRec) :
    r.Moves points c (adoptSurface c latch r).1 := by
  unfold adoptSurface
  split
  · exact .refl _ _ _
  · split
    · exact ⟨.inr rfl, .inl rfl⟩
    · split
      · exact ⟨.inr rfl, .inr (.inl rfl)⟩
      · split
        · exact ⟨.inr rfl, .inl rfl⟩
        · exact ⟨.inr rfl, .inr (.inl rfl)⟩

theorem State.adoptSurfaces_reaches (s : State) : s.Reaches Q s.adoptSurfaces := by
  have moved (cleared : Fin 16 → Bool) := State.reviseSurfaces_reaches (s := s) (Q := Q) cleared
    (new := Vector.ofFn fun i => (adoptSurface s.store.written.surfaces[i]
      (s.latchOf s.store.written.surfaces[i]) s.surfaces[i]).1)
    (fun k => by simpa using adoptSurface_moves s.points _ _ (s.surfaces[k]))
  simp only [State.adoptSurfaces, Fin.getElem_fin, Vector.getElem_ofFn]
  split
  · exact (moved _).frame (State.evalOutputs_records _)
  · exact moved _

theorem State.adoptCapture_reaches (s : State) : s.Reaches Q s.adoptCapture := by
  refine .single (.of_points_work (fun p => .refl _) ?_ rfl)
  rintro ⟨-, -, ⟨-, hnF, hnD, hwindow, -⟩, -⟩ ⟨hfault, -, -, -, hsat, hmax⟩
  exact ⟨hfault, hnF, hnD, hwindow, hsat, hmax⟩

/-! ### Evaluation (R19 to R24, R131) -/

theorem SurfaceRun.judge_values (c : SurfaceCfg) (r : SurfaceRun) (m : Int) : (r.judge c m).values = r.values := by
  unfold SurfaceRun.judge
  simp only
  repeat' split
  all_goals rfl

theorem offerTrend_values (num : SweepNo) (i : Fin 16) (c : SurfaceCfg) (r : SurfaceRun) :
    (offerTrend num i c r).1.values = r.values := by
  unfold offerTrend
  split <;> rfl

/-- R22: a live margin records the values formed. -/
theorem evalLive_values (num : SweepNo) (i : Fin 16) (c : SurfaceCfg) (r : SurfaceRun) (v : Values) :
    (evalLive num i c r v).1.values = some v := by
  simp only [evalLive, offerTrend_values, SurfaceRun.trend, SurfaceRun.judge_values]

/-- R23, R24: without a live margin the values are held or end. -/
theorem evalMissing_values (num : SweepNo) (i : Fin 16) (c : SurfaceCfg) (r : SurfaceRun) :
    (evalMissing num i c r).1.values = none ∨ (evalMissing num i c r).1.values = r.values.map Values.hold := by
  unfold evalMissing
  split
  · rename_i v hv
    split
    · exact .inr (by rw [hv]; rfl)
    · exact .inl rfl
  · exact .inl rfl

theorem evalSurface_moves (num : SweepNo) (points : Vector PointRec 24) (w : SurfaceCfg) (i : Fin 16) (r : SurfaceRec) :
    r.Moves points w (evalSurface num points i r).1 := by
  unfold evalSurface
  split
  · refine ⟨.inl rfl, ?_⟩
    simp only
    split
    · rename_i v hv
      exact .inr (.inr (.inr ⟨num, by rw [evalLive_values, hv]⟩))
    · obtain h | h := evalMissing_values num i r.cfg r.run
      · exact .inl h
      · exact .inr (.inr (.inl h))
  · exact .refl _ _ _

theorem State.evaluateSurfaces_reaches (s : State) : s.Reaches Q s.evaluateSurfaces := by
  refine .single (.of_surfaces (fun k => ?_) (by simp [State.records]))
  simpa [State.evaluateSurfaces] using evalSurface_moves s.sweep.number s.points _ k (s.surfaces[k])

theorem State.takeSnapshot_records (s : State) : s.takeSnapshot.records = s.records := by
  unfold State.takeSnapshot
  split <;> rfl

theorem State.completeSweep_reaches (s : State) : s.Reaches Q s.completeSweep := by
  refine s.evaluateSurfaces_reaches.frame ?_
  simp only [State.completeSweep, State.evalOutputs_records, State.takeSnapshot_records, State.sweepEnded_records]

theorem State.settle_reaches (s : State) : s.Reaches Q s.settle := by
  have given : s.Reaches Q s.giveJobs := .of_records s.giveJobs_records
  obtain ⟨e, -⟩ | ⟨e, -⟩ := s.settle_cases <;> rw [e]
  · exact given.trans s.giveJobs.completeSweep_reaches
  · exact given

/-! ### Sweeps (R122, R125, R130) -/

theorem State.startSweep_reaches (s : State) : s.Reaches Q s.startSweep := by
  let s1 : State := { s with sweep := s.sweep.begin }
  have begun : s.Reaches Q s1 := .of_records rfl
  have adopted := begun.trans <| s1.adoptPoints_reaches.trans <|
    s1.adoptPoints.adoptSurfaces_reaches.trans s1.adoptPoints.adoptSurfaces.adoptCapture_reaches
  exact (adopted.frame (State.buildJobs_records _)).trans (State.settle_reaches _)

/-- R122, R125: a pending interval is in range when it becomes the interval. -/
theorem Sweep.takePending_inRange {w : Sweep} (h : w.IntervalsInRange) : w.takePending.IntervalsInRange := by
  obtain ⟨hin, hpending⟩ := h
  refine ⟨?_, fun v hv => by cases hv⟩
  show 2 ≤ w.pendingIv.getD w.interval ∧ w.pendingIv.getD w.interval ≤ 600
  cases hp : w.pendingIv with
  | none => exact hin
  | some v => exact hpending v hp

/-- R122, R125, R132: the interval pending is taken and the timer loaded. -/
theorem State.loadTimer_reaches (s : State) (t : Nat) :
    s.Reaches Q { s with sweep := s.sweep.takePending.loadTimer t } :=
  .single (.of_intervals (fun _ => Sweep.takePending_inRange) rfl)

theorem State.sweepTimerExpires_reaches (s : State) (t : Nat) : s.Reaches Q (s.sweepTimerExpires t) := by
  simp only [State.sweepTimerExpires]
  split
  · exact .single (.of_intervals (fun _ => Sweep.takePending_inRange) rfl)
  · exact (s.loadTimer_reaches t).trans (State.startSweep_reaches _)

/-! ### Wet lines (R41, R43, R112 to R118) -/

theorem State.latchEvent_reaches {f : SurfaceRec → SurfaceRec}
    (h : ∀ r, (f r).cfg = r.cfg ∧ (f r).run.values = r.run.values) : s.Reaches Q (s.latchEvent f) := by
  have moved : s.Reaches Q (s.reviseSurfaces (Vector.ofFn fun i => f s.surfaces[i]) fun _ => false) :=
    State.reviseSurfaces_reaches _ fun k => by
      obtain ⟨hcfg, hvalues⟩ := h (s.surfaces[k])
      simpa using SurfaceRec.Moves.mk (.inl hcfg) (.inr (.inl hvalues))
  obtain e | e := s.latchEvent_cases f <;> rw [e]
  · exact moved.frame (State.evalOutputs_records _)
  · exact moved

theorem SurfaceRec.latchSets_keeps (l : Fin 8) (r : SurfaceRec) :
    (r.latchSets l).cfg = r.cfg ∧ (r.latchSets l).run.values = r.run.values := by
  unfold SurfaceRec.latchSets
  split <;> exact ⟨rfl, rfl⟩

theorem SurfaceRec.latchClears_keeps (l : Fin 8) (r : SurfaceRec) :
    (r.latchClears l).cfg = r.cfg ∧ (r.latchClears l).run.values = r.run.values := by
  unfold SurfaceRec.latchClears
  split <;> exact ⟨rfl, rfl⟩

theorem State.rawChange_reaches (s : State) (l : Fin 8) (v : WetLevel) : s.Reaches Q (s.rawChange l v) := by
  simp only [State.rawChange]
  split <;> exact .of_records rfl

theorem State.debounceExpires_reaches (s : State) (l : Fin 8) : s.Reaches Q (s.debounceExpires l) := by
  let s1 := s.setWet l (s.wet[l]).debounce
  let s2 := s1.offer [wetNotice s.sweep.number l (s.wet[l]).debounced (s.wet[l]).debounce]
  have debounced : s.Reaches Q s1 := .of_records rfl
  have noticed : s.Reaches Q s2 := debounced.frame (State.offer_records _ _)
  simp only [State.debounceExpires]
  split
  · exact debounced
  · split
    · exact noticed.trans (State.latchEvent_reaches (SurfaceRec.latchSets_keeps l))
    · exact noticed

theorem State.clearLatch_reaches (s : State) (l : Fin 8) : s.Reaches Q (s.clearLatch l) := by
  have cleared : s.Reaches Q (s.setWet l { s.wet[l] with latch := false }) := .of_records rfl
  unfold State.clearLatch
  split
  · exact cleared.trans (State.latchEvent_reaches (SurfaceRec.latchClears_keeps l))
  · exact .refl

theorem State.enabledChanged_reaches (s : State) (l : Fin 8) : s.Reaches Q (s.enabledChanged l) := by
  have disabled : s.Reaches Q (s.setWet l { s.wet[l] with timer := none, debounced := none }) := .of_records rfl
  unfold State.enabledChanged
  split
  · exact .of_records rfl
  · exact disabled.trans (State.clearLatch_reaches _ l)

theorem State.enabledChanged_store (s : State) (l : Fin 8) : (s.enabledChanged l).store = s.store := by
  unfold State.enabledChanged
  split
  · rfl
  · simp [State.clearLatch_keeps]

/-- R118, R168: the monitor acts line by line, and leaves the store alone. -/
theorem State.actOnLines_reaches (s : State) (old : Vector Bool 8) :
    s.Reaches Q (s.actOnLines old) ∧ (s.actOnLines old).store = s.store := by
  unfold State.actOnLines
  induction List.finRange 8 generalizing s with
  | nil => exact ⟨.refl, rfl⟩
  | cons l ls ih =>
    rw [List.foldl_cons]
    split
    · exact ih s
    · obtain ⟨moved, hstore⟩ := ih (s.enabledChanged l)
      exact ⟨(s.enabledChanged_reaches l).trans moved, hstore.trans (s.enabledChanged_store l)⟩

/-! ### Capture (R79, R84, R85, R88) -/

theorem State.endJob_reaches {o : JobOutcome} (hended : ∀ e ∈ s.capture.outcomes, Q e.outcome) (ho : Q o) (k : Fin 4)
    (j : Job) : s.Reaches Q (s.endJob k j o) := by
  let s1 : State := { s with capture := { s.capture with
    units := s.capture.units.set k .idle, outcomes := s.capture.outcomes ++ [EndedJob.mk j.port j.line o] } }
  have handed : s.Reaches Q s1 := .of_records rfl
  simp only [State.endJob]
  refine .trans ?_ (State.settle_reaches _)
  split
  · exact handed
  · refine handed.trans (State.convert_reaches (fun e he => ?_) _)
    obtain he | rfl := List.mem_append.1 he |>.imp_right List.mem_singleton.1
    · exact hended e he
    · exact ho

/-- The unit found for a line holds the job of that line. -/
theorem Capture.unitOf_eq_some {c : Capture} {port : Fin 24} {line : PinLine} {k : Fin 4}
    (h : c.unitOf port line = some k) : ∀ j, (c.units[k]).job? = some j → j.port = port ∧ j.line = line := by
  intro j hj
  have := List.find?_some h
  simp only [CaptureUnit.holds, hj] at this
  simpa using this

/-- What is known of the outcomes an event of a probe line hands on: those handed on before, the failures, and that of a job
whose closing edge comes while the part runs and its line is still LOW, at the counts of its unit or later ones. -/
structure State.HandsOn (Q : JobOutcome → Prop) (s : State) : Prop where
  failed : ∀ cause, Q (.failed cause)
  ended : ∀ e ∈ s.capture.outcomes, Q e.outcome
  closing : s.power = .running → ∀ (k : Fin 4) (j : Job) (w periods counted above : Nat),
    s.capture.units[k] = .counting j w periods counted above → s.capture.level j.line j.port = .low →
    ∀ total high, counted ≤ total → Q (closedOutcome j total high)

theorem State.HandsOn.elapse (h : s.HandsOn Q) (n : Nat) : (s.elapse n).HandsOn Q := by
  refine ⟨h.failed, h.ended, fun hrun k j w periods counted above hk hlevel total high hle => ?_⟩
  have hunit : (s.elapse n).capture.units[k] = (s.capture.units[k]).count s.capture.level n := by simp [State.elapse]
  rw [hunit] at hk
  cases hu : s.capture.units[k] with
  | idle => simp [hu, CaptureUnit.count] at hk
  | armed j' taken w' => simp [hu, CaptureUnit.count] at hk
  | counting j' w' periods' counted' above' =>
    rw [hu] at hk
    cases hk
    exact h.closing hrun k j w periods counted' above' hu hlevel total high (by omega)

theorem State.risingEdge_reaches (hended : ∀ e ∈ s.capture.outcomes, Q e.outcome) (port : Fin 24) (line : PinLine)
    (rests : Bool)
    (hclosing : ∀ (k : Fin 4) (j : Job) (w periods total high : Nat),
      s.capture.units[k] = .counting j w periods total high → j.port = port → j.line = line →
      Q (closedOutcome j total high)) :
    s.Reaches Q (s.risingEdge port line rests) := by
  unfold State.risingEdge
  split
  · exact .refl
  · rename_i k hk
    split
    · exact .refl
    · split <;> exact .of_records rfl
    · rename_i j w periods total high hunit
      obtain ⟨hport, hline⟩ := Capture.unitOf_eq_some hk j (by rw [hunit]; rfl)
      split
      · exact .refl
      · split
        · exact .of_records rfl
        · exact State.endJob_reaches hended (hclosing k j w periods total high hunit hport hline) k j

theorem LineFilter.level_of_rises {f : LineFilter} {now n : Nat} (h : f.changes now .high n = true) : f.level = .low := by
  cases hl : f.level with
  | low => rfl
  | high => simp [LineFilter.changes, hl] at h

theorem State.sampleLine_reaches (h : s.HandsOn Q) (hrun : s.power = .running) (port : Fin 24) (line : PinLine)
    (v : PinLevel) (n : Nat) : s.Reaches Q (s.sampleLine port line v n) := by
  let f := s.capture.filter line port
  have sampled : s.Reaches Q ((s.elapseTo (f.endsAt s.now v n)).setFilter line port (f.sample s.now v n)) :=
    .of_records rfl
  simp only [State.sampleLine]
  split
  · rename_i hrises
    obtain ⟨hchanges, hv⟩ := (Bool.and_eq_true _ _).mp hrises
    obtain rfl : v = .high := by simpa using hv
    have later := h.elapse ((s.capture.filter line port).endsAt s.now .high n - s.now)
    refine sampled.trans (State.risingEdge_reaches (by simpa using h.ended) port line _ ?_)
    rintro k j w periods total high hunit rfl rfl
    refine later.closing hrun k j w periods total high (by simpa [State.elapseTo] using hunit) ?_ total high le_rfl
    exact LineFilter.level_of_rises hchanges
  · exact sampled

theorem State.windowExpires_reaches (h : s.HandsOn Q) (port : Fin 24) (line : PinLine) :
    s.Reaches Q (s.windowExpires port line) := by
  have failed (j : Job) : Q (windowOutcome j) := by
    unfold windowOutcome
    split <;> exact h.failed _
  have ends (w : Nat) (k : Fin 4) (j : Job) : s.Reaches Q ((s.elapseTo w).endJob k j (windowOutcome j)) :=
    have elapsed : s.Reaches Q (s.elapseTo w) := .of_records rfl
    elapsed.trans (State.endJob_reaches (by simpa using h.ended) (failed j) k j)
  unfold State.windowExpires
  split
  · exact .refl
  · split
    · exact .refl
    · exact ends _ _ _
    · exact ends _ _ _

/-! ### Heaters (R101 to R104, R106) -/

theorem State.manualPurge_reaches (s : State) (p : Fin 24) : s.Reaches Q (s.manualPurge p) := by
  have waiting : s.Reaches Q (s.recordPoint p { (s.points[p]).run with phase := .waiting, satRun := 0 }) :=
    State.recordPoint_reaches ⟨.kept, .inr (.inl rfl)⟩
  exact (waiting.trans (State.arrivePurge_reaches _ p .manual)).trans (State.settle_reaches _)

theorem State.purgeExpires_reaches (s : State) (p : Fin 24) : s.Reaches Q (s.purgeExpires p) := by
  let ends := s.now + s.store.written.globals.recoveryTime * Config.ticksPerSecond
  let s1 : State := { s.setRun p { (s.points[p]).run with phase := .recovering } with
    purge := { s.purge.release p with recovery := (s.purge.release p).recovery.set p (some ends) } }
  have recovering : s.Reaches Q s1 :=
    .single (.of_run (p := p) (r := { (s.points[p]).run with phase := .recovering }) ⟨.kept, .inr (.inl rfl)⟩ rfl)
  exact ((recovering.trans s1.serve_reaches).frame (State.offer_records _ _)).trans (State.settle_reaches _)

/-- R104: the end of a recovery. -/
def PointRun.recovered (r : PointRun) : PointRun := { r with phase := .none, frozen := none }

theorem PointRun.recovered_moves (c : PointCfg) (r : PointRun) : r.Moves Q c r.recovered := ⟨.kept, .inl rfl⟩

theorem State.recoveryExpires_records (s : State) (p : Fin 24) :
    (s.recoveryExpires p).records =
      { s.records with points := s.points.set p { s.points[p] with run := (s.points[p]).run.recovered } } := rfl

theorem State.recoveryExpires_reaches (s : State) (p : Fin 24) : s.Reaches Q (s.recoveryExpires p) :=
  .single (.of_run (PointRun.recovered_moves _ _) (s.recoveryExpires_records p))

theorem State.periodStarts_records (s : State) (g : Grant) : (s.periodStarts g).records = s.records := by
  simp only [State.periodStarts]
  split
  · exact (State.setPurge_records _ _).trans (State.elapseTo_records _ _)
  · rfl

theorem State.onTimeEnds_records (s : State) (g : Grant) : (s.onTimeEnds g).records = s.records := by
  simp only [State.onTimeEnds]
  split
  · exact (State.setPurge_records _ _).trans (State.elapseTo_records _ _)
  · rfl

end

end Sys2Proof.Machine
end

section
/-! Every configuration a request writes is in range (3.6, R158), and the moves the requests of the line make. -/

namespace Sys2Proof.Machine

/-! ### Configurations in range (R17, R33, R76, R78, R94, R118, R150) -/

theorem PointCfg.limit_valid {c : PointCfg} (h : c.limit.cDry + 100 ≤ c.limit.cWet) : c.limit.Valid :=
  have ⟨hdry, _⟩ := limitNat_bounds (lo := 1000) (hi := 60000) (by norm_num) c.cDry
  have ⟨_, hwet⟩ := limitNat_bounds (lo := 1000) (hi := 60000) (by norm_num) c.cWet
  have hoffset := limitInt_bounds (lo := -500) (hi := 500) (by norm_num) c.tOffset
  ⟨hdry, h, hwet, hoffset⟩

/-- R17, R33: limiting puts the numeric fields of a surface configuration in range; its air list has to be sound. -/
theorem SurfaceCfg.limit_valid {c : SurfaceCfg} (hlen : 1 ≤ c.airList.length ∧ c.airList.length ≤ 4)
    (hpoints : (c.airList.map Member.point).Nodup) : c.limit.Valid := by
  have watch := limitInt_bounds (lo := 50) (hi := 1500) (by norm_num) c.watch
  refine ⟨by simpa [SurfaceCfg.limit] using hlen, ?_, ?_, watch, limitInt_bounds (by omega) _,
    limitInt_bounds (by norm_num) _, limitNat_bounds (by norm_num) _, limitNat_bounds (by norm_num) _,
    (limitNat_bounds (by norm_num) _).2, (limitNat_bounds (by norm_num) _).2⟩
  · simpa [SurfaceCfg.limit, Function.comp_def] using hpoints
  · intro m hm
    obtain ⟨m', -, rfl⟩ := List.mem_map.1 hm
    exact limitNat_bounds (by norm_num) _

theorem GlobalCfg.limit_valid {g : GlobalCfg} (h : g.divisorsOk = true) : g.limit.Valid := by
  obtain ⟨hF, hD⟩ := (Bool.and_eq_true _ _).mp h
  refine ⟨limitNat_bounds (by norm_num) _, ?_, ?_, limitNat_bounds (by norm_num) _, limitNat_bounds (by norm_num) _,
    limitNat_bounds (by norm_num) _, limitNat_bounds (by norm_num) _, limitNat_bounds (by norm_num) _,
    limitNat_bounds (by norm_num) _⟩
  · simpa [GlobalCfg.limit, or_assoc] using hF
  · simpa [GlobalCfg.limit, or_assoc] using hD

/-- R32, R33: the record of a SURFACE_WRITE that passes its checks is in range once limited: the points of its air list are
distinct because their numbers are, and are below 24. -/
theorem surfaceCfgAt_limit_valid {p : List Byte} (m : CombineMode) (hindex : surfaceIndexesOk p = true)
    (hstruct : surfaceStructureOk p = true) : (surfaceCfgAt m p).limit.Valid := by
  simp only [surfaceStructureOk, Bool.and_eq_true, decide_eq_true_eq] at hstruct
  obtain ⟨⟨⟨-, hlen⟩, -⟩, hnodup⟩ := hstruct
  simp only [surfaceIndexesOk, Bool.and_eq_true, Bool.or_eq_true, Bool.not_eq_true', decide_eq_true_eq] at hindex
  obtain ⟨⟨-, hbelow⟩, -⟩ := hindex
  have below : ∀ j < byteAt p 3, byteAt p (4 + 2 * j) < 24 := by
    obtain h | h := hbelow
    · simp [hlen.1, hlen.2] at h
    · simpa using h
  refine SurfaceCfg.limit_valid (by simpa [surfaceCfgAt] using hlen) ?_
  rw [show ((surfaceCfgAt m p).airList.map Member.point) =
    (List.range (byteAt p 3)).map fun j => (memberAt p j).point by simp [surfaceCfgAt, Function.comp_def]]
  refine List.Nodup.of_map Fin.val ?_
  rw [List.map_map]
  convert hnodup using 1
  refine List.map_congr_left fun j hj => ?_
  simpa [memberAt] using below j (List.mem_range.1 hj)

/-- A record that is replaced in a table does not break what holds of each of its records. -/
theorem forall_getElem_set {α : Type} {n : Nat} {P : α → Prop} {v : Vector α n} (h : ∀ q : Fin n, P v[q]) (p : Fin n)
    {a : α} (ha : P a) (q : Fin n) : P (v.set p a)[q] := by
  by_cases hq : (p : Nat) = q
  · simpa [hq] using ha
  · simpa [hq] using h q

theorem Image.factory_valid : Image.factory.Valid := by
  simp only [Image.Valid, PointCfg.Valid, SurfaceCfg.Valid, GlobalCfg.Valid]
  decide

theorem Image.Valid.work {i : Image} (h : i.Valid) : i.globals.work.Valid := by
  obtain ⟨-, -, ⟨hfault, hnF, hnD, hwindow, hsat, hmax, -⟩, -⟩ := h
  exact ⟨hfault, hnF, hnD, hwindow, hsat, hmax⟩

section
variable {Q : JobOutcome → Prop} {s t : State}

/-! ### Checks of a request (R158) -/

/-- A request that is refused under `c` has only its other cases to look at. -/
theorem State.Reaches.unless {c : Prop} [Decidable c] {st : Status} {r : State × Answer}
    (h : ¬c → s.Reaches Q r.1) : s.Reaches Q (if c then s.refuse st else r).1 := by
  split
  · exact .refl
  · exact h (by assumption)

/-- A request that is refused but under `c` has only that case to look at. -/
theorem State.Reaches.onlyIf {c : Prop} [Decidable c] {st : Status} {r : State × Answer}
    (h : c → s.Reaches Q r.1) : s.Reaches Q (if c then r else s.refuse st).1 := by
  split
  · exact h (by assumption)
  · exact .refl

/-! ### Writes to the written image -/

theorem Store.write_moves {t : Store} {i : Image} (h : t.written.Valid → i.Valid) :
    t.Moves { t with written := i, dirty := true } :=
  ⟨fun ⟨hwritten, hrest⟩ => ⟨h hwritten, hrest⟩, id⟩

theorem State.writeImage_reaches {i : Image} (h : s.store.written.Valid → i.Valid) : s.Reaches Q (s.writeImage i) :=
  .single (.of_store (Store.write_moves h) rfl)

theorem State.writePoint_reaches {c : PointCfg} (hc : c.Valid) (p : Fin 24) : s.Reaches Q (s.writePoint p c) :=
  State.writeImage_reaches fun ⟨hpoints, hrest⟩ => ⟨forall_getElem_set hpoints p hc, hrest⟩

theorem State.writeSurface_reaches {c : SurfaceCfg} (hc : c.Valid) (i : Fin 16) : s.Reaches Q (s.writeSurface i c) :=
  State.writeImage_reaches fun ⟨hpoints, hsurfaces, hrest⟩ => ⟨hpoints, forall_getElem_set hsurfaces i hc, hrest⟩

theorem State.writeOutput_reaches {c : OutputCfg} (hc : c.minOn ≤ 3600 ∧ c.minOff ≤ 3600) (o : Fin 2) :
    s.Reaches Q (s.writeOutput o c) := by
  have written : s.Reaches Q (s.writeImage { s.store.written with outputs := s.store.written.outputs.set o c }) :=
    State.writeImage_reaches fun ⟨hpoints, hsurfaces, hglobals, hwet, houtputs, hinterval⟩ =>
      ⟨hpoints, hsurfaces, hglobals, hwet,
        forall_getElem_set (P := fun c : OutputCfg => c.minOn ≤ 3600 ∧ c.minOff ≤ 3600) houtputs o hc, hinterval⟩
  exact written.frame (State.evalOutputs_records _)

theorem State.writeWet_reaches {c : WetCfg} (hc : 5 ≤ c.debounce ∧ c.debounce ≤ 300) : s.Reaches Q (s.writeWet c) := by
  have written : s.Reaches Q (s.writeImage { s.store.written with wet := c }) :=
    State.writeImage_reaches fun ⟨hpoints, hsurfaces, hglobals, _, houtputs, hinterval⟩ =>
      ⟨hpoints, hsurfaces, hglobals, hc, houtputs, hinterval⟩
  exact written.trans (State.actOnLines_reaches _ _).1

theorem State.writeGlobals_reaches {g : GlobalCfg} (hg : g.Valid) :
    s.Reaches Q (s.writeImage { s.store.written with globals := g }) :=
  State.writeImage_reaches fun ⟨hpoints, hsurfaces, _, hrest⟩ => ⟨hpoints, hsurfaces, hg, hrest⟩

theorem State.writeStartMode_reaches (s : State) (m : SweepMode) : s.Reaches Q (s.writeStartMode m) := by
  unfold State.writeStartMode
  split
  · exact .refl
  · exact State.writeImage_reaches id

theorem State.writeInterval_reaches {v : Nat} (hv : 2 ≤ v ∧ v ≤ 600) : s.Reaches Q (s.writeInterval v) := by
  unfold State.writeInterval
  split
  · exact .refl
  · exact State.writeImage_reaches fun ⟨hpoints, hsurfaces, hglobals, hwet, houtputs, _⟩ =>
      ⟨hpoints, hsurfaces, hglobals, hwet, houtputs, hv⟩

theorem pointWriteRequest_reaches (p : List Byte) (s : State) : s.Reaches Q (pointWriteRequest p s).1 := by
  refine .unless fun _ => .unless fun _ => .unless fun _ => ?_
  split
  · exact .refl
  · exact .unless fun hgap => State.writePoint_reaches (PointCfg.limit_valid (by omega)) _

theorem surfaceWriteRequest_reaches (p : List Byte) (s : State) : s.Reaches Q (surfaceWriteRequest p s).1 := by
  refine .unless fun _ => .unless fun _ => .unless fun hindex => ?_
  split
  · exact .refl
  · exact .onlyIf fun hstruct =>
      State.writeSurface_reaches (surfaceCfgAt_limit_valid _ (by simpa using hindex) hstruct) _

theorem globalWriteRequest_reaches (p : List Byte) (s : State) : s.Reaches Q (globalWriteRequest p s).1 :=
  .unless fun _ => .unless fun _ => .onlyIf fun hdivisors =>
    State.writeGlobals_reaches (GlobalCfg.limit_valid hdivisors)

theorem outputWriteRequest_reaches (p : List Byte) (s : State) : s.Reaches Q (outputWriteRequest p s).1 := by
  refine .unless fun _ => .unless fun _ => .unless fun _ => ?_
  split
  · exact .onlyIf fun _ => State.writeOutput_reaches
      ⟨(limitNat_bounds (by norm_num) _).2, (limitNat_bounds (by norm_num) _).2⟩ _
  · exact .refl

theorem wetlineWriteRequest_reaches (p : List Byte) (s : State) : s.Reaches Q (wetlineWriteRequest p s).1 :=
  .unless fun _ => .unless fun _ => .onlyIf fun _ => State.writeWet_reaches (limitNat_bounds (by norm_num) _)

/-! ### Sweeps (R124 to R128, R133) -/

theorem State.run_reaches (s : State) : s.Reaches Q s.run := by
  let w := ({ s.sweep with mode := .continuous }).takePending.loadTimer s.now
  have loaded : s.Reaches Q { s with sweep := w } :=
    .single (.of_intervals (fun _ h => Sweep.takePending_inRange (w := { s.sweep with mode := .continuous }) h) rfl)
  have written := loaded.trans (State.writeStartMode_reaches _ .continuous)
  unfold State.run
  split
  · exact .refl
  · simp only
    split
    · exact written
    · exact written.trans (State.startSweep_reaches _)

theorem State.stop_reaches (s : State) : s.Reaches Q s.stop := by
  have stopped : s.Reaches Q { s with sweep := { s.sweep with mode := .stopped, timer := none } } := .of_records rfl
  unfold State.stop
  split
  · exact .refl
  · exact stopped.trans (State.writeStartMode_reaches _ .stopped)

theorem State.setInterval_reaches {v : Nat} (hv : 2 ≤ v ∧ v ≤ 600) : s.Reaches Q (s.setInterval v) := by
  have pending : s.Reaches Q { s with sweep := { s.sweep with pendingIv := some v } } :=
    .single (.of_intervals (fun _ ⟨hin, _⟩ => ⟨hin, fun u hu => by cases hu; exact hv⟩) rfl)
  exact pending.trans (State.writeInterval_reaches hv)

theorem sweepRunRequest_reaches (p : List Byte) (s : State) : s.Reaches Q (sweepRunRequest p s).1 :=
  .unless fun _ => .unless fun _ => s.run_reaches

theorem sweepStopRequest_reaches (p : List Byte) (s : State) : s.Reaches Q (sweepStopRequest p s).1 :=
  .unless fun _ => .unless fun _ => s.stop_reaches

theorem sweepOnceRequest_reaches (p : List Byte) (s : State) : s.Reaches Q (sweepOnceRequest p s).1 :=
  .unless fun _ => .unless fun _ => .unless fun _ => s.startSweep_reaches

theorem sweepIntervalRequest_reaches (p : List Byte) (s : State) : s.Reaches Q (sweepIntervalRequest p s).1 :=
  .unless fun _ => .unless fun _ => State.setInterval_reaches (limitNat_bounds (by norm_num) _)

theorem sweepRequest_reaches (p : List Byte) (s : State) : s.Reaches Q (sweepRequest p s).1 := by
  unfold sweepRequest
  split
  · exact .refl
  · split
    · exact sweepRunRequest_reaches _ s
    · exact sweepStopRequest_reaches _ s
    · exact sweepOnceRequest_reaches _ s
    · exact sweepIntervalRequest_reaches _ s
    · exact .unless fun _ => .refl

theorem snapArmRequest_reaches (p : List Byte) (s : State) : s.Reaches Q (snapArmRequest p s).1 :=
  .unless fun _ => .of_records rfl

/-! ### Acknowledgements, purges and the store (R106, R115, R140, R165 to R168) -/

theorem noticeDropRequest_reaches (p : List Byte) (s : State) : s.Reaches Q (noticeDropRequest p s).1 :=
  .unless fun _ => .of_records rfl

theorem wetAckRequest_reaches (p : List Byte) (s : State) : s.Reaches Q (wetAckRequest p s).1 :=
  .unless fun _ => .unless fun _ => .unless fun _ => s.clearLatch_reaches _

theorem purgeRequest_reaches (p : List Byte) (s : State) : s.Reaches Q (purgeRequest p s).1 :=
  .unless fun _ => .unless fun _ => .onlyIf fun _ => s.manualPurge_reaches _

/-- R166: the copy a SAVE takes is the written image. -/
theorem saveRequest_reaches (p : List Byte) (s : State) : s.Reaches Q (saveRequest p s).1 := by
  refine .unless fun _ => .unless fun _ => .single (.of_store ⟨?_, id⟩ rfl)
  rintro ⟨hwritten, hsaved, hnv, -⟩
  exact ⟨hwritten, hsaved, hnv, fun i hi => by cases hi; exact hwritten⟩

/-- R167: the end of a SAVE stores the copy under its CRC, or leaves no image. -/
theorem Store.saved?_moves {t : Store} {copy : Image} (h : t.saving = some copy) (verified : Bool) :
    t.Moves (t.saved? copy verified) := by
  unfold Store.saved?
  split
  · constructor
    · rintro ⟨hwritten, -, -, hsaving⟩
      have hcopy := hsaving copy h
      exact ⟨hwritten, fun m hm => by cases hm; exact hcopy, fun m hm => by cases hm; exact hcopy, nofun⟩
    · rintro - m (hm | hm) <;> cases hm <;> rfl
  · constructor
    · rintro ⟨hwritten, -⟩
      exact ⟨hwritten, nofun, nofun, nofun⟩
    · rintro - m (hm | hm) <;> cases hm

theorem State.saveEnds_reaches {copy : Image} (h : s.store.saving = some copy) (verified : Bool) :
    s.Reaches Q (s.saveEnds copy verified) :=
  .single (.of_store (Store.saved?_moves h verified) rfl)

/-- R168: the saved image becomes the written one, and its interval the pending one. -/
theorem State.loadImage_reaches {m : SavedImage} (h : s.store.saved = some m) : s.Reaches Q (s.loadImage m.image) := by
  let s1 : State := { s with store := { s.store with written := m.image, dirty := false } }
  let s2 := ((s1.actOnLines s.store.written.wet.enabled).evalOutputs).evalOutputs
  have written : s.Reaches Q s1 :=
    .single (.of_store ⟨fun ⟨_, hsaved, hrest⟩ => ⟨hsaved m h, hsaved, hrest⟩, id⟩ rfl)
  obtain ⟨acted, hstore⟩ := s1.actOnLines_reaches (Q := Q) s.store.written.wet.enabled
  have evaluated : s.Reaches Q s2 := (written.trans acted).frame (by simp [s2])
  refine evaluated.tail (.of_intervals (fun hvalid hin => ⟨hin.1, fun v hv => ?_⟩) rfl)
  have hwritten : s2.store.written = m.image := by simp [s2, hstore, s1]
  obtain ⟨-, -, -, -, -, hinterval⟩ := hvalid
  cases hv
  rwa [hwritten] at hinterval

theorem loadRequest_reaches (p : List Byte) (s : State) : s.Reaches Q (loadRequest p s).1 := by
  refine .unless fun _ => .unless fun _ => ?_
  split
  · exact .refl
  · exact State.loadImage_reaches (by assumption)

/-! ### Requests that only read -/

theorem identRequest_reaches (p : List Byte) (s : State) : s.Reaches Q (identRequest p s).1 :=
  .unless fun _ => .refl

theorem statusRequest_reaches (p : List Byte) (s : State) : s.Reaches Q (statusRequest p s).1 :=
  .unless fun _ => .refl

theorem pointReadRequest_reaches (p : List Byte) (s : State) : s.Reaches Q (pointReadRequest p s).1 := by
  refine .unless fun _ => .unless fun _ => ?_
  dsimp only
  split
  · exact .refl
  · exact .refl
  · exact .refl
  · exact .refl

theorem surfaceReadRequest_reaches (p : List Byte) (s : State) : s.Reaches Q (surfaceReadRequest p s).1 := by
  refine .unless fun _ => .unless fun _ => ?_
  dsimp only
  split
  · exact .refl
  · exact .refl
  · exact .refl
  · exact .refl

theorem globalReadRequest_reaches (p : List Byte) (s : State) : s.Reaches Q (globalReadRequest p s).1 :=
  .unless fun _ => .refl

theorem outputReadRequest_reaches (p : List Byte) (s : State) : s.Reaches Q (outputReadRequest p s).1 :=
  .unless fun _ => .unless fun _ => .refl

theorem wetlineReadRequest_reaches (p : List Byte) (s : State) : s.Reaches Q (wetlineReadRequest p s).1 :=
  .unless fun _ => .refl

theorem noticeReadRequest_reaches (p : List Byte) (s : State) : s.Reaches Q (noticeReadRequest p s).1 :=
  .unless fun _ => .refl

theorem rankReadRequest_reaches (p : List Byte) (s : State) : s.Reaches Q (rankReadRequest p s).1 :=
  .unless fun _ => .refl

theorem snapReadRequest_reaches (p : List Byte) (s : State) : s.Reaches Q (snapReadRequest p s).1 := by
  refine .unless fun _ => .unless fun _ => ?_
  split
  · exact .refl
  · exact .refl

end

end Sys2Proof.Machine
end

section
/-! Taking requests and frames, RESTART and the start-up path, the moves of a whole step, and the bounds every step keeps. -/

namespace Sys2Proof.Machine

section
variable {Q : JobOutcome → Prop} {s t : State}

/-! ### The line (R153 to R157, R162) -/

theorem State.answer_reaches {handle : State → State × Answer} (h : s.Reaches Q (handle s).1) (kind : Byte) :
    s.Reaches Q (s.answer kind handle) := by
  cases htakes : s.takesOwn with
  | true => rw [State.answer_of_takes htakes]; exact h.frame (State.postReply_records _ _ _)
  | false => rw [State.answer_of_not htakes]

theorem State.broadcast_reaches {handle : State → State × Answer} (h : s.Reaches Q (handle s).1) :
    s.Reaches Q (s.broadcast handle) := by
  cases hreceives : s.receives with
  | true => rw [State.broadcast_of_receives hreceives]; exact h.frame (State.hunt_records _)
  | false => rw [State.broadcast_of_not hreceives]

theorem State.request_reaches {handle : State → State × Answer} (h : s.Reaches Q (handle s).1) (dest : Dest)
    (kind : Byte) : s.Reaches Q (s.request dest kind handle) := by
  cases dest with
  | own => exact State.answer_reaches h kind
  | broadcast => exact State.broadcast_reaches h

/-- R162: RESTART clears the runtime part of every point and surface. -/
theorem State.restartBlocks_reaches (s : State) : s.Reaches Q s.restartBlocks := by
  refine .single ⟨?_, fun p => ?_, fun k => ?_, ?_, ?_⟩
  · rw [State.restartBlocks_store]
    exact .refl _
  · exact ⟨.inl (by simp [State.restartBlocks]), .cleared (by simp [State.restartBlocks, PointRun.fresh])
      (by simp [State.restartBlocks, PointRun.fresh])⟩
  · exact ⟨.inl (by simp [State.restartBlocks, State.restartSurface]),
      .inl (by simp [State.restartBlocks, State.restartSurface, SurfaceRun.cleared])⟩
  · rw [State.restartBlocks_work]
    exact fun _ => id
  · exact fun _ h => h.of_eq (by simp only [State.restartBlocks]) (by simp only [State.restartBlocks])

theorem State.restart_reaches (s : State) : s.Reaches Q s.restart := by
  unfold State.restart
  dsimp only
  split
  · exact s.restartBlocks_reaches
  · exact (s.restartBlocks_reaches.trans (State.loadTimer_reaches _ _)).trans (State.startSweep_reaches _)

theorem State.restartOwn_reaches (s : State) (p : List Byte) : s.Reaches Q (s.restartOwn p) := by
  have replied (a : Answer) : s.Reaches Q (s.postReply 0x32 a) := .of_records (State.postReply_records s _ a)
  unfold State.restartOwn
  dsimp only
  split
  · split
    · exact (replied _).trans (State.restart_reaches _)
    · exact replied _
  · exact .refl

theorem State.restartBroadcast_reaches (s : State) (p : List Byte) : s.Reaches Q (s.restartBroadcast p) := by
  have hunted : s.Reaches Q s.hunt := .of_records s.hunt_records
  unfold State.restartBroadcast
  split
  · split
    · exact hunted.trans s.hunt.restart_reaches
    · exact hunted
  · exact .refl

theorem State.dropFrame_records (s : State) : s.dropFrame.records = s.records := by
  unfold State.dropFrame
  split <;> rfl

theorem State.dispatchOwn_reaches (s : State) (kind : Byte) (p : List Byte) : s.Reaches Q (s.dispatchOwn kind p) := by
  unfold State.dispatchOwn
  split
  · exact State.answer_reaches (identRequest_reaches p s) kind
  · exact State.answer_reaches (statusRequest_reaches p s) kind
  · exact State.answer_reaches (pointWriteRequest_reaches p s) kind
  · exact State.answer_reaches (pointReadRequest_reaches p s) kind
  · exact State.answer_reaches (surfaceWriteRequest_reaches p s) kind
  · exact State.answer_reaches (surfaceReadRequest_reaches p s) kind
  · exact State.answer_reaches (globalWriteRequest_reaches p s) kind
  · exact State.answer_reaches (globalReadRequest_reaches p s) kind
  · exact State.answer_reaches (outputWriteRequest_reaches p s) kind
  · exact State.answer_reaches (outputReadRequest_reaches p s) kind
  · exact State.answer_reaches (wetlineWriteRequest_reaches p s) kind
  · exact State.answer_reaches (wetlineReadRequest_reaches p s) kind
  · exact State.answer_reaches (sweepRequest_reaches p s) kind
  · exact State.answer_reaches (noticeReadRequest_reaches p s) kind
  · exact State.answer_reaches (noticeDropRequest_reaches p s) kind
  · exact State.answer_reaches (rankReadRequest_reaches p s) kind
  · exact State.answer_reaches (snapArmRequest_reaches p s) kind
  · exact State.answer_reaches (snapReadRequest_reaches p s) kind
  · exact State.answer_reaches (wetAckRequest_reaches p s) kind
  · exact State.answer_reaches (purgeRequest_reaches p s) kind
  · exact State.answer_reaches (saveRequest_reaches p s) kind
  · exact State.answer_reaches (loadRequest_reaches p s) kind
  · exact s.restartOwn_reaches p
  · exact State.answer_reaches .refl kind

theorem State.dispatchBroadcast_reaches (s : State) (kind : Byte) (p : List Byte) :
    s.Reaches Q (s.dispatchBroadcast kind p) := by
  unfold State.dispatchBroadcast
  split
  · exact State.broadcast_reaches (sweepRequest_reaches p s)
  · exact State.broadcast_reaches (snapArmRequest_reaches p s)
  · exact s.restartBroadcast_reaches p
  · exact .of_records s.dropFrame_records

theorem State.judgeFrame_reaches (s : State) (buffer : List Byte) : s.Reaches Q (s.judgeFrame buffer) := by
  unfold State.judgeFrame
  dsimp only
  split
  · exact .of_records s.dropFrame_records
  · split
    · exact s.dispatchBroadcast_reaches _ _
    · split
      · exact s.dispatchOwn_reaches _ _
      · exact .of_records s.dropFrame_records

theorem State.huntByte_records (s : State) (b : Byte) : (s.huntByte b).records = s.records := by
  unfold State.huntByte
  split <;> rfl

theorem State.frameByte_reaches (s : State) (b : Byte) : s.Reaches Q (s.frameByte b) := by
  unfold State.frameByte
  dsimp only
  split
  · exact .of_records s.hunt_records
  · split
    · exact s.judgeFrame_reaches _
    · exact .of_records rfl

theorem State.receiveByte_reaches (s : State) (b : Byte) (silence : Nat) : s.Reaches Q (s.receiveByte b silence) := by
  unfold State.receiveByte
  split
  · exact .refl
  · exact .of_records (s.huntByte_records b)
  · split
    · exact .of_records (s.huntByte_records b)
    · exact s.frameByte_reaches b

/-! ### Supply and reset (R167, R169) -/

/-- R30, R73, R109, R121: blocks at their power-on values under the written image. -/
theorem State.Move.of_fresh (hstore : t.store = s.store)
    (hpoints : ∀ p : Fin 24, t.points[p] = .fresh s.store.written.points[p])
    (hsurfaces : ∀ k : Fin 16, t.surfaces[k] = .fresh s.store.written.surfaces[k])
    (hwork : t.work = s.store.written.globals.work) (hinterval : t.sweep.interval = s.store.written.interval)
    (hpending : t.sweep.pendingIv = none) : s.Move Q t := by
  refine ⟨hstore ▸ .refl _, fun p => ?_, fun k => ?_, fun hvalid _ => hwork ▸ hvalid.work, fun hvalid _ => ?_⟩
  · rw [hpoints p]
    exact ⟨.inr rfl, .cleared rfl rfl⟩
  · rw [hsurfaces k]
    exact ⟨.inr rfl, .inl rfl⟩
  · obtain ⟨-, -, -, -, -, hin⟩ := hvalid
    exact ⟨hinterval ▸ hin, fun v hv => by rw [hpending] at hv; cases hv⟩

/-- R169 step 3: the image a start-up loads is the one the nonvolatile memory holds. -/
theorem Store.startImage_eq_some {t : Store} {pins : StartPins} {i : Image} (h : t.startImage pins = some i) :
    ∃ m, t.nv = some m ∧ m.image = i := by
  unfold Store.startImage at h
  split at h
  · cases h
  · rename_i m hm
    split at h
    · cases h
      exact ⟨m, hm, rfl⟩
    · cases h

/-- R165, R169: the start-up load leaves the image loaded, saved under its CRC, and the nonvolatile content. -/
theorem Store.started_moves (t : Store) (pins : StartPins) : t.Moves (.started t.nv (t.startImage pins)) := by
  have kept {m : SavedImage} (h : (Store.started t.nv (t.startImage pins)).nv = some m) : t.nv = some m := by
    simp only [Store.started] at h
    split at h
    · exact h
    · cases h
  constructor
  · rintro ⟨-, -, hnv, -⟩
    have loaded : ((t.startImage pins).getD .factory).Valid := by
      cases hstart : t.startImage pins with
      | none => exact Image.factory_valid
      | some i =>
        obtain ⟨m, hm, rfl⟩ := Store.startImage_eq_some hstart
        exact hnv m hm
    exact ⟨loaded, fun m hm => by cases hm; exact loaded, fun m hm => hnv m (kept hm), nofun⟩
  · rintro hsealed m (hm | hm)
    · cases hm
      rfl
    · exact hsealed m (.inr (kept hm))

theorem State.startUp_reaches (s : State) (cause : Nat) (pins : StartPins) : s.Reaches Q (s.startUp cause pins) := by
  let s1 : State := { s with store := .started s.store.nv (s.store.startImage pins) }
  have loaded : s.Reaches Q s1 := .single (.of_store (Store.started_moves s.store pins) rfl)
  have started : s.Reaches Q (s.startBlocks cause pins (s.store.startImage pins)) :=
    loaded.tail (.of_fresh rfl (fun p => by simp [State.startBlocks, s1, Store.started])
      (fun k => by simp [State.startBlocks, s1, Store.started]) rfl rfl rfl)
  unfold State.startUp State.startUpOn
  dsimp only
  split
  · exact started
  · have timed := started.frame (u := { s.startBlocks cause pins (s.store.startImage pins) with
      sweep := (s.startBlocks cause pins (s.store.startImage pins)).sweep.loadTimer s.now }) rfl
    exact timed.trans (State.startSweep_reaches _)

/-- R167: cutting a SAVE short adds no image. -/
theorem Store.cutSave_moves (t : Store) : t.Moves t.cutSave := by
  have kept {m : SavedImage} (h : t.cutSave.nv = some m) : t.nv = some m := by
    simp only [Store.cutSave] at h
    split at h
    · cases h
    · exact h
  constructor
  · rintro ⟨hwritten, hsaved, hnv, -⟩
    exact ⟨hwritten, hsaved, fun m hm => hnv m (kept hm), nofun⟩
  · rintro hsealed m (hm | hm)
    · exact hsealed m (.inl hm)
    · exact hsealed m (.inr (kept hm))

theorem State.hold_reaches (s : State) : s.Reaches Q s.hold :=
  .single (.of_store s.store.cutSave_moves rfl)

/-- R167: without supply only the nonvolatile content is left. -/
theorem Store.lost_moves (t : Store) :
    t.Moves { written := .factory, saved := none, nv := t.cutSave.nv, dirty := false, nvFault := false, saving := none } := by
  have cut := t.cutSave_moves
  constructor
  · intro himages
    obtain ⟨-, -, hnv, -⟩ := cut.images himages
    exact ⟨Image.factory_valid, nofun, hnv, nofun⟩
  · rintro hsealed m (hm | hm)
    · cases hm
    · exact cut.seals hsealed m (.inr hm)

theorem State.losePower_reaches (s : State) : s.Reaches Q s.losePower := by
  have lost : s.Reaches Q { s with store := s.losePower.store } := .single (.of_store s.store.lost_moves rfl)
  exact lost.tail (.of_fresh rfl (fun p => by simp [State.losePower, State.startBlocks])
    (fun k => by simp [State.losePower, State.startBlocks]) rfl rfl rfl)

end

end Sys2Proof.Machine
end

section
/-! The moves of each command and of a step, and the bounds every step keeps. -/

namespace Sys2Proof.Machine

/-- What an outcome that is a next state comes to, when moves lead there. -/
def State.LeadsTo (Q : JobOutcome → Prop) (s : State) : Host.Outcome State Fault Refusal → Prop
  | .next t => s.Reaches Q t
  | .fault _ => True
  | .refused _ => True

section
variable {Q : JobOutcome → Prop} {s t : State}

/-! ### Supply and reset -/

theorem execPowerOn_leadsTo (pins : StartPins) (s : State) : s.LeadsTo Q (execPowerOn pins s) := by
  unfold execPowerOn
  split
  · exact s.startUp_reaches 1 pins
  · exact .of_records rfl
  · exact s.losePower_reaches.frame (State.setPower_records _ _)
  · exact s.losePower_reaches.trans (s.losePower.startUp_reaches 1 pins)

theorem execResetPinAssert_leadsTo (s : State) : s.LeadsTo Q (execResetPinAssert s) := by
  unfold execResetPinAssert
  split
  · exact s.hold_reaches
  · exact .of_records rfl
  · exact .refl
  · exact .refl

theorem execResetPinRelease_leadsTo (pins : StartPins) (s : State) : s.LeadsTo Q (execResetPinRelease pins s) := by
  unfold execResetPinRelease
  split
  · exact s.startUp_reaches 2 pins
  · exact .of_records rfl
  · exact .refl
  · exact .refl

theorem execPowerLoss_leadsTo (s : State) : s.LeadsTo Q (execPowerLoss s) := by
  unfold execPowerLoss
  split
  · exact .refl
  · exact .refl
  · exact s.losePower_reaches.frame (State.setPower_records _ _)
  · exact s.losePower_reaches

/-! ### The line -/

theorem execRestart_leadsTo (dest : Dest) (p : List Byte) (s : State) : s.LeadsTo Q (execRestart dest p s) := by
  cases dest with
  | own => exact s.restartOwn_reaches p
  | broadcast => exact s.restartBroadcast_reaches p

theorem execReplyStart_leadsTo (s : State) : s.LeadsTo Q (execReplyStart s) := by
  unfold execReplyStart
  split <;> exact .of_records rfl

theorem execReplyEnd_leadsTo (s : State) : s.LeadsTo Q (execReplyEnd s) := by
  unfold execReplyEnd
  split <;> exact .of_records rfl

theorem execSecondsCount_leadsTo (s : State) : s.LeadsTo Q (execSecondsCount s) := by
  unfold execSecondsCount
  split
  · exact .of_records ((State.setLink_records _ _).trans (State.elapseTo_records _ _))
  · exact .refl

theorem execByteReceived_leadsTo (b : Byte) (silence : Nat) (s : State) :
    s.LeadsTo Q (execByteReceived b silence s) := by
  unfold execByteReceived
  split
  · exact s.receiveByte_reaches b silence
  · exact .refl

theorem execSaveComplete_leadsTo (verified : Bool) (s : State) : s.LeadsTo Q (execSaveComplete verified s) := by
  unfold execSaveComplete
  split
  · rename_i copy _ hsaving
    exact State.saveEnds_reaches hsaving verified
  · exact .refl

/-! ### Timers -/

theorem State.elapseTo_reaches (s : State) (n : Nat) : s.Reaches Q (s.elapseTo n) := .of_records (s.elapseTo_records n)

theorem execSweepTimerExpiry_leadsTo (s : State) : s.LeadsTo Q (execSweepTimerExpiry s) := by
  unfold execSweepTimerExpiry
  split
  · exact (s.elapseTo_reaches _).trans (State.sweepTimerExpires_reaches _ _)
  · exact .refl

theorem execHeaterPeriodStart_leadsTo (p : Fin 24) (s : State) : s.LeadsTo Q (execHeaterPeriodStart p s) := by
  unfold execHeaterPeriodStart
  split
  · exact .of_records (s.periodStarts_records _)
  · exact .refl

theorem execHeaterOnTimeEnd_leadsTo (p : Fin 24) (s : State) : s.LeadsTo Q (execHeaterOnTimeEnd p s) := by
  unfold execHeaterOnTimeEnd
  split
  · exact .of_records (s.onTimeEnds_records _)
  · exact .refl

theorem execPurgeTimerExpiry_leadsTo (p : Fin 24) (s : State) : s.LeadsTo Q (execPurgeTimerExpiry p s) := by
  unfold execPurgeTimerExpiry
  split
  · exact (s.elapseTo_reaches _).trans (State.purgeExpires_reaches _ p)
  · exact .refl

theorem execRecoveryTimerExpiry_leadsTo (p : Fin 24) (s : State) : s.LeadsTo Q (execRecoveryTimerExpiry p s) := by
  unfold execRecoveryTimerExpiry
  split
  · exact (s.elapseTo_reaches _).trans (State.recoveryExpires_reaches _ p)
  · exact .refl

theorem execRawLevelChange_leadsTo (l : Fin 8) (ohms : Nat) (s : State) : s.LeadsTo Q (execRawLevelChange l ohms s) := by
  unfold execRawLevelChange
  split
  · exact s.rawChange_reaches l _
  · exact .refl

theorem execDebounceExpiry_leadsTo (l : Fin 8) (s : State) : s.LeadsTo Q (execDebounceExpiry l s) := by
  unfold execDebounceExpiry
  split
  · exact (s.elapseTo_reaches _).trans (State.debounceExpires_reaches _ l)
  · exact .refl

theorem execMinOnExpiry_leadsTo (o : Fin 2) (s : State) : s.LeadsTo Q (execMinOnExpiry o s) := by
  unfold execMinOnExpiry
  split
  · exact (s.elapseTo_reaches _).frame (State.setOut_records _ o _)
  · exact .refl

theorem execMinOffExpiry_leadsTo (o : Fin 2) (s : State) : s.LeadsTo Q (execMinOffExpiry o s) := by
  unfold execMinOffExpiry
  split
  · exact (s.elapseTo_reaches _).frame (State.setOut_records _ o _)
  · exact .refl

/-! ### Probe lines -/

theorem execStartEdge_leadsTo (h : s.HandsOn Q) (port : Fin 24) (line : PinLine) :
    s.LeadsTo Q (execStartEdge port line s) := by
  unfold execStartEdge
  split
  · rename_i hdue
    obtain ⟨hrun, -⟩ := (Bool.and_eq_true _ _).mp hdue
    exact State.sampleLine_reaches h (of_decide_eq_true hrun) port line .high _
  · exact .refl

theorem execCaptureJobComplete_leadsTo (h : s.HandsOn Q) (port : Fin 24) (line : PinLine) (total high : Nat) :
    s.LeadsTo Q (execCaptureJobComplete port line total high s) := by
  have elapsed : s.Reaches Q (s.elapse (s.ticksTo port line total)) := .of_records (s.elapse_records _)
  unfold execCaptureJobComplete
  dsimp only
  split
  · rename_i hdue
    obtain ⟨hrun, -⟩ := (Bool.and_eq_true _ _).mp hdue
    exact elapsed.trans (State.sampleLine_reaches (h.elapse _) (of_decide_eq_true hrun) port line .high _)
  · exact .refl

theorem execCaptureWindowExpiry_leadsTo (h : s.HandsOn Q) (port : Fin 24) (line : PinLine) :
    s.LeadsTo Q (execCaptureWindowExpiry port line s) := by
  unfold execCaptureWindowExpiry
  split
  · exact State.windowExpires_reaches h port line
  · exact .refl

theorem execFilteredLevelChange_leadsTo (h : s.HandsOn Q) (port : Fin 24) (line : PinLine) (run : SampleRun) :
    s.LeadsTo Q (execFilteredLevelChange port line run s) := by
  unfold execFilteredLevelChange
  split
  · rename_i hrun
    exact State.sampleLine_reaches h hrun port line _ _
  · exact .refl

/-! ### Commands and steps -/

theorem exec_leadsTo (h : s.HandsOn Q) (i : Instr) : s.LeadsTo Q (exec i s) := by
  cases i with
  | powerOn pins => exact execPowerOn_leadsTo pins s
  | resetPinAssert => exact execResetPinAssert_leadsTo s
  | resetPinRelease pins => exact execResetPinRelease_leadsTo pins s
  | ident p => exact State.answer_reaches (identRequest_reaches p s) _
  | status p => exact State.answer_reaches (statusRequest_reaches p s) _
  | pointWrite p => exact State.answer_reaches (pointWriteRequest_reaches p s) _
  | pointRead p => exact State.answer_reaches (pointReadRequest_reaches p s) _
  | surfaceWrite p => exact State.answer_reaches (surfaceWriteRequest_reaches p s) _
  | surfaceRead p => exact State.answer_reaches (surfaceReadRequest_reaches p s) _
  | globalWrite p => exact State.answer_reaches (globalWriteRequest_reaches p s) _
  | globalRead p => exact State.answer_reaches (globalReadRequest_reaches p s) _
  | outputWrite p => exact State.answer_reaches (outputWriteRequest_reaches p s) _
  | outputRead p => exact State.answer_reaches (outputReadRequest_reaches p s) _
  | wetlineWrite p => exact State.answer_reaches (wetlineWriteRequest_reaches p s) _
  | wetlineRead p => exact State.answer_reaches (wetlineReadRequest_reaches p s) _
  | sweepRun dest r => exact State.request_reaches (sweepRunRequest_reaches r s) dest _
  | sweepStop dest r => exact State.request_reaches (sweepStopRequest_reaches r s) dest _
  | sweepOnce dest r => exact State.request_reaches (sweepOnceRequest_reaches r s) dest _
  | sweepInterval dest r => exact State.request_reaches (sweepIntervalRequest_reaches r s) dest _
  | noticeRead p => exact State.answer_reaches (noticeReadRequest_reaches p s) _
  | noticeDrop p => exact State.answer_reaches (noticeDropRequest_reaches p s) _
  | rankRead p => exact State.answer_reaches (rankReadRequest_reaches p s) _
  | snapArm dest p => exact State.request_reaches (snapArmRequest_reaches p s) dest _
  | snapRead p => exact State.answer_reaches (snapReadRequest_reaches p s) _
  | wetAck p => exact State.answer_reaches (wetAckRequest_reaches p s) _
  | purge p => exact State.answer_reaches (purgeRequest_reaches p s) _
  | save p => exact State.answer_reaches (saveRequest_reaches p s) _
  | load p => exact State.answer_reaches (loadRequest_reaches p s) _
  | restart dest p => exact execRestart_leadsTo dest p s
  | unknownKind kind p => exact s.dispatchOwn_reaches kind p
  | frameDiscard cause => exact .of_records s.dropFrame_records
  | frameAbandon cause => exact .of_records s.dropFrame_records
  | replyStart => exact execReplyStart_leadsTo s
  | replyEnd => exact execReplyEnd_leadsTo s
  | secondsCount => exact execSecondsCount_leadsTo s
  | sweepTimerExpiry => exact execSweepTimerExpiry_leadsTo s
  | startEdge port line => exact execStartEdge_leadsTo h port line
  | captureJobComplete port line total high => exact execCaptureJobComplete_leadsTo h port line total high
  | captureWindowExpiry port line => exact execCaptureWindowExpiry_leadsTo h port line
  | heaterPeriodStart port => exact execHeaterPeriodStart_leadsTo port s
  | heaterOnTimeEnd port => exact execHeaterOnTimeEnd_leadsTo port s
  | purgeTimerExpiry port => exact execPurgeTimerExpiry_leadsTo port s
  | recoveryTimerExpiry port => exact execRecoveryTimerExpiry_leadsTo port s
  | rawLevelChange l ohms => exact execRawLevelChange_leadsTo l ohms s
  | debounceExpiry l => exact execDebounceExpiry_leadsTo l s
  | minOnExpiry o => exact execMinOnExpiry_leadsTo o s
  | minOffExpiry o => exact execMinOffExpiry_leadsTo o s
  | saveComplete verified => exact execSaveComplete_leadsTo verified s
  | byteReceived b silence => exact execByteReceived_leadsTo b silence s
  | filteredLevelChange port line run => exact execFilteredLevelChange_leadsTo h port line run
  | powerLoss => exact execPowerLoss_leadsTo s

theorem State.tick_records (s : State) : s.tick.records = s.records := by
  unfold State.tick
  split <;> rfl

theorem State.HandsOn.setPending (h : s.HandsOn Q) (rest : List Instr) : ({ s with pending := rest } : State).HandsOn Q :=
  ⟨h.failed, h.ended, h.closing⟩

/-- Whatever a step does to the bounded data is a run of moves. -/
theorem step_reaches (h : s.HandsOn Q) (hstep : step s = .next t) : s.Reaches Q t := by
  have leads : s.LeadsTo Q (step s) := by
    unfold step
    split
    · exact .of_records s.tick_records
    · rename_i i rest _
      have taken : s.Reaches Q { s with pending := rest } := .of_records rfl
      have led := exec_leadsTo (h.setPending rest) i
      cases hexec : exec i { s with pending := rest } with
      | next u => rw [hexec] at led; exact taken.trans led
      | fault r => trivial
      | refused r => trivial
  rw [hstep] at leads
  exact leads

end

/-! ### The outcomes the law of the counts vouches for (R84, R87) -/

theorem JobOutcome.Accepted.dutyInRange {o : JobOutcome} (h : o.Accepted) : o.DutyInRange := by
  cases o with
  | fDone c64 => trivial
  | dDone total high =>
    obtain ⟨hmin, hduty⟩ := h
    exact ⟨by omega, hduty⟩
  | failed cause => trivial

/-- R87: a job that has counted some ticks ends failed or with a duty from 2 % to 98 %. -/
theorem closedOutcome_dutyInRange (j : Job) {total high : Nat} (h : 0 < total) :
    (closedOutcome j total high).DutyInRange := by
  unfold closedOutcome
  split
  · trivial
  · split
    · trivial
    · rename_i hgood
      simp only [dutyBad, Bool.or_eq_true, decide_eq_true_eq, not_or, not_lt] at hgood
      obtain ⟨hmin, hmax⟩ := hgood
      exact ⟨h, hmin, hmax⟩

/-- R79, R84: a unit whose line stands LOW has counted the 25 ticks that brought the line there. -/
theorem State.CountLaw.handsOn {s : State} (h : s.CountLaw) : s.HandsOn JobOutcome.DutyInRange := by
  obtain ⟨-, hpaced, -, -, hended⟩ := h
  refine ⟨fun _ => trivial, fun e he => (hended e he).dutyInRange,
    fun hrun k j w periods counted above hunit hlow total high hle => closedOutcome_dutyInRange j ?_⟩
  have paced := hpaced hrun k
  rw [hunit] at paced
  obtain ⟨-, hcounted⟩ := paced
  rw [hlow] at hcounted
  simp only [reduceCtorEq, if_false] at hcounted
  omega

/-- Settles O59: the moves of a step keep each law. The first three hold whatever outcomes are converted; the margins need the
temperatures of accepted duties, which the law of the counts gives. -/
theorem boundsAreKept : Obligations.BoundsAreKept := by
  intro s t hstep
  have anyOutcome : s.HandsOn fun _ => True :=
    ⟨fun _ => trivial, fun _ _ => trivial, fun _ _ _ _ _ _ _ _ _ _ _ _ => trivial⟩
  have moved := step_reaches anyOutcome hstep
  refine ⟨moved.dewLaw, moved.configLaw, moved.crcLaw, fun hdew hconfig hcount hmargin => ?_⟩
  exact (step_reaches hcount.handsOn hstep).marginLaw (fun _ => id) hdew hconfig hmargin

end Sys2Proof.Machine
end

section
/-! What one update of the part makes of a surface record (`SurfaceRec.Update`), that the ranges of Table 2-2 survive it, and
that every step changes the surface table by such updates alone (`State.Revises`). -/

namespace Sys2Proof.Machine

/-! ### The updates of a surface record (R18, R19, R25, R31, R41, R43) -/

/-- What one update of the part makes of a surface record: an evaluation, an adoption, a latch event, or a start, which clears
its runtime part. -/
inductive SurfaceRec.Update (old : SurfaceRec) : SurfaceRec → Prop where
  | evaluated (num : SweepNo) (points : Vector PointRec 24) (i : Fin 16) : Update old (evalSurface num points i old).1
  | adopted (c : SurfaceCfg) (latch : Bool) : Update old (adoptSurface c latch old).1
  | latchSet (l : Fin 8) : Update old (old.latchSets l)
  | latchCleared (l : Fin 8) : Update old (old.latchClears l)
  | started (c : SurfaceCfg) (st : RiskState) : Update old { cfg := c, run := .cleared st }

/-- R40: the ranges of the runtime part of a surface under configuration `c`, whether enabled or not. -/
structure SurfaceRun.InRangeOf (c : SurfaceCfg) (r : SurfaceRun) : Prop where
  oneRun : ¬(r.riseRun ≠ 0 ∧ r.fallRun ≠ 0)
  riseRun : r.riseRun ≠ 0 → r.riseRun < c.riseCount
  fallRun : r.fallRun ≠ 0 → r.fallRun < c.fallCount
  heldAge : r.heldAge ≤ c.holdSweeps
  ring : r.ring.length ≤ 8
  forecast : ∀ f, r.forecast = some f → f ≤ 255
  live : r.live = true → r.values.isSome = true

section
variable {c : SurfaceCfg} {r : SurfaceRun} {old new : SurfaceRec}

theorem SurfaceRec.inRange_iff :
    old.InRange ↔ old.run.InRangeOf old.cfg
      ∧ (old.cfg.enabled = false → old.run.riseRun = 0 ∧ old.run.fallRun = 0 ∧ old.run.heldAge = 0) :=
  ⟨fun ⟨h1, h2, h3, h4, h5, h6, h7, h8⟩ => ⟨⟨h1, h2, h3, h4, h5, h6, h7⟩, h8⟩,
    fun ⟨⟨h1, h2, h3, h4, h5, h6, h7⟩, h8⟩ => ⟨h1, h2, h3, h4, h5, h6, h7, h8⟩⟩

theorem SurfaceRec.InRange.of_enabled (he : old.cfg.enabled = true) (h : old.run.InRangeOf old.cfg) : old.InRange :=
  inRange_iff.2 ⟨h, fun hd => by simp [he] at hd⟩

/-- R18, R30: a cleared runtime part is in range. -/
theorem SurfaceRec.cleared_inRange (c : SurfaceCfg) (st : RiskState) :
    (SurfaceRec.mk c (.cleared st)).InRange := by
  simp [SurfaceRec.InRange, SurfaceRun.cleared]

/-- R27 to R29, R41, R43: an event that sets the state and clears the runs keeps the ranges. -/
theorem SurfaceRun.InRangeOf.clearRuns (h : r.InRangeOf c) (st : RiskState) :
    ({ r with state := st, riseRun := 0, fallRun := 0 } : SurfaceRun).InRangeOf c :=
  ⟨by simp, by simp, by simp, h.heldAge, h.ring, h.forecast, h.live⟩

/-- R38 to R40: a run that has reached its count is cleared. -/
theorem SurfaceRun.InRangeOf.judge (h : r.InRangeOf c) (m : Int) : (r.judge c m).InRangeOf c := by
  unfold SurfaceRun.judge
  split
  · exact h.clearRuns _
  · exact h
  · exact h.clearRuns _
  · dsimp only
    split
    · split
      · exact h.clearRuns _
      · exact ⟨by simp, fun _ => by dsimp only; omega, by simp, h.heldAge, h.ring, h.forecast, h.live⟩
    · split
      · split
        · exact h.clearRuns _
        · exact ⟨by simp, by simp, fun _ => by dsimp only; omega, h.heldAge, h.ring, h.forecast, h.live⟩
      · exact h.clearRuns _

/-- R47: the ring never holds more than 8 margins. -/
theorem appendRing_length_le {ring : List Int} (h : ring.length ≤ 8) (m : Int) : (appendRing ring m).length ≤ 8 := by
  unfold appendRing
  split <;> simp <;> omega

/-- R48: a forecast is limited to 255. -/
theorem forecastOf_le {ring : List Int} {f : Nat} (h : forecastOf ring = some f) : f ≤ 255 := by
  unfold forecastOf at h
  split at h
  · cases h
  · dsimp only at h
    split at h
    · cases h
      omega
    · split at h
      · cases h
        exact Nat.min_le_left _ _
      · cases h

theorem SurfaceRun.InRangeOf.trend (h : r.InRangeOf c) (m : Int) : (r.trend c m).InRangeOf c :=
  ⟨h.oneRun, h.riseRun, h.fallRun, h.heldAge, appendRing_length_le h.ring m, fun _ => forecastOf_le, h.live⟩

theorem SurfaceRun.InRangeOf.offerTrend (h : r.InRangeOf c) (num : SweepNo) (i : Fin 16) :
    (offerTrend num i c r).1.InRangeOf c := by
  unfold Machine.offerTrend
  split
  · exact ⟨h.oneRun, h.riseRun, h.fallRun, h.heldAge, h.ring, h.forecast, h.live⟩
  · exact h

/-- R22, R51: a live margin keeps the ranges. -/
theorem evalLive_inRange (h : r.InRangeOf c) (num : SweepNo) (i : Fin 16) (v : Values) :
    (evalLive num i c r v).1.InRangeOf c := by
  have valued : ({ r with values := some v, live := true, heldAge := 0 } : SurfaceRun).InRangeOf c :=
    ⟨h.oneRun, h.riseRun, h.fallRun, Nat.zero_le _, h.ring, h.forecast, fun _ => rfl⟩
  exact ((valued.judge v.margin).trend v.margin).offerTrend num i

/-- R23, R24: a hold raises held_age while it is below hold_sweeps; the end of the data clears it. -/
theorem evalMissing_inRange (h : r.InRangeOf c) (num : SweepNo) (i : Fin 16) : (evalMissing num i c r).1.InRangeOf c := by
  have ended (st : RiskState) : (SurfaceRun.cleared st).InRangeOf c :=
    (SurfaceRec.inRange_iff.1 (SurfaceRec.cleared_inRange c st)).1
  unfold evalMissing
  split
  · split
    · exact ⟨h.oneRun, h.riseRun, h.fallRun, by dsimp only; omega, h.ring, h.forecast, nofun⟩
    · exact ended _
  · exact ended _

theorem evalSurface_inRange (h : old.InRange) (num : SweepNo) (points : Vector PointRec 24) (i : Fin 16) :
    (evalSurface num points i old).1.InRange := by
  obtain ⟨hrun, -⟩ := SurfaceRec.inRange_iff.1 h
  unfold evalSurface
  split
  · rename_i henabled
    refine .of_enabled henabled ?_
    dsimp only
    split
    · exact evalLive_inRange hrun num i _
    · exact evalMissing_inRange hrun num i
  · exact h

/-- R25 to R29: an adoption clears what a new configuration could put out of range; a surface that stays disabled holds none of
it. -/
theorem adoptSurface_inRange (h : old.InRange) (c : SurfaceCfg) (latch : Bool) : (adoptSurface c latch old).1.InRange := by
  obtain ⟨hrun, hdisabled⟩ := SurfaceRec.inRange_iff.1 h
  unfold adoptSurface
  split
  · exact h
  · split
    · exact SurfaceRec.cleared_inRange _ _
    · rename_i hsame
      split
      · rename_i hoff
        obtain ⟨hrise, hfall, hheld⟩ := hdisabled ((not_not.1 hsame).symm.trans hoff)
        exact SurfaceRec.inRange_iff.2 ⟨⟨hrun.oneRun, fun hr => absurd hrise hr, fun hr => absurd hfall hr,
          by dsimp only; omega, hrun.ring, hrun.forecast, hrun.live⟩, fun _ => ⟨hrise, hfall, hheld⟩⟩
      · split
        · exact SurfaceRec.cleared_inRange _ _
        · exact SurfaceRec.inRange_iff.2 ⟨⟨by simp [SurfaceRun.restartCounting], by simp [SurfaceRun.restartCounting],
            by simp [SurfaceRun.restartCounting], Nat.zero_le _, Nat.zero_le _, nofun, hrun.live⟩, fun _ => ⟨rfl, rfl, rfl⟩⟩

theorem SurfaceRec.InRange.clearRuns (h : old.InRange) (st : RiskState) :
    ({ old with run := { old.run with state := st, riseRun := 0, fallRun := 0 } } : SurfaceRec).InRange := by
  obtain ⟨hrun, hdisabled⟩ := SurfaceRec.inRange_iff.1 h
  refine SurfaceRec.inRange_iff.2 ⟨hrun.clearRuns st, fun hoff => ?_⟩
  obtain ⟨-, -, hheld⟩ := hdisabled hoff
  exact ⟨rfl, rfl, hheld⟩

/-- R40: every update keeps a surface record in range. -/
theorem SurfaceRec.Update.inRange (u : old.Update new) (h : old.InRange) : new.InRange := by
  cases u with
  | evaluated num points i => exact evalSurface_inRange h num points i
  | adopted c latch => exact adoptSurface_inRange h c latch
  | latchSet l =>
    unfold SurfaceRec.latchSets
    split
    · exact h.clearRuns _
    · exact h
  | latchCleared l =>
    unfold SurfaceRec.latchClears
    split
    · exact h.clearRuns _
    · exact h
  | started c st => exact SurfaceRec.cleared_inRange c st

end

/-! ### The updates of the surface table -/

/-- Updates of its records lead from one surface table to the other. -/
structure State.Revises (s t : State) : Prop where
  updates : ∀ k : Fin 16, Relation.ReflTransGen SurfaceRec.Update s.surfaces[k] t.surfaces[k]

section
variable {s t u : State}

theorem State.Revises.surfaceLaw (m : s.Revises t) (h : s.SurfaceLaw) : t.SurfaceLaw := by
  intro k
  have updates := m.updates k
  generalize t.surfaces[k] = new at updates ⊢
  induction updates with
  | refl => exact h k
  | tail _ last ih => exact last.inRange ih

theorem State.Revises.of_eq (h : t.surfaces = s.surfaces) : s.Revises t := ⟨fun _ => h ▸ .refl⟩

theorem State.Revises.refl (s : State) : s.Revises s := .of_eq rfl

theorem State.Revises.trans (m : s.Revises t) (n : t.Revises u) : s.Revises u :=
  ⟨fun k => (m.updates k).trans (n.updates k)⟩

/-- What leaves the surface table alone after some updates adds nothing to them. -/
theorem State.Revises.frame (m : s.Revises t) (h : u.surfaces = t.surfaces) : s.Revises u := m.trans (.of_eq h)

/-- What leaves the surface table alone before some updates adds nothing to them. -/
theorem State.Revises.after (m : t.Revises u) (h : t.surfaces = s.surfaces) : s.Revises u := (State.Revises.of_eq h).trans m

/-- An update of the sweep controller alone. -/
theorem State.setSweep_revises (s : State) (w : Sweep) : s.Revises { s with sweep := w } := .of_eq rfl

theorem State.Revises.of_updates (h : ∀ k : Fin 16, (s.surfaces[k]).Update t.surfaces[k]) : s.Revises t :=
  ⟨fun k => .single (h k)⟩

/-! ### Operations of the blocks -/

/-- R19: an evaluation's surface table. -/
theorem State.evaluateSurfaces_surfaces (s : State) (k : Fin 16) :
    s.evaluateSurfaces.surfaces[k] = (evalSurface s.sweep.number s.points k s.surfaces[k]).1 := by
  simp [State.evaluateSurfaces]

theorem State.completeSweep_surfaces (s : State) : s.completeSweep.surfaces = s.evaluateSurfaces.surfaces := by
  simp [State.completeSweep, State.takeSnapshot_keeps]

theorem State.completeSweep_revises (s : State) : s.Revises s.completeSweep := by
  refine .of_updates fun k => ?_
  rw [State.completeSweep_surfaces, State.evaluateSurfaces_surfaces]
  exact .evaluated _ _ _

theorem State.settle_revises (s : State) : s.Revises s.settle := by
  obtain ⟨e, -⟩ | ⟨e, -⟩ := s.settle_cases <;> rw [e]
  · exact s.giveJobs.completeSweep_revises.after rfl
  · exact .of_eq rfl

/-- R25: the surface table after an adoption. -/
theorem State.adoptSurfaces_surfaces (s : State) (k : Fin 16) :
    s.adoptSurfaces.surfaces[k] =
      (adoptSurface s.store.written.surfaces[k] (s.latchOf s.store.written.surfaces[k]) s.surfaces[k]).1 := by
  simp only [State.adoptSurfaces]
  split <;> simp

theorem State.startSweep_revises (s : State) : s.Revises s.startSweep := by
  let s1 : State := { s with sweep := s.sweep.begin }
  have adopted : s1.adoptPoints.Revises s1.adoptPoints.adoptSurfaces := .of_updates fun k => by
    rw [State.adoptSurfaces_surfaces]
    exact .adopted _ _
  have built : s1.adoptPoints.Revises s1.adoptPoints.adoptSurfaces.adoptCapture.buildJobs := adopted.frame rfl
  have begun : s1.adoptPoints.surfaces = s.surfaces := by simp only [State.adoptPoints_keeps]; rfl
  exact (built.trans (State.settle_revises _)).after begun

theorem State.sweepTimerExpires_revises (s : State) (t : Nat) : s.Revises (s.sweepTimerExpires t) := by
  simp only [State.sweepTimerExpires]
  split
  · exact .of_eq rfl
  · exact (State.startSweep_revises _).after rfl

theorem State.latchEvent_revises {f : SurfaceRec → SurfaceRec} (h : ∀ r, SurfaceRec.Update r (f r)) :
    s.Revises (s.latchEvent f) := by
  refine .of_updates fun k => ?_
  obtain ⟨-, -, -, -, -, -, -, -, -, -, -, hsurfaces⟩ := s.latchEvent_keeps f
  simpa [hsurfaces] using h s.surfaces[k]

theorem State.debounceExpires_revises (s : State) (l : Fin 8) : s.Revises (s.debounceExpires l) := by
  simp only [State.debounceExpires]
  split
  · exact .of_eq rfl
  · split
    · exact (State.latchEvent_revises fun _ => .latchSet l).after rfl
    · exact .of_eq rfl

theorem State.clearLatch_revises (s : State) (l : Fin 8) : s.Revises (s.clearLatch l) := by
  unfold State.clearLatch
  split
  · exact (State.latchEvent_revises fun _ => .latchCleared l).after rfl
  · exact .refl s

theorem State.enabledChanged_revises (s : State) (l : Fin 8) : s.Revises (s.enabledChanged l) := by
  unfold State.enabledChanged
  split
  · exact .of_eq rfl
  · exact (State.clearLatch_revises _ l).after rfl

theorem State.actOnLines_revises (s : State) (old : Vector Bool 8) : s.Revises (s.actOnLines old) := by
  unfold State.actOnLines
  induction List.finRange 8 generalizing s with
  | nil => exact .refl s
  | cons l ls ih =>
    rw [List.foldl_cons]
    split
    · exact ih s
    · exact (s.enabledChanged_revises l).trans (ih _)

/-- R168: of a LOAD only the wet lines it acts on change surfaces. -/
theorem State.loadImage_revises (s : State) (i : Image) : s.Revises (s.loadImage i) := by
  let s1 : State := { s with store := { s.store with written := i, dirty := false } }
  have acted : s.Revises (s1.actOnLines s.store.written.wet.enabled) := (State.actOnLines_revises _ _).after rfl
  exact (acted.frame (by simp)).trans (State.setSweep_revises (s1.actOnLines _).evalOutputs.evalOutputs _)

theorem State.endJob_revises (s : State) (k : Fin 4) (j : Job) (o : JobOutcome) : s.Revises (s.endJob k j o) := by
  simp only [State.endJob]
  split
  · exact (State.settle_revises _).after rfl
  · exact (State.settle_revises _).after (by simp [State.convert_keeps])

theorem State.risingEdge_revises (s : State) (port : Fin 24) (line : PinLine) (rests : Bool) :
    s.Revises (s.risingEdge port line rests) := by
  obtain e | ⟨_, _, _, _, _, _, _, _, e⟩ | ⟨_, _, _, _, _, _, _, _, _, e⟩ | ⟨_, _, _, _, _, _, _, _, _, e⟩ :=
    s.risingEdge_cases port line rests <;> rw [e]
  · exact .refl s
  · exact .of_eq rfl
  · exact .of_eq rfl
  · exact s.endJob_revises _ _ _

theorem State.sampleLine_revises (s : State) (port : Fin 24) (line : PinLine) (v : PinLevel) (n : Nat) :
    s.Revises (s.sampleLine port line v n) := by
  simp only [State.sampleLine]
  split
  · exact (State.risingEdge_revises _ _ _ _).after rfl
  · exact .of_eq rfl

theorem State.windowExpires_revises (s : State) (port : Fin 24) (line : PinLine) :
    s.Revises (s.windowExpires port line) := by
  unfold State.windowExpires
  split
  · exact .refl s
  · split
    · exact .refl s
    · exact (State.endJob_revises _ _ _ _).after rfl
    · exact (State.endJob_revises _ _ _ _).after rfl

theorem State.manualPurge_revises (s : State) (p : Fin 24) : s.Revises (s.manualPurge p) := by
  simp only [State.manualPurge]
  exact (State.settle_revises _).after (by simp [State.arrivePurge_keeps])

theorem State.purgeExpires_revises (s : State) (p : Fin 24) : s.Revises (s.purgeExpires p) := by
  have served (s1 : State) (ns : List Notice) : s1.Revises (s1.serve.1.offer ns) := .of_eq (by simp [State.serve_keeps])
  exact ((served _ _).after (by simp)).trans (State.settle_revises _)

theorem State.surfaces_eq_of_records (h : t.records = s.records) : t.surfaces = s.surfaces := congrArg Records.surfaces h

theorem State.periodStarts_surfaces (s : State) (g : Grant) : (s.periodStarts g).surfaces = s.surfaces :=
  State.surfaces_eq_of_records (s.periodStarts_records g)

theorem State.onTimeEnds_surfaces (s : State) (g : Grant) : (s.onTimeEnds g).surfaces = s.surfaces :=
  State.surfaces_eq_of_records (s.onTimeEnds_records g)

/-- R31, R162: RESTART clears every surface. -/
theorem State.restart_revises (s : State) : s.Revises s.restart := by
  have restarted : s.Revises s.restartBlocks := .of_updates fun k => by
    simpa [State.restartBlocks, State.restartSurface] using SurfaceRec.Update.started _ _
  unfold State.restart
  dsimp only
  split
  · exact restarted
  · exact (restarted.trans (State.setSweep_revises _ _)).trans (State.startSweep_revises _)

/-- R30, R169: a start brings every surface to its power-on values. -/
theorem State.startBlocks_revises (s : State) (cause : Nat) (pins : StartPins) (good : Option Image) :
    s.Revises (s.startBlocks cause pins good) :=
  .of_updates fun k => by simpa [State.startBlocks, SurfaceRec.fresh] using SurfaceRec.Update.started (old := s.surfaces[k]) _ _

theorem State.startUp_revises (s : State) (cause : Nat) (pins : StartPins) : s.Revises (s.startUp cause pins) := by
  have started := s.startBlocks_revises cause pins (s.store.startImage pins)
  unfold State.startUp State.startUpOn
  dsimp only
  split
  · exact started
  · exact (started.trans (State.setSweep_revises _ _)).trans (State.startSweep_revises _)

theorem State.losePower_revises (s : State) : s.Revises s.losePower := .of_updates fun k => by
  simpa [State.losePower, State.startBlocks, SurfaceRec.fresh] using SurfaceRec.Update.started (old := s.surfaces[k]) _ _

/-! ### Requests -/

/-- A request that is refused under `c` has only its other cases to look at. -/
theorem State.Revises.unless {c : Prop} [Decidable c] {st : Status} {r : State × Answer} (h : ¬c → s.Revises r.1) :
    s.Revises (if c then s.refuse st else r).1 := by
  split
  · exact .refl s
  · exact h (by assumption)

/-- A request that is refused but under `c` has only that case to look at. -/
theorem State.Revises.onlyIf {c : Prop} [Decidable c] {st : Status} {r : State × Answer} (h : c → s.Revises r.1) :
    s.Revises (if c then r else s.refuse st).1 := by
  split
  · exact h (by assumption)
  · exact .refl s

theorem State.answer_revises {handle : State → State × Answer} (h : s.Revises (handle s).1) (kind : Byte) :
    s.Revises (s.answer kind handle) := by
  cases htakes : s.takesOwn with
  | true => rw [State.answer_of_takes htakes]; exact h.frame rfl
  | false => rw [State.answer_of_not htakes]; exact .refl s

theorem State.broadcast_revises {handle : State → State × Answer} (h : s.Revises (handle s).1) :
    s.Revises (s.broadcast handle) := by
  cases hreceives : s.receives with
  | true => rw [State.broadcast_of_receives hreceives]; exact h.frame rfl
  | false => rw [State.broadcast_of_not hreceives]; exact .refl s

theorem State.request_revises {handle : State → State × Answer} (h : s.Revises (handle s).1) (dest : Dest) (kind : Byte) :
    s.Revises (s.request dest kind handle) := by
  cases dest with
  | own => exact State.answer_revises h kind
  | broadcast => exact State.broadcast_revises h

theorem pointWriteRequest_revises (p : List Byte) (s : State) : s.Revises (pointWriteRequest p s).1 := by
  refine .unless fun _ => .unless fun _ => .unless fun _ => ?_
  split
  · exact .refl s
  · exact .unless fun _ => .of_eq rfl

theorem surfaceWriteRequest_revises (p : List Byte) (s : State) : s.Revises (surfaceWriteRequest p s).1 := by
  refine .unless fun _ => .unless fun _ => .unless fun _ => ?_
  split
  · exact .refl s
  · exact .onlyIf fun _ => .of_eq rfl

theorem outputWriteRequest_revises (p : List Byte) (s : State) : s.Revises (outputWriteRequest p s).1 := by
  refine .unless fun _ => .unless fun _ => .unless fun _ => ?_
  split
  · exact .onlyIf fun _ => .of_eq rfl
  · exact .refl s

theorem wetlineWriteRequest_revises (p : List Byte) (s : State) : s.Revises (wetlineWriteRequest p s).1 :=
  .unless fun _ => .unless fun _ => .onlyIf fun _ => (State.actOnLines_revises _ _).after rfl

theorem State.writeStartMode_surfaces (s : State) (m : SweepMode) : (s.writeStartMode m).surfaces = s.surfaces := by
  unfold State.writeStartMode
  split <;> rfl

theorem State.writeInterval_surfaces (s : State) (v : Nat) : (s.writeInterval v).surfaces = s.surfaces := by
  unfold State.writeInterval
  split <;> rfl

theorem State.run_revises (s : State) : s.Revises s.run := by
  unfold State.run
  split
  · exact .refl s
  · dsimp only
    split
    · exact .of_eq (State.writeStartMode_surfaces _ _)
    · exact (State.startSweep_revises _).after (State.writeStartMode_surfaces _ _)

theorem State.stop_revises (s : State) : s.Revises s.stop := by
  unfold State.stop
  split
  · exact .refl s
  · exact .of_eq (State.writeStartMode_surfaces _ _)

theorem sweepRunRequest_revises (p : List Byte) (s : State) : s.Revises (sweepRunRequest p s).1 :=
  .unless fun _ => .unless fun _ => s.run_revises

theorem sweepStopRequest_revises (p : List Byte) (s : State) : s.Revises (sweepStopRequest p s).1 :=
  .unless fun _ => .unless fun _ => s.stop_revises

theorem sweepOnceRequest_revises (p : List Byte) (s : State) : s.Revises (sweepOnceRequest p s).1 :=
  .unless fun _ => .unless fun _ => .unless fun _ => s.startSweep_revises

theorem sweepIntervalRequest_revises (p : List Byte) (s : State) : s.Revises (sweepIntervalRequest p s).1 :=
  .unless fun _ => .unless fun _ => .of_eq (State.writeInterval_surfaces _ _)

theorem sweepRequest_revises (p : List Byte) (s : State) : s.Revises (sweepRequest p s).1 := by
  unfold sweepRequest
  split
  · exact .refl s
  · split
    · exact sweepRunRequest_revises _ s
    · exact sweepStopRequest_revises _ s
    · exact sweepOnceRequest_revises _ s
    · exact sweepIntervalRequest_revises _ s
    · exact .unless fun _ => .refl s

theorem snapReadRequest_revises (p : List Byte) (s : State) : s.Revises (snapReadRequest p s).1 := by
  refine .unless fun _ => .unless fun _ => ?_
  split <;> exact .refl s

theorem pointReadRequest_revises (p : List Byte) (s : State) : s.Revises (pointReadRequest p s).1 := by
  refine .unless fun _ => .unless fun _ => ?_
  dsimp only
  split <;> exact .refl s

theorem surfaceReadRequest_revises (p : List Byte) (s : State) : s.Revises (surfaceReadRequest p s).1 := by
  refine .unless fun _ => .unless fun _ => ?_
  dsimp only
  split <;> exact .refl s

theorem loadRequest_revises (p : List Byte) (s : State) : s.Revises (loadRequest p s).1 := by
  refine .unless fun _ => .unless fun _ => ?_
  split
  · exact .refl s
  · exact State.loadImage_revises s _

theorem wetAckRequest_revises (p : List Byte) (s : State) : s.Revises (wetAckRequest p s).1 :=
  .unless fun _ => .unless fun _ => .unless fun _ => s.clearLatch_revises _

theorem purgeRequest_revises (p : List Byte) (s : State) : s.Revises (purgeRequest p s).1 :=
  .unless fun _ => .unless fun _ => .onlyIf fun _ => s.manualPurge_revises _

theorem State.restartOwn_revises (s : State) (p : List Byte) : s.Revises (s.restartOwn p) := by
  unfold State.restartOwn
  dsimp only
  split
  · split
    · exact (State.restart_revises _).after rfl
    · exact .of_eq rfl
  · exact .refl s

theorem State.restartBroadcast_revises (s : State) (p : List Byte) : s.Revises (s.restartBroadcast p) := by
  unfold State.restartBroadcast
  split
  · split
    · exact (State.restart_revises _).after rfl
    · exact .of_eq rfl
  · exact .refl s

theorem State.dropFrame_surfaces (s : State) : s.dropFrame.surfaces = s.surfaces :=
  State.surfaces_eq_of_records s.dropFrame_records

theorem globalWriteRequest_revises (p : List Byte) (s : State) : s.Revises (globalWriteRequest p s).1 :=
  .unless fun _ => .unless fun _ => .onlyIf fun _ => .of_eq rfl

theorem noticeDropRequest_revises (p : List Byte) (s : State) : s.Revises (noticeDropRequest p s).1 :=
  .unless fun _ => .of_eq rfl

theorem snapArmRequest_revises (p : List Byte) (s : State) : s.Revises (snapArmRequest p s).1 :=
  .unless fun _ => .of_eq rfl

theorem saveRequest_revises (p : List Byte) (s : State) : s.Revises (saveRequest p s).1 :=
  .unless fun _ => .unless fun _ => .of_eq rfl

/-- R155: what a request does to the surfaces, by its kind. -/
theorem State.dispatchOwn_revises (s : State) (kind : Byte) (p : List Byte) : s.Revises (s.dispatchOwn kind p) := by
  unfold State.dispatchOwn
  split
  · exact State.answer_revises (.unless fun _ => .refl s) kind
  · exact State.answer_revises (.unless fun _ => .refl s) kind
  · exact State.answer_revises (pointWriteRequest_revises p s) kind
  · exact State.answer_revises (pointReadRequest_revises p s) kind
  · exact State.answer_revises (surfaceWriteRequest_revises p s) kind
  · exact State.answer_revises (surfaceReadRequest_revises p s) kind
  · exact State.answer_revises (globalWriteRequest_revises p s) kind
  · exact State.answer_revises (.unless fun _ => .refl s) kind
  · exact State.answer_revises (outputWriteRequest_revises p s) kind
  · exact State.answer_revises (.unless fun _ => .unless fun _ => .refl s) kind
  · exact State.answer_revises (wetlineWriteRequest_revises p s) kind
  · exact State.answer_revises (.unless fun _ => .refl s) kind
  · exact State.answer_revises (sweepRequest_revises p s) kind
  · exact State.answer_revises (.unless fun _ => .refl s) kind
  · exact State.answer_revises (noticeDropRequest_revises p s) kind
  · exact State.answer_revises (.unless fun _ => .refl s) kind
  · exact State.answer_revises (snapArmRequest_revises p s) kind
  · exact State.answer_revises (snapReadRequest_revises p s) kind
  · exact State.answer_revises (wetAckRequest_revises p s) kind
  · exact State.answer_revises (purgeRequest_revises p s) kind
  · exact State.answer_revises (saveRequest_revises p s) kind
  · exact State.answer_revises (loadRequest_revises p s) kind
  · exact s.restartOwn_revises p
  · exact State.answer_revises (.refl s) kind

theorem State.dispatchBroadcast_revises (s : State) (kind : Byte) (p : List Byte) :
    s.Revises (s.dispatchBroadcast kind p) := by
  unfold State.dispatchBroadcast
  split
  · exact State.broadcast_revises (sweepRequest_revises p s)
  · exact State.broadcast_revises (snapArmRequest_revises p s)
  · exact s.restartBroadcast_revises p
  · exact .of_eq s.dropFrame_surfaces

theorem State.judgeFrame_revises (s : State) (buffer : List Byte) : s.Revises (s.judgeFrame buffer) := by
  unfold State.judgeFrame
  dsimp only
  split
  · exact .of_eq s.dropFrame_surfaces
  · split
    · exact s.dispatchBroadcast_revises _ _
    · split
      · exact s.dispatchOwn_revises _ _
      · exact .of_eq s.dropFrame_surfaces

theorem State.huntByte_surfaces (s : State) (b : Byte) : (s.huntByte b).surfaces = s.surfaces :=
  State.surfaces_eq_of_records (s.huntByte_records b)

theorem State.frameByte_revises (s : State) (b : Byte) : s.Revises (s.frameByte b) := by
  unfold State.frameByte
  dsimp only
  split
  · exact .of_eq rfl
  · split
    · exact s.judgeFrame_revises _
    · exact .of_eq rfl

theorem State.receiveByte_revises (s : State) (b : Byte) (silence : Nat) : s.Revises (s.receiveByte b silence) := by
  unfold State.receiveByte
  split
  · exact .refl s
  · exact .of_eq (s.huntByte_surfaces b)
  · split
    · exact .of_eq (s.huntByte_surfaces b)
    · exact s.frameByte_revises b

/-! ### Commands and steps -/

/-- What an outcome that is a next state comes to, when updates of surfaces lead there. -/
def State.RevisesTo (s : State) : Host.Outcome State Fault Refusal → Prop
  | .next t => s.Revises t
  | .fault _ => True
  | .refused _ => True

theorem execPowerOn_revises (pins : StartPins) (s : State) : s.RevisesTo (execPowerOn pins s) := by
  unfold execPowerOn
  split
  · exact s.startUp_revises 1 pins
  · exact .of_eq rfl
  · exact s.losePower_revises.frame rfl
  · exact s.losePower_revises.trans (s.losePower.startUp_revises 1 pins)

theorem execResetPinAssert_revises (s : State) : s.RevisesTo (execResetPinAssert s) := by
  unfold execResetPinAssert
  split
  · exact .of_eq rfl
  · exact .of_eq rfl
  · exact .refl s
  · exact .refl s

theorem execResetPinRelease_revises (pins : StartPins) (s : State) : s.RevisesTo (execResetPinRelease pins s) := by
  unfold execResetPinRelease
  split
  · exact s.startUp_revises 2 pins
  · exact .of_eq rfl
  · exact .refl s
  · exact .refl s

theorem execPowerLoss_revises (s : State) : s.RevisesTo (execPowerLoss s) := by
  unfold execPowerLoss
  split
  · exact .refl s
  · exact .refl s
  · exact s.losePower_revises.frame rfl
  · exact s.losePower_revises

theorem execRestart_revises (dest : Dest) (p : List Byte) (s : State) : s.RevisesTo (execRestart dest p s) := by
  cases dest with
  | own => exact s.restartOwn_revises p
  | broadcast => exact s.restartBroadcast_revises p

theorem execReplyStart_revises (s : State) : s.RevisesTo (execReplyStart s) := by
  unfold execReplyStart
  split <;> exact .of_eq rfl

theorem execReplyEnd_revises (s : State) : s.RevisesTo (execReplyEnd s) := by
  unfold execReplyEnd
  split <;> exact .of_eq rfl

theorem execSecondsCount_revises (s : State) : s.RevisesTo (execSecondsCount s) := by
  unfold execSecondsCount
  split <;> exact .of_eq rfl

theorem execByteReceived_revises (b : Byte) (silence : Nat) (s : State) : s.RevisesTo (execByteReceived b silence s) := by
  unfold execByteReceived
  split
  · exact s.receiveByte_revises b silence
  · exact .refl s

theorem execSaveComplete_revises (verified : Bool) (s : State) : s.RevisesTo (execSaveComplete verified s) := by
  unfold execSaveComplete
  split <;> exact .of_eq rfl

theorem execSweepTimerExpiry_revises (s : State) : s.RevisesTo (execSweepTimerExpiry s) := by
  unfold execSweepTimerExpiry
  split
  · exact (State.sweepTimerExpires_revises _ _).after (s.elapseTo_surfaces _)
  · exact .refl s

theorem execHeaterPeriodStart_revises (p : Fin 24) (s : State) : s.RevisesTo (execHeaterPeriodStart p s) := by
  unfold execHeaterPeriodStart
  split
  · exact .of_eq (s.periodStarts_surfaces _)
  · exact .refl s

theorem execHeaterOnTimeEnd_revises (p : Fin 24) (s : State) : s.RevisesTo (execHeaterOnTimeEnd p s) := by
  unfold execHeaterOnTimeEnd
  split
  · exact .of_eq (s.onTimeEnds_surfaces _)
  · exact .refl s

theorem execPurgeTimerExpiry_revises (p : Fin 24) (s : State) : s.RevisesTo (execPurgeTimerExpiry p s) := by
  unfold execPurgeTimerExpiry
  split
  · exact (State.purgeExpires_revises _ p).after (s.elapseTo_surfaces _)
  · exact .refl s

theorem execRecoveryTimerExpiry_revises (p : Fin 24) (s : State) : s.RevisesTo (execRecoveryTimerExpiry p s) := by
  unfold execRecoveryTimerExpiry
  split
  · exact .of_eq rfl
  · exact .refl s

theorem execRawLevelChange_revises (l : Fin 8) (ohms : Nat) (s : State) : s.RevisesTo (execRawLevelChange l ohms s) := by
  unfold execRawLevelChange State.rawChange
  split
  · dsimp only
    split <;> exact .of_eq rfl
  · exact .refl s

theorem execDebounceExpiry_revises (l : Fin 8) (s : State) : s.RevisesTo (execDebounceExpiry l s) := by
  unfold execDebounceExpiry
  split
  · exact (State.debounceExpires_revises _ l).after (s.elapseTo_surfaces _)
  · exact .refl s

theorem execMinOnExpiry_revises (o : Fin 2) (s : State) : s.RevisesTo (execMinOnExpiry o s) := by
  unfold execMinOnExpiry
  split <;> exact .of_eq rfl

theorem execMinOffExpiry_revises (o : Fin 2) (s : State) : s.RevisesTo (execMinOffExpiry o s) := by
  unfold execMinOffExpiry
  split <;> exact .of_eq rfl

theorem execStartEdge_revises (port : Fin 24) (line : PinLine) (s : State) : s.RevisesTo (execStartEdge port line s) := by
  unfold execStartEdge
  split
  · exact s.sampleLine_revises port line .high _
  · exact .refl s

theorem execCaptureJobComplete_revises (port : Fin 24) (line : PinLine) (total high : Nat) (s : State) :
    s.RevisesTo (execCaptureJobComplete port line total high s) := by
  unfold execCaptureJobComplete
  dsimp only
  split
  · exact (State.sampleLine_revises _ port line .high _).after (s.elapse_surfaces _)
  · exact .refl s

theorem execCaptureWindowExpiry_revises (port : Fin 24) (line : PinLine) (s : State) :
    s.RevisesTo (execCaptureWindowExpiry port line s) := by
  unfold execCaptureWindowExpiry
  split
  · exact s.windowExpires_revises port line
  · exact .refl s

theorem execFilteredLevelChange_revises (port : Fin 24) (line : PinLine) (run : SampleRun) (s : State) :
    s.RevisesTo (execFilteredLevelChange port line run s) := by
  unfold execFilteredLevelChange
  split
  · exact s.sampleLine_revises port line _ _
  · exact .refl s

/-- R19: every command changes the surface table by updates of its records. A request changes it as its kind does. -/
theorem exec_revises (i : Instr) (s : State) : s.RevisesTo (exec i s) := by
  cases i with
  | powerOn pins => exact execPowerOn_revises pins s
  | resetPinAssert => exact execResetPinAssert_revises s
  | resetPinRelease pins => exact execResetPinRelease_revises pins s
  | ident p => exact s.dispatchOwn_revises 0x01 p
  | status p => exact s.dispatchOwn_revises 0x02 p
  | pointWrite p => exact s.dispatchOwn_revises 0x10 p
  | pointRead p => exact s.dispatchOwn_revises 0x11 p
  | surfaceWrite p => exact s.dispatchOwn_revises 0x12 p
  | surfaceRead p => exact s.dispatchOwn_revises 0x13 p
  | globalWrite p => exact s.dispatchOwn_revises 0x14 p
  | globalRead p => exact s.dispatchOwn_revises 0x15 p
  | outputWrite p => exact s.dispatchOwn_revises 0x16 p
  | outputRead p => exact s.dispatchOwn_revises 0x17 p
  | wetlineWrite p => exact s.dispatchOwn_revises 0x18 p
  | wetlineRead p => exact s.dispatchOwn_revises 0x19 p
  | sweepRun dest r => exact State.request_revises (sweepRunRequest_revises r s) dest _
  | sweepStop dest r => exact State.request_revises (sweepStopRequest_revises r s) dest _
  | sweepOnce dest r => exact State.request_revises (sweepOnceRequest_revises r s) dest _
  | sweepInterval dest r => exact State.request_revises (sweepIntervalRequest_revises r s) dest _
  | noticeRead p => exact s.dispatchOwn_revises 0x21 p
  | noticeDrop p => exact s.dispatchOwn_revises 0x22 p
  | rankRead p => exact s.dispatchOwn_revises 0x23 p
  | snapArm dest p => exact State.request_revises (snapArmRequest_revises p s) dest _
  | snapRead p => exact s.dispatchOwn_revises 0x25 p
  | wetAck p => exact s.dispatchOwn_revises 0x26 p
  | purge p => exact s.dispatchOwn_revises 0x27 p
  | save p => exact s.dispatchOwn_revises 0x30 p
  | load p => exact s.dispatchOwn_revises 0x31 p
  | restart dest p => exact execRestart_revises dest p s
  | unknownKind kind p => exact s.dispatchOwn_revises kind p
  | frameDiscard cause => exact .of_eq s.dropFrame_surfaces
  | frameAbandon cause => exact .of_eq s.dropFrame_surfaces
  | replyStart => exact execReplyStart_revises s
  | replyEnd => exact execReplyEnd_revises s
  | secondsCount => exact execSecondsCount_revises s
  | sweepTimerExpiry => exact execSweepTimerExpiry_revises s
  | startEdge port line => exact execStartEdge_revises port line s
  | captureJobComplete port line total high => exact execCaptureJobComplete_revises port line total high s
  | captureWindowExpiry port line => exact execCaptureWindowExpiry_revises port line s
  | heaterPeriodStart port => exact execHeaterPeriodStart_revises port s
  | heaterOnTimeEnd port => exact execHeaterOnTimeEnd_revises port s
  | purgeTimerExpiry port => exact execPurgeTimerExpiry_revises port s
  | recoveryTimerExpiry port => exact execRecoveryTimerExpiry_revises port s
  | rawLevelChange l ohms => exact execRawLevelChange_revises l ohms s
  | debounceExpiry l => exact execDebounceExpiry_revises l s
  | minOnExpiry o => exact execMinOnExpiry_revises o s
  | minOffExpiry o => exact execMinOffExpiry_revises o s
  | saveComplete verified => exact execSaveComplete_revises verified s
  | byteReceived b silence => exact execByteReceived_revises b silence s
  | filteredLevelChange port line run => exact execFilteredLevelChange_revises port line run s
  | powerLoss => exact execPowerLoss_revises s

theorem State.tick_surfaces (s : State) : s.tick.surfaces = s.surfaces :=
  State.surfaces_eq_of_records s.tick_records

theorem step_revises (h : step s = .next t) : s.Revises t := by
  have revised : s.RevisesTo (step s) := by
    unfold step
    split
    · exact .of_eq s.tick_surfaces
    · rename_i i rest _
      have led := exec_revises i { s with pending := rest }
      cases hexec : exec i { s with pending := rest } with
      | next u => rw [hexec] at led; exact State.Revises.after led rfl
      | fault r => trivial
      | refused r => trivial
  rw [h] at revised
  exact revised

end

/-- Settles O56: a step changes each surface record by updates, and each update keeps the ranges. -/
theorem surfaceLawIsKept : Obligations.SurfaceLawIsKept :=
  fun _ _ hlaw hstep => (step_revises hstep).surfaceLaw hlaw

end Sys2Proof.Machine
end

section
/-! Requests that are refused, by an index out of range or a structural fault, and the answers of the requests that read the
status and the records of points and surfaces (R34, R77, R155 to R158, R161). -/

namespace Sys2Proof.Machine

/-! ### Refusals and acceptances (R155, R158) -/

section
variable {s : State} {handle : State → State × Answer}

/-- R158: a taken request whose owner refuses it is answered with the status alone. -/
theorem State.answer_of_refuse (htakes : s.takesOwn = true) (kind : Byte) {st : Status} (h : handle s = s.refuse st) :
    s.answer kind handle = s.postReply kind (Answer.mk st []) := by
  rw [State.answer_of_takes htakes, h]
  rfl

/-- R155: a taken request that its owner accepts without a change is answered with its payload. -/
theorem State.answer_of_accept (htakes : s.takesOwn = true) (kind : Byte) {payload : List Byte}
    (h : handle s = s.accept payload) : s.answer kind handle = s.postReply kind (Answer.mk .ok payload) := by
  rw [State.answer_of_takes htakes, h]
  rfl

theorem State.isSaving_eq_false (h : s.store.saving = none) : s.isSaving = false := by
  simp [State.isSaving, h]

end

/-! ### Indexes out of range (R34, R75, R77, R106, R115, R150, R151) -/

section
variable {p : List Byte} {s : State}

theorem pointWriteRequest_badIndex (hlen : p.length = 8) (hsave : s.store.saving = none) (h : 24 ≤ byteAt p 0) :
    pointWriteRequest p s = s.refuse .badIndex := by
  simp [pointWriteRequest, hlen, State.isSaving_eq_false hsave, h]

theorem pointReadRequest_badIndex (hlen : p.length = 2) (h : 24 ≤ byteAt p 0) :
    pointReadRequest p s = s.refuse .badIndex := by
  simp [pointReadRequest, hlen, h]

theorem surfaceWriteRequest_badIndex (hlen : p.length = 25) (hsave : s.store.saving = none)
    (h : surfaceIndexesOk p = false) : surfaceWriteRequest p s = s.refuse .badIndex := by
  simp [surfaceWriteRequest, hlen, State.isSaving_eq_false hsave, h]

theorem surfaceReadRequest_badIndex (hlen : p.length = 2) (h : 16 ≤ byteAt p 0) :
    surfaceReadRequest p s = s.refuse .badIndex := by
  simp [surfaceReadRequest, hlen, h]

theorem outputWriteRequest_badIndex (hlen : p.length = 10) (hsave : s.store.saving = none) (h : 2 ≤ byteAt p 0) :
    outputWriteRequest p s = s.refuse .badIndex := by
  simp [outputWriteRequest, hlen, State.isSaving_eq_false hsave, h]

theorem outputReadRequest_badIndex (hlen : p.length = 1) (h : 2 ≤ byteAt p 0) :
    outputReadRequest p s = s.refuse .badIndex := by
  simp [outputReadRequest, hlen, h]

theorem wetAckRequest_badIndex (hlen : p.length = 1) (h : 8 ≤ byteAt p 0) :
    wetAckRequest p s = s.refuse .badIndex := by
  simp [wetAckRequest, hlen, h]

theorem purgeRequest_badIndex (hlen : p.length = 1) (h : 24 ≤ byteAt p 0) :
    purgeRequest p s = s.refuse .badIndex := by
  simp [purgeRequest, hlen, h]

/-- R32: a surface index out of range is one of the index faults of a SURFACE_WRITE. -/
theorem surfaceIndexesOk_eq_false_of_index (h : 16 ≤ byteAt p 0) : surfaceIndexesOk p = false := by
  have : ¬byteAt p 0 < 16 := by omega
  simp [surfaceIndexesOk, this]

end

/-- The request of a kind carries the payload length of Table 10-3. -/
theorem length_of_requestLength {kind : Byte} {p : List Byte} {n : Nat} (h : requestLength kind = some p.length)
    (hn : requestLength kind = some n) : p.length = n :=
  Option.some.inj (h.symm.trans hn)

/-- Settles O17: each of the eight requests with an index makes that check after those of its length and of a SAVE. -/
theorem indexOutOfRangeIsRefused : Obligations.IndexOutOfRangeIsRefused := by
  intro c k p n s hrequest hlen hlimit hindex hsave htakes
  have refused {handle : State → State × Answer} {kind : Byte} (h : handle s = s.refuse .badIndex) :
      Host.Outcome.next (s.answer kind handle) =
        (.next (s.postReply kind (Answer.mk .badIndex [])) : Host.Outcome State Fault Refusal) :=
    congrArg _ (State.answer_of_refuse htakes kind h)
  cases c with
  | pointWrite p' =>
    cases hrequest; cases hlimit
    exact refused (pointWriteRequest_badIndex (length_of_requestLength hlen rfl) (hsave rfl) hindex)
  | pointRead p' =>
    cases hrequest; cases hlimit
    exact refused (pointReadRequest_badIndex (length_of_requestLength hlen rfl) hindex)
  | surfaceWrite p' =>
    cases hrequest; cases hlimit
    exact refused (surfaceWriteRequest_badIndex (length_of_requestLength hlen rfl) (hsave rfl)
      (surfaceIndexesOk_eq_false_of_index hindex))
  | surfaceRead p' =>
    cases hrequest; cases hlimit
    exact refused (surfaceReadRequest_badIndex (length_of_requestLength hlen rfl) hindex)
  | outputWrite p' =>
    cases hrequest; cases hlimit
    exact refused (outputWriteRequest_badIndex (length_of_requestLength hlen rfl) (hsave rfl) hindex)
  | outputRead p' =>
    cases hrequest; cases hlimit
    exact refused (outputReadRequest_badIndex (length_of_requestLength hlen rfl) hindex)
  | wetAck p' =>
    cases hrequest; cases hlimit
    exact refused (wetAckRequest_badIndex (length_of_requestLength hlen rfl) hindex)
  | purge p' =>
    cases hrequest; cases hlimit
    exact refused (purgeRequest_badIndex (length_of_requestLength hlen rfl) hindex)
  | _ => cases hlimit

/-! ### Fields of payloads (R164) -/

@[simp] theorem byteAt_cons_zero (b : Byte) (p : List Byte) : byteAt (b :: p) 0 = b.toNat := rfl
@[simp] theorem byteAt_cons_succ (b : Byte) (p : List Byte) (k : Nat) : byteAt (b :: p) (k + 1) = byteAt p k := rfl

theorem toNat_ofNat_of_lt {n : Nat} (h : n < 256) : (BitVec.ofNat 8 n).toNat = n := by
  simpa using Nat.mod_eq_of_lt h

/-- An index of a table is carried by one byte. -/
theorem index_mod_byte {n : Nat} (i : Fin n) (hn : n ≤ 256) : (i : Nat) % 256 = i := Nat.mod_eq_of_lt (by omega)

/-! ### Reads (R34, R77, R161, Tables 10-8, 10-10, 10-11) -/

/-- Table 10-8: the bits of a present value's qualifier byte. -/
theorem Quals.present_bits (q : Quals) : ∃ b : Byte, q.present = [b]
    ∧ b.getLsbD 0 = q.clamped ∧ b.getLsbD 1 = q.held ∧ b.getLsbD 2 = q.saturated ∧ b.getLsbD 3 = q.lowDew
    ∧ b.getLsbD 4 = false ∧ b.getLsbD 5 = false ∧ b.getLsbD 6 = false ∧ b.getLsbD 7 = true := by
  refine ⟨BitVec.ofNat 8 (128 + q.bits), rfl, ?_⟩
  obtain ⟨clamped, held, saturated, lowDew⟩ := q
  revert clamped held saturated lowDew
  decide

@[simp] theorem s16_zero : s16 0 = u16 0 := by decide

theorem pointReadRequest_written (p : Fin 24) (s : State) :
    pointReadRequest [BitVec.ofNat 8 p, 0] s = s.accept (0 :: pointCfgRecord p s.store.written.points[p]) := by
  simp [pointReadRequest, u8, index_mod_byte p, p.isLt.not_ge]

theorem pointReadRequest_working (p : Fin 24) (s : State) :
    pointReadRequest [BitVec.ofNat 8 p, 1] s = s.accept (1 :: pointCfgRecord p (s.points[p]).cfg) := by
  simp [pointReadRequest, u8, index_mod_byte p, p.isLt.not_ge]

theorem pointReadRequest_runtime (p : Fin 24) (s : State) :
    pointReadRequest [BitVec.ofNat 8 p, 2] s = s.accept (2 :: pointRunRecord p (s.points[p]).run) := by
  simp [pointReadRequest, u8, index_mod_byte p, p.isLt.not_ge]

theorem surfaceReadRequest_written (i : Fin 16) (s : State) :
    surfaceReadRequest [BitVec.ofNat 8 i, 0] s = s.accept (0 :: surfaceCfgRecord i s.store.written.surfaces[i]) := by
  simp [surfaceReadRequest, u8, index_mod_byte i, i.isLt.not_ge]

theorem surfaceReadRequest_working (i : Fin 16) (s : State) :
    surfaceReadRequest [BitVec.ofNat 8 i, 1] s = s.accept (1 :: surfaceCfgRecord i (s.surfaces[i]).cfg) := by
  simp [surfaceReadRequest, u8, index_mod_byte i, i.isLt.not_ge]

theorem surfaceReadRequest_runtime (i : Fin 16) (s : State) :
    surfaceReadRequest [BitVec.ofNat 8 i, 2] s = s.accept (2 :: surfaceRunRecord i (s.surfaces[i]).run) := by
  simp [surfaceReadRequest, u8, index_mod_byte i, i.isLt.not_ge]

/-- Table 10-11: the eight slots of the ring carry its margins, then zeros. -/
theorem ringBytes_eq {ring : List Int} {n : Nat} (h : ring.length ≤ n) :
    ((List.range n).flatMap fun j => s16 (ring.getD j 0)) =
      ring.flatMap s16 ++ List.replicate (2 * n - 2 * ring.length) 0 := by
  induction ring generalizing n with
  | nil =>
    induction n with
    | zero => rfl
    | succ n ih =>
      rw [List.range_succ, List.flatMap_append, ih (Nat.zero_le _)]
      have twoMore : List.replicate (2 * n) (0 : Byte) ++ List.replicate 2 0 = List.replicate (2 * n + 2) 0 :=
        List.replicate_append_replicate
      simpa [u16, Nat.mul_succ] using twoMore
  | cons m ring ih =>
    obtain ⟨n, rfl⟩ : ∃ k, n = k + 1 := ⟨n - 1, by simp at h; omega⟩
    have rest := ih (n := n) (by simpa using h)
    rw [List.range_succ_eq_map, List.flatMap_cons, List.flatMap_map]
    simp only [List.getD_cons_zero, List.getD_cons_succ, rest, List.flatMap_cons, List.append_assoc, List.length_cons]
    congr 3
    omega

/-- Settles O19: the reads are accepted with records whose layouts the statement writes out, an absent value as zeros. -/
theorem readsReturnTheRecords : Obligations.ReadsReturnTheRecords := by
  intro s htakes
  have accepted {handle : State → State × Answer} {kind : Byte} {payload : List Byte} (h : handle s = s.accept payload) :
      Host.Outcome.next (s.answer kind handle) =
        (.next (s.postReply kind (Answer.mk .ok payload)) : Host.Outcome State Fault Refusal) :=
    congrArg _ (State.answer_of_accept htakes kind h)
  refine ⟨accepted rfl, Quals.present_bits, fun p => ⟨accepted (pointReadRequest_written p s),
    accepted (pointReadRequest_working p s), ?_⟩, fun i => ⟨accepted (surfaceReadRequest_written i s),
    accepted (surfaceReadRequest_working i s), ?_⟩⟩
  · rintro r rfl
    refine accepted ((pointReadRequest_runtime p s).trans (congrArg s.accept ?_))
    generalize (s.points[p]).run = r
    change [2] ++ pointRunRecord p r = _
    simp only [pointRunRecord, ← List.append_assoc]
    refine congrArg₂ _ (congrArg₂ _ (congrArg₂ _ ?readings ?frozen) ?lastGood) ?lastFailure
    case readings => cases r.readings <;> simp [Readings.rhAndT, Readings.dewBytes, optUnsigned, optSigned]
    case frozen => cases r.frozen <;> simp [frozenBytes]
    case lastGood => cases r.lastGood <;> rfl
    case lastFailure => cases r.lastFailure <;> rfl
  · rintro r rfl hring
    refine accepted ((surfaceReadRequest_runtime i s).trans (congrArg s.accept ?_))
    generalize (s.surfaces[i]).run = r at hring
    change [2] ++ surfaceRunRecord i r = _
    simp only [surfaceRunRecord, ringBytes_eq hring, ← List.append_assoc, flagBit]
    refine congrArg₂ _ (congrArg₂ _ (congrArg₂ _ (congrArg₂ _ (congrArg₂ _ ?_ rfl) rfl) rfl) rfl) rfl
    cases r.values <;> simp [valuesBytes, optSigned]

end Sys2Proof.Machine
end

section
/-! The structural faults of the writes and reads (R158), and the accepted SURFACE_WRITE (R32, R33). -/

namespace Sys2Proof.Machine

section
variable {p : List Byte} {s : State}

/-! ### Codes outside their sets (R158, R164) -/

theorem pointKindOf_eq_none {n : Nat} (h : 2 < n) : pointKindOf n = none := by
  obtain ⟨k, rfl⟩ := Nat.exists_eq_add_of_le' h
  rfl

theorem combineModeOf_eq_none {n : Nat} (h : 2 < n) : combineModeOf n = none := by
  obtain ⟨k, rfl⟩ := Nat.exists_eq_add_of_le' h
  rfl

theorem tripLevelOf_eq_none {n : Nat} (h : n < 2 ∨ 5 < n) : tripLevelOf n = none := by
  obtain hlow | hhigh := h
  · interval_cases n <;> rfl
  · obtain ⟨k, rfl⟩ := Nat.exists_eq_add_of_le' hhigh
    rfl

theorem contactOf_eq_none {n : Nat} (h : 1 < n) : contactOf n = none := by
  obtain ⟨k, rfl⟩ := Nat.exists_eq_add_of_le' h
  rfl

theorem isBoolCode_eq_false {n : Nat} (h : 1 < n) : isBoolCode n = false := by
  simpa [isBoolCode] using h

/-! ### The checks of a SURFACE_WRITE (R32) -/

/-- R32 check 3, one index after another. The members are looked at when their count is one a list can have. -/
theorem surfaceIndexesOk_iff : surfaceIndexesOk p = true ↔
    byteAt p 0 < 16 ∧ byteAt p 2 < 24 ∧ (byteAt p 3 ≤ 4 → ∀ j < byteAt p 3, byteAt p (4 + 2 * j) < 24)
      ∧ (byteAt p 22 = 1 → byteAt p 23 < 8) := by
  simp only [surfaceIndexesOk, Bool.and_eq_true, Bool.or_eq_true, Bool.not_eq_true', Bool.and_eq_false_iff, decide_eq_true_eq,
    decide_eq_false_iff_not, List.all_eq_true, List.mem_range, and_assoc]
  refine and_congr_right fun _ => and_congr_right fun _ => and_congr ⟨?_, fun h => ?_⟩ (by rw [imp_iff_not_or])
  · rintro ((hnone | hmany) | hall) hle j hj
    · omega
    · omega
    · exact hall j hj
  · by_cases hle : byteAt p 3 ≤ 4
    · exact .inr (h hle)
    · exact .inl (.inr hle)

/-- R32 check 4, one fault after another. -/
theorem surfaceStructureOk_iff : surfaceStructureOk p = true ↔
    byteAt p 1 ≤ 1 ∧ (1 ≤ byteAt p 3 ∧ byteAt p 3 ≤ 4) ∧ byteAt p 22 ≤ 1
      ∧ ∀ j < byteAt p 3, ∀ i < j, byteAt p (4 + 2 * i) ≠ byteAt p (4 + 2 * j) := by
  simp only [surfaceStructureOk, isBoolCode, Bool.and_eq_true, decide_eq_true_eq, and_assoc]
  refine and_congr_right fun _ => and_congr_right fun _ => and_congr_right fun _ => and_congr_right fun _ => ?_
  rw [List.Nodup, List.pairwise_map, List.pairwise_iff_getElem]
  simp only [List.length_range, List.getElem_range]
  exact ⟨fun h j hj i hi => h i j (hi.trans hj) hj hi, fun h i j _ hj hij => h j hj i hij⟩

/-- R32 check 3: what makes an index of a point, of a member or of the wet line fail. -/
theorem surfaceIndexesOk_eq_false (h : 24 ≤ byteAt p 2 ∨ (byteAt p 3 ≤ 4 ∧ ∃ j < byteAt p 3, 24 ≤ byteAt p (4 + 2 * j))
    ∨ (byteAt p 22 = 1 ∧ 8 ≤ byteAt p 23)) : surfaceIndexesOk p = false := by
  refine Bool.eq_false_iff.2 fun hok => ?_
  obtain ⟨-, hpoint, hmembers, hline⟩ := surfaceIndexesOk_iff.1 hok
  obtain hfault | ⟨hcount, j, hj, hfault⟩ | ⟨hpresent, hfault⟩ := h
  · omega
  · exact absurd (hmembers hcount j hj) hfault.not_gt
  · exact absurd (hline hpresent) hfault.not_gt

/-- R32 check 4: the faults of a structure, of which the mode's is looked at first. -/
theorem surfaceStructure_fault (h : 1 < byteAt p 1 ∨ byteAt p 3 = 0 ∨ 4 < byteAt p 3 ∨ 2 < byteAt p 12 ∨ 1 < byteAt p 22
    ∨ ∃ j < byteAt p 3, ∃ i < j, byteAt p (4 + 2 * i) = byteAt p (4 + 2 * j)) :
    2 < byteAt p 12 ∨ surfaceStructureOk p = false := by
  refine or_iff_not_imp_left.2 fun hmode => Bool.eq_false_iff.2 fun hok => ?_
  obtain ⟨henabled, ⟨hmin, hmax⟩, hwet, hdistinct⟩ := surfaceStructureOk_iff.1 hok
  obtain h | h | h | h | h | ⟨j, hj, i, hi, h⟩ := h
  · omega
  · omega
  · omega
  · exact hmode h
  · omega
  · exact hdistinct j hj i hi h

/-! ### Structural faults (R32, R34, R75, R77, R118, R135, R150) -/

theorem pointWriteRequest_badValue (hlen : p.length = 8) (hsave : s.store.saving = none) (hindex : byteAt p 0 < 24)
    (h : 2 < byteAt p 1 ∨ limitNat 1000 60000 (u16At p 4) < limitNat 1000 60000 (u16At p 2) + 100) :
    pointWriteRequest p s = s.refuse .badValue := by
  simp only [pointWriteRequest, hlen, State.isSaving_eq_false hsave, hindex.not_ge]
  obtain hkind | hspan := h
  · simp [pointKindOf_eq_none hkind]
  · cases pointKindOf (byteAt p 1) with
    | none => rfl
    | some k => simp [pointCfgAt, PointCfg.limit, hspan]

theorem surfaceWriteRequest_badValue (hlen : p.length = 25) (hsave : s.store.saving = none)
    (hindex : surfaceIndexesOk p = true) (h : 2 < byteAt p 12 ∨ surfaceStructureOk p = false) :
    surfaceWriteRequest p s = s.refuse .badValue := by
  simp only [surfaceWriteRequest, hlen, State.isSaving_eq_false hsave, hindex]
  obtain hmode | hstructure := h
  · simp [combineModeOf_eq_none hmode]
  · cases combineModeOf (byteAt p 12) with
    | none => rfl
    | some m => simp [hstructure]

theorem outputWriteRequest_badValue (hlen : p.length = 10) (hsave : s.store.saving = none) (hindex : byteAt p 0 < 2)
    (h : byteAt p 3 < 2 ∨ 5 < byteAt p 3 ∨ 1 < byteAt p 4 ∨ 1 < byteAt p 9) :
    outputWriteRequest p s = s.refuse .badValue := by
  simp only [outputWriteRequest, hlen, State.isSaving_eq_false hsave, hindex.not_ge]
  by_cases htrip : byteAt p 3 < 2 ∨ 5 < byteAt p 3
  · simp [tripLevelOf_eq_none htrip]
  · by_cases hcontact : 1 < byteAt p 9
    · simp [contactOf_eq_none hcontact]
    · have hunknown : isBoolCode (byteAt p 4) = false := isBoolCode_eq_false (by omega)
      cases tripLevelOf (byteAt p 3) <;> cases contactOf (byteAt p 9) <;> simp [hunknown]

theorem wetlineWriteRequest_badValue (hlen : p.length = 10) (hsave : s.store.saving = none)
    (h : ∃ i < 8, 1 < byteAt p i) : wetlineWriteRequest p s = s.refuse .badValue := by
  obtain ⟨i, hi, hcode⟩ := h
  have fault : ((List.range 8).all fun i => isBoolCode (byteAt p i)) = false :=
    List.all_eq_false.2 ⟨i, List.mem_range.2 hi, by simp [isBoolCode_eq_false hcode]⟩
  simp [wetlineWriteRequest, hlen, State.isSaving_eq_false hsave, fault]

theorem pointReadRequest_badValue (hlen : p.length = 2) (hindex : byteAt p 0 < 24) (h : 2 < byteAt p 1) :
    pointReadRequest p s = s.refuse .badValue := by
  obtain ⟨k, hselector⟩ := Nat.exists_eq_add_of_le' h
  simp [pointReadRequest, hlen, hindex.not_ge, hselector]

theorem surfaceReadRequest_badValue (hlen : p.length = 2) (hindex : byteAt p 0 < 16) (h : 2 < byteAt p 1) :
    surfaceReadRequest p s = s.refuse .badValue := by
  obtain ⟨k, hselector⟩ := Nat.exists_eq_add_of_le' h
  simp [surfaceReadRequest, hlen, hindex.not_ge, hselector]

theorem snapReadRequest_badValue (hlen : p.length = 1) (h : 3 < byteAt p 0) :
    snapReadRequest p s = s.refuse .badValue := by
  simp [snapReadRequest, hlen, show 4 ≤ byteAt p 0 from h]

end

/-! ### The accepted SURFACE_WRITE (R32, R33) -/

theorem limitNat_eq_iff {lo hi x : Nat} (h : lo ≤ hi) : limitNat lo hi x = x ↔ lo ≤ x ∧ x ≤ hi :=
  ⟨fun e => e ▸ limitNat_bounds h x, fun ⟨hlo, hhi⟩ => limitNat_of_mem hlo hhi⟩

/-- R33, R158: nothing of a SURFACE_WRITE is limited when the weights are in range and the other numeric fields are stored as
they are written. -/
theorem surfaceCfgAt_limit_eq_iff (m : CombineMode) (p : List Byte) :
    (surfaceCfgAt m p).limit = surfaceCfgAt m p ↔
      (∀ j < byteAt p 3, 1 ≤ byteAt p (5 + 2 * j) ∧ byteAt p (5 + 2 * j) ≤ 15)
        ∧ (surfaceCfgAt m p).limit.watch = s16At p 13 ∧ (surfaceCfgAt m p).limit.alarm = s16At p 15
        ∧ (surfaceCfgAt m p).limit.hysteresis = s16At p 17 ∧ (surfaceCfgAt m p).limit.riseCount = byteAt p 19
        ∧ (surfaceCfgAt m p).limit.fallCount = byteAt p 20 ∧ (surfaceCfgAt m p).limit.holdSweeps = byteAt p 21
        ∧ (surfaceCfgAt m p).limit.forecastSweeps = byteAt p 24 := by
  have weights (j : Nat) : limitNat 1 15 (byteAt p (5 + 2 * j)) = byteAt p (5 + 2 * j) ↔
      1 ≤ byteAt p (5 + 2 * j) ∧ byteAt p (5 + 2 * j) ≤ 15 := limitNat_eq_iff (by norm_num)
  simp [SurfaceCfg.limit, surfaceCfgAt, memberAt, weights]

theorem writeStatus_eq (c : Prop) [Decidable c] : writeStatus (decide c) = if c then .okAdjusted else .ok := by
  simp [writeStatus]

/-- Settles O20: the checks of R32 pass, and what is stored is the payload's configuration limited. -/
theorem surfaceWriteIsStored : Obligations.SurfaceWriteIsStored := by
  intro p m cfg s htakes hsave hlen hindex henabled hpoint hmin hmax hmembers hdistinct hmode hwet hline hcfg
  have indexes : surfaceIndexesOk p = true := surfaceIndexesOk_iff.2 ⟨hindex, hpoint, fun _ => hmembers, hline⟩
  have sound : surfaceStructureOk p = true := surfaceStructureOk_iff.2 ⟨henabled, ⟨hmin, hmax⟩, hwet, hdistinct⟩
  obtain rfl : cfg = (surfaceCfgAt m p).limit := by
    rw [hcfg]
    simp [SurfaceCfg.limit, surfaceCfgAt, memberAt]
  have stored : surfaceWriteRequest p s =
      (s.writeSurface (Fin.ofNat 16 (byteAt p 0)) (surfaceCfgAt m p).limit,
        Answer.mk (writeStatus ((surfaceCfgAt m p).limit ≠ surfaceCfgAt m p))
          (surfaceCfgRecord (Fin.ofNat 16 (byteAt p 0)) (surfaceCfgAt m p).limit)) := by
    simp [surfaceWriteRequest, hlen, State.isSaving_eq_false hsave, indexes, hmode, sound]
  change Host.Outcome.next (s.answer 0x12 (surfaceWriteRequest p)) = _
  rw [State.answer_of_takes htakes, stored, writeStatus_eq, ite_not]
  simp only [surfaceCfgAt_limit_eq_iff]
  rfl

end Sys2Proof.Machine
end

section
/-! The bytes of a request frame, collected one by one and judged (R153 to R157), and the structural faults that only such bytes
can carry: those of a SWEEP frame (R124). -/

namespace Sys2Proof.Machine

/-! ### Runs of commands -/

theorem runAll_append {cs ds : List Instr} {s t : State} (h : runAll cs s = .next t) :
    runAll (cs ++ ds) s = runAll ds t := by
  induction cs generalizing s with
  | nil => cases h; rfl
  | cons c cs ih =>
    rw [List.cons_append, runAll]
    rw [runAll] at h
    cases hc : exec c s with
    | next u => rw [hc] at h; exact ih h
    | fault r => rw [hc] at h; cases h
    | refused r => rw [hc] at h; cases h

theorem exec_byteReceived {s : State} (h : s.power = .running) (b : Byte) (gap : Nat) :
    exec (.byteReceived b gap) s = .next (s.receiveByte b gap) := by
  simp [exec, execByteReceived, h]

theorem runAll_byteReceived {s : State} (h : s.power = .running) (b : Byte) (gap : Nat) :
    runAll [.byteReceived b gap] s = .next (s.receiveByte b gap) := by
  simp [runAll, exec_byteReceived h]

/-! ### Fields of a buffer -/

theorem byteAt_append_left {p : List Byte} {k : Nat} (h : k < p.length) (q : List Byte) : byteAt (p ++ q) k = byteAt p k := by
  simp [byteAt, List.getElem?_append_left h]

theorem byteAt_append_right (p q : List Byte) (k : Nat) : byteAt (p ++ q) (p.length + k) = byteAt q k := by
  simp [byteAt, List.getElem?_append_right]

/-- R164: a two-byte field read back. -/
theorem u16_value {n : Nat} (h : n < 65536) : (BitVec.ofNat 8 (n / 256)).toNat * 256 + (BitVec.ofNat 8 n).toNat = n := by
  simp only [BitVec.toNat_ofNat]
  omega

theorem u16At_append_u16 (p : List Byte) {n : Nat} (h : n < 65536) : u16At (p ++ u16 n) p.length = n := by
  rw [u16At, byteAt_append_right p (u16 n) 1, ← Nat.add_zero p.length, byteAt_append_right p (u16 n) 0]
  exact u16_value h

/-! ### Collecting a frame (R153) -/

/-- The part in FRAME with a buffer. -/
def State.collecting (s : State) (buffer : List Byte) : State :=
  { s with link := { s.link with receiver := .frame, buffer := buffer } }

section
variable {s : State} {gap : Nat}

/-- R153: a byte after no more than 3.0 ms of silence joins the buffer. -/
theorem State.receiveByte_collecting (hgap : gap ≤ 12000) (s : State) (buffer : List Byte) (b : Byte) :
    (s.collecting buffer).receiveByte b gap = (s.collecting buffer).frameByte b := by
  have : ¬Config.maxSilence < gap := by simpa [Config.maxSilence] using hgap
  simp [State.receiveByte, State.collecting, this]

/-- R153: a byte that neither makes the frame too long nor completes it is collected. -/
theorem State.frameByte_incomplete {buffer : List Byte} {b : Byte} (hfits : buffer.length = 3 → b.toNat ≤ 48)
    (hmore : 3 ≤ buffer.length → buffer.length + 1 ≠ 6 + frameLength (buffer ++ [b])) :
    (s.collecting buffer).frameByte b = s.collecting (buffer ++ [b]) := by
  have tooLong : ¬(buffer.length = 3 ∧ 48 < b.toNat) := fun ⟨h, hlt⟩ => absurd (hfits h) (by omega)
  have complete : ¬(3 ≤ buffer.length ∧ buffer.length + 1 = 6 + frameLength (buffer ++ [b])) := fun ⟨h, e⟩ => hmore h e
  simp [State.frameByte, State.collecting, tooLong, complete]

/-- R154: the byte that completes a frame has it judged. -/
theorem State.frameByte_complete {buffer : List Byte} {b : Byte}
    (hlast : buffer.length + 1 = 6 + frameLength (buffer ++ [b])) :
    (s.collecting buffer).frameByte b = (s.collecting buffer).judgeFrame (buffer ++ [b]) := by
  refine (if_neg ?_).trans (if_pos ?_)
  · simp [State.collecting]
    omega
  · simp [State.collecting]
    omega

theorem runAll_arrivals_incomplete (hrun : s.power = .running) (hgap : gap ≤ 12000) {buffer bytes : List Byte}
    (hlong : 4 ≤ buffer.length) (hmore : buffer.length + bytes.length < 6 + frameLength buffer) :
    runAll (arrivals bytes gap) (s.collecting buffer) = .next (s.collecting (buffer ++ bytes)) := by
  induction bytes generalizing buffer with
  | nil => simp [arrivals, runAll]
  | cons b bytes ih =>
    have kept : frameLength (buffer ++ [b]) = frameLength buffer := byteAt_append_left (by omega) _
    rw [List.length_cons] at hmore
    have collected : (s.collecting buffer).receiveByte b gap = s.collecting (buffer ++ [b]) := by
      rw [State.receiveByte_collecting hgap]
      exact State.frameByte_incomplete (by omega) (by omega)
    change runAll ([.byteReceived b gap] ++ arrivals bytes gap) _ = _
    rw [runAll_append ((runAll_byteReceived (s := s.collecting buffer) hrun b gap).trans (congrArg _ collected)),
      ih (by simp; omega) (by rw [kept]; simp; omega), List.append_assoc]
    rfl

/-- R153: the lead, the address, the kind and the length, received from HUNT. -/
theorem runAll_arrivals_head (hrun : s.power = .running) (hgap : gap ≤ 12000) (hhunt : s.link.receiver = .hunt)
    (adr kind : Byte) {n : Byte} (hn : n.toNat ≤ 48) :
    runAll (arrivals [requestLead, adr, kind, n] gap) s = .next (s.collecting [requestLead, adr, kind, n]) := by
  have lead : s.receiveByte requestLead gap = s.collecting [requestLead] := by
    simp [State.receiveByte, hhunt, State.huntByte, State.collecting]
  have joins {buffer : List Byte} (b : Byte) (hfits : buffer.length = 3 → b.toNat ≤ 48)
      (hmore : 3 ≤ buffer.length → buffer.length + 1 ≠ 6 + frameLength (buffer ++ [b])) :
      runAll [.byteReceived b gap] (s.collecting buffer) = .next (s.collecting (buffer ++ [b])) := by
    rw [runAll_byteReceived (s := s.collecting buffer) hrun, State.receiveByte_collecting hgap,
      State.frameByte_incomplete hfits hmore]
  have first := (runAll_byteReceived hrun requestLead gap).trans (congrArg _ lead)
  change runAll ([.byteReceived requestLead gap] ++ ([.byteReceived adr gap] ++ ([.byteReceived kind gap]
    ++ [.byteReceived n gap]))) s = _
  rw [runAll_append first, runAll_append (joins adr (by simp) (by simp)), runAll_append (joins kind (by simp) (by simp)),
    joins n (fun _ => hn) (by simp; omega)]
  rfl

/-- The bytes of a frame with any CRC (Table 10-6). -/
def frameBytes (adr kind : Byte) (p : List Byte) (crc : BitVec 16) : List Byte :=
  requestLead :: adr :: kind :: BitVec.ofNat 8 p.length :: (p ++ u16 crc.toNat)

theorem requestFrame_eq (adr kind : Byte) (p : List Byte) :
    requestFrame adr kind p = frameBytes adr kind p (crc16 (adr :: kind :: BitVec.ofNat 8 p.length :: p)) := rfl

theorem frameLength_frameBytes (adr kind : Byte) {p : List Byte} (hp : p.length ≤ 48) (rest : List Byte) :
    frameLength (requestLead :: adr :: kind :: BitVec.ofNat 8 p.length :: rest) = p.length := by
  simp [frameLength]
  omega

/-- R153, R154: the bytes of a frame, received from HUNT, are collected and judged. -/
theorem runAll_arrivals_frame (hrun : s.power = .running) (hgap : gap ≤ 12000) (hhunt : s.link.receiver = .hunt)
    (adr kind : Byte) {p : List Byte} (hp : p.length ≤ 48) (crc : BitVec 16) :
    ∃ buffer : List Byte, runAll (arrivals (frameBytes adr kind p crc) gap) s =
      .next ((s.collecting buffer).judgeFrame (frameBytes adr kind p crc)) := by
  let head := [requestLead, adr, kind, BitVec.ofNat 8 p.length]
  let body := p ++ [BitVec.ofNat 8 (crc.toNat / 256)]
  let last : Byte := BitVec.ofNat 8 crc.toNat
  have bytes : frameBytes adr kind p crc = head ++ (body ++ [last]) := by simp [frameBytes, head, body, last, u16]
  have hlength (rest : List Byte) : frameLength (head ++ rest) = p.length := frameLength_frameBytes adr kind hp rest
  have headed : runAll (arrivals head gap) s = .next (s.collecting head) :=
    runAll_arrivals_head hrun hgap hhunt adr kind (by simp; omega)
  have collected : runAll (arrivals body gap) (s.collecting head) = .next (s.collecting (head ++ body)) := by
    refine runAll_arrivals_incomplete hrun hgap (by simp [head]) ?_
    have : frameLength head = p.length := by simpa using hlength []
    simp [this, head, body]
    omega
  refine ⟨head ++ body, ?_⟩
  have split : arrivals (frameBytes adr kind p crc) gap = arrivals head gap ++ (arrivals body gap ++ [.byteReceived last gap]) := by
    rw [bytes]
    simp [arrivals]
  rw [split, runAll_append headed, runAll_append collected,
    runAll_byteReceived (s := s.collecting (head ++ body)) hrun, State.receiveByte_collecting hgap, State.frameByte_complete (by rw [List.append_assoc, hlength]; simp [head, body]; omega), bytes,
    List.append_assoc]

/-! ### Judging a frame (R154, R155, R157) -/

theorem frameCrcOk_frameBytes (adr kind : Byte) {p : List Byte} (hp : p.length ≤ 48) (crc : BitVec 16) :
    frameCrcOk (frameBytes adr kind p crc) = decide (crc16 (adr :: kind :: BitVec.ofNat 8 p.length :: p) = crc) := by
  have covered : ((frameBytes adr kind p crc).drop 1).take (3 + p.length) = adr :: kind :: BitVec.ofNat 8 p.length :: p := by
    simp [frameBytes, Nat.add_comm 3]
  have carried : u16At (frameBytes adr kind p crc) (4 + p.length) = crc.toNat := by
    simpa [frameBytes, Nat.add_comm 4] using
      u16At_append_u16 (requestLead :: adr :: kind :: BitVec.ofNat 8 p.length :: p) crc.isLt
  have hlength : frameLength (frameBytes adr kind p crc) = p.length := frameLength_frameBytes adr kind hp _
  simp only [frameCrcOk, hlength, covered, carried, BitVec.toNat_inj]

/-- R154, R155, R157: a frame whose CRC agrees is dispatched by its address. -/
theorem State.judgeFrame_requestFrame (s : State) (adr kind : Byte) {p : List Byte} (hp : p.length ≤ 48) :
    s.judgeFrame (requestFrame adr kind p) =
      if adr.toNat = 0 then s.dispatchBroadcast kind p
      else if adr.toNat = s.link.address.toNat then s.dispatchOwn kind p
      else s.dropFrame := by
  have crc : frameCrcOk (requestFrame adr kind p) = true := by rw [requestFrame_eq, frameCrcOk_frameBytes _ _ hp]; simp
  have payload : ((requestFrame adr kind p).drop 4).take (frameLength (requestFrame adr kind p)) = p := by
    rw [requestFrame_eq, frameBytes, frameLength_frameBytes _ _ hp]
    simp
  simp only [State.judgeFrame, crc, payload]
  rfl

/-- R155: the bytes of a request frame under the part's own address are dispatched as that request. -/
theorem runAll_ownFrame (htakes : s.takesOwn = true) (hgap : gap ≤ 12000) (hhunt : s.link.receiver = .hunt) (kind : Byte)
    {p : List Byte} (hp : p.length ≤ 48) :
    ∃ buffer : List Byte, runAll (arrivals (requestFrame (s.link.address.zeroExtend 8) kind p) gap) s =
      .next ((s.collecting buffer).dispatchOwn kind p) := by
  obtain ⟨hrun, -, haddress⟩ := s.takesOwn_iff.1 htakes
  obtain ⟨buffer, h⟩ := runAll_arrivals_frame hrun hgap hhunt (s.link.address.zeroExtend 8) kind hp _
  have own : (s.link.address.zeroExtend 8).toNat = s.link.address.toNat := by
    have := s.link.address.isLt
    simp
    omega
  have nonzero : s.link.address.toNat ≠ 0 := fun e => haddress (BitVec.eq_of_toNat_eq e)
  refine ⟨buffer, (requestFrame_eq _ _ _ ▸ h).trans (congrArg _ ?_)⟩
  rw [State.judgeFrame_requestFrame _ _ _ hp, own, if_neg nonzero]
  exact if_pos rfl

/-- R157: the bytes of a request frame under the broadcast address are dispatched as a broadcast. -/
theorem runAll_broadcastFrame (hreceives : s.receives = true) (hgap : gap ≤ 12000) (hhunt : s.link.receiver = .hunt)
    (kind : Byte) {p : List Byte} (hp : p.length ≤ 48) :
    ∃ buffer : List Byte, runAll (arrivals (requestFrame 0 kind p) gap) s =
      .next ((s.collecting buffer).dispatchBroadcast kind p) := by
  have hrun : s.power = .running := by simp [State.receives] at hreceives; exact hreceives.1
  obtain ⟨buffer, h⟩ := runAll_arrivals_frame hrun hgap hhunt 0 kind hp _
  exact ⟨buffer, (requestFrame_eq _ _ _ ▸ h).trans (congrArg _ (State.judgeFrame_requestFrame _ _ _ hp))⟩

/-! ### The faults of a SWEEP frame (R124) -/

theorem sweepRequest_badLength {p : List Byte} (h : p.length ≠ 3) (s : State) :
    sweepRequest p s = s.refuse .badLength := by
  cases p with
  | nil => rfl
  | cons action rest =>
    have hrest : rest.length ≠ 2 := by simpa using h
    unfold sweepRequest
    dsimp only
    split
    · exact if_pos hrest
    · exact if_pos hrest
    · exact if_pos hrest
    · exact if_pos hrest
    · exact if_pos hrest

theorem sweepRequest_badValue {p : List Byte} (hlen : p.length = 3) (h : 3 < byteAt p 0) (s : State) :
    sweepRequest p s = s.refuse .badValue := by
  obtain ⟨action, rest, rfl⟩ := List.exists_cons_of_length_eq_add_one hlen
  have hrest : rest.length = 2 := by simpa using hlen
  obtain ⟨k, hk⟩ := Nat.exists_eq_add_of_le' h
  rw [byteAt_cons_zero] at hk
  simp [sweepRequest, hk, hrest]

/-- R124, R158: the bytes of a SWEEP frame that is refused, under the part's own address. -/
theorem runAll_refusedSweep (htakes : s.takesOwn = true) (hgap : gap ≤ 12000) (hhunt : s.link.receiver = .hunt)
    {p : List Byte} (hp : p.length ≤ 48) {st : Status} (h : ∀ t, sweepRequest p t = t.refuse st) :
    runAll (arrivals (requestFrame (s.link.address.zeroExtend 8) 0x20 p) gap) s =
      .next (s.postReply 0x20 (Answer.mk st [])) := by
  obtain ⟨buffer, e⟩ := runAll_ownFrame htakes hgap hhunt 0x20 hp
  obtain ⟨hrun, -, haddress⟩ := s.takesOwn_iff.1 htakes
  have takes : (s.collecting buffer).takesOwn = true := (State.takesOwn_iff _).2 ⟨hrun, nofun, haddress⟩
  exact e.trans (congrArg _ (State.answer_of_refuse takes 0x20 (h _)))

/-- R124, R157: the bytes of a SWEEP frame that is refused, as a broadcast. -/
theorem runAll_refusedSweepBroadcast (hreceives : s.receives = true) (hgap : gap ≤ 12000) (hhunt : s.link.receiver = .hunt)
    {p : List Byte} (hp : p.length ≤ 48) {st : Status} (h : ∀ t, sweepRequest p t = t.refuse st) :
    runAll (arrivals (requestFrame 0 0x20 p) gap) s = .next s.hunt := by
  obtain ⟨buffer, e⟩ := runAll_broadcastFrame hreceives hgap hhunt 0x20 hp
  have hrun : s.power = .running := by simp [State.receives] at hreceives; exact hreceives.1
  have receives : (s.collecting buffer).receives = true := by simp [State.receives, State.collecting, hrun]
  refine e.trans (congrArg _ ((State.broadcast_of_receives receives _).trans ?_))
  rw [h]
  rfl

end

/-- Settles O18: each fault is met by the check it belongs to, after the checks before it have passed. -/
theorem structuralFaultsAreRefused : Obligations.StructuralFaultsAreRefused := by
  refine ⟨fun p s htakes => ?_, fun p gap s hgap hhunt hp => ⟨fun htakes hlen => ?_, fun htakes hlen haction => ?_,
    fun hreceives hfault => ?_⟩⟩
  · have refused {handle : State → State × Answer} {kind : Byte} {st : Status} (h : handle s = s.refuse st) :
        Host.Outcome.next (s.answer kind handle) =
          (.next (s.postReply kind (Answer.mk st [])) : Host.Outcome State Fault Refusal) :=
      congrArg _ (State.answer_of_refuse htakes kind h)
    refine ⟨fun hsave hlen hindex hfault => refused (pointWriteRequest_badValue hlen hsave hindex hfault),
      fun hsave hlen hfault => refused (surfaceWriteRequest_badIndex hlen hsave (surfaceIndexesOk_eq_false hfault)),
      fun hsave hlen hsurface hpoint hmembers hline hfault => refused (surfaceWriteRequest_badValue hlen hsave
        (surfaceIndexesOk_iff.2 ⟨hsurface, hpoint, hmembers, hline⟩) (surfaceStructure_fault hfault)),
      fun hsave hlen hindex hfault => refused (outputWriteRequest_badValue hlen hsave hindex hfault),
      fun hsave hlen hfault => refused (wetlineWriteRequest_badValue hlen hsave hfault),
      fun hlen hindex hselector => refused (pointReadRequest_badValue hlen hindex hselector),
      fun hlen hindex hselector => refused (surfaceReadRequest_badValue hlen hindex hselector),
      fun hlen hpage => refused (snapReadRequest_badValue hlen hpage)⟩
  · exact runAll_refusedSweep htakes hgap hhunt hp fun t => sweepRequest_badLength hlen t
  · exact runAll_refusedSweep htakes hgap hhunt hp fun t => sweepRequest_badValue hlen haction t
  · by_cases hlen : p.length = 3
    · have haction : 3 < byteAt p 0 := hfault.resolve_left (not_not.2 hlen)
      exact runAll_refusedSweepBroadcast hreceives hgap hhunt hp fun t => sweepRequest_badValue hlen haction t
    · exact runAll_refusedSweepBroadcast hreceives hgap hhunt hp fun t => sweepRequest_badLength hlen t

end Sys2Proof.Machine
end

section
/-! A configuration record that is read out and written back reads as the configuration it was made of (R164, Section 10.8), and
a configuration in range is stored as it is written (3.6). -/

namespace Sys2Proof.Machine

/-! ### Fields (R164) -/

/-- R164: a signed field read back. -/
theorem s16_value {i : Int} (hlo : -32768 ≤ i) (hhi : i < 32768) :
    (BitVec.ofNat 16 ((BitVec.ofNat 8 ((BitVec.ofInt 16 i).toNat / 256)).toNat * 256
      + (BitVec.ofNat 8 (BitVec.ofInt 16 i).toNat).toNat)).toInt = i := by
  rw [u16_value (BitVec.ofInt 16 i).isLt, BitVec.ofNat_toNat, BitVec.setWidth_eq, BitVec.toInt_ofInt]
  exact Int.bmod_eq_of_le (by norm_num; omega) (by norm_num; omega)

theorem pointKindOf_code (k : PointKind) : pointKindOf k.code = some k := by cases k <;> rfl

theorem combineModeOf_code (m : CombineMode) : combineModeOf m.code = some m := by cases m <;> rfl

theorem tripLevelOf_code (t : TripLevel) : tripLevelOf t.risk.code = some t := by cases t <;> rfl

theorem contactOf_code (k : ContactSense) : contactOf k.code = some k := by cases k <;> rfl

theorem PointKind.code_lt (k : PointKind) : k.code < 256 := by cases k <;> decide

theorem CombineMode.code_lt (m : CombineMode) : m.code < 256 := by cases m <;> decide

theorem TripLevel.code_lt (t : TripLevel) : t.risk.code < 256 := by cases t <;> decide

theorem ContactSense.code_lt (k : ContactSense) : k.code < 256 := by cases k <;> decide

theorem boolCode_lt (b : Bool) : boolCode b < 256 := by cases b <;> decide

theorem isBoolCode_boolCode (b : Bool) : isBoolCode (boolCode b) = true := by cases b <;> rfl

theorem boolCode_eq_one (b : Bool) : decide (boolCode b = 1) = b := by cases b <;> rfl

/-! ### Configurations in range are not limited (R33, R76, R78, R118, R150) -/

theorem PointCfg.Valid.limit_eq {c : PointCfg} (h : c.Valid) : c.limit = c := by
  obtain ⟨hdry, hspan, hwet, hlo, hhi⟩ := h
  rw [PointCfg.limit, limitNat_of_mem hdry (by omega), limitNat_of_mem (by omega) hwet, limitInt_of_mem hlo hhi]

theorem SurfaceCfg.Valid.limit_eq {c : SurfaceCfg} (h : c.Valid) : c.limit = c := by
  obtain ⟨-, -, hweights, ⟨hwatch, hwatch'⟩, ⟨halarm, halarm'⟩, ⟨hhyst, hhyst'⟩, ⟨hrise, hrise'⟩, ⟨hfall, hfall'⟩, hhold,
    hforecast⟩ := h
  have airList : c.airList.map (fun m => { m with weight := limitNat 1 15 m.weight }) = c.airList :=
    (List.map_congr_left (g := id) fun m hm => by
      obtain ⟨hlo, hhi⟩ := hweights m hm
      rw [limitNat_of_mem hlo hhi]
      rfl).trans (List.map_id _)
  rw [SurfaceCfg.limit, airList, limitInt_of_mem hwatch hwatch', limitInt_of_mem halarm halarm', limitInt_of_mem hhyst hhyst',
    limitNat_of_mem hrise hrise', limitNat_of_mem hfall hfall', limitNat_of_mem (Nat.zero_le _) hhold,
    limitNat_of_mem (Nat.zero_le _) hforecast]

theorem GlobalCfg.Valid.limit_eq {g : GlobalCfg} (h : g.Valid) : g.limit = g := by
  obtain ⟨hfault, -, -, hwindow, hsat, hmax, hduty, hpurge, hrecovery⟩ := h
  rw [GlobalCfg.limit, limitNat_of_mem hfault.1 hfault.2, limitNat_of_mem hwindow.1 hwindow.2, limitNat_of_mem hsat.1 hsat.2,
    limitNat_of_mem hmax.1 hmax.2, limitNat_of_mem hduty.1 hduty.2, limitNat_of_mem hpurge.1 hpurge.2,
    limitNat_of_mem hrecovery.1 hrecovery.2]

theorem GlobalCfg.Valid.divisorsOk {g : GlobalCfg} (h : g.Valid) : g.divisorsOk = true := by
  obtain ⟨-, hF, hD, -⟩ := h
  simp only [List.mem_cons, List.not_mem_nil, or_false] at hF hD
  simp [GlobalCfg.divisorsOk, hF, hD, or_assoc]

theorem OutputCfg.limit_eq {c : OutputCfg} (hon : c.minOn ≤ 3600) (hoff : c.minOff ≤ 3600) : c.limit = c := by
  rw [OutputCfg.limit, limitNat_of_mem (Nat.zero_le _) hon, limitNat_of_mem (Nat.zero_le _) hoff]

theorem WetCfg.limit_eq {c : WetCfg} (h : 5 ≤ c.debounce ∧ c.debounce ≤ 300) : c.limit = c := by
  rw [WetCfg.limit, limitNat_of_mem h.1 h.2]

/-! ### Records read back (Section 10.8) -/

theorem pointCfgAt_record (p : Fin 24) {c : PointCfg} (h : c.Valid) : pointCfgAt c.kind (pointCfgRecord p c) = c := by
  obtain ⟨hdry, hspan, hwet, hlo, hhi⟩ := h
  have dry : u16At (pointCfgRecord p c) 2 = c.cDry := u16_value (by omega)
  have wet : u16At (pointCfgRecord p c) 4 = c.cWet := u16_value (by omega)
  have offset : s16At (pointCfgRecord p c) 6 = c.tOffset := s16_value (by omega) (by omega)
  rw [pointCfgAt, dry, wet, offset]

theorem globalCfgAt_record {g : GlobalCfg} (h : g.Valid) : globalCfgAt (globalRecord g) = g := by
  obtain ⟨hfault, hF, hD, hwindow, hsat, hmax, hduty, hpurge, hrecovery⟩ := h
  simp only [List.mem_cons, List.not_mem_nil, or_false] at hF hD
  have faultCount : byteAt (globalRecord g) 0 = g.faultCount := toNat_ofNat_of_lt (by omega)
  have nF : u16At (globalRecord g) 1 = g.nF := u16_value (by omega)
  have nD : byteAt (globalRecord g) 3 = g.nD := toNat_ofNat_of_lt (by omega)
  have window : u16At (globalRecord g) 4 = g.window := u16_value (by omega)
  have satCount : byteAt (globalRecord g) 6 = g.satCount := toNat_ofNat_of_lt (by omega)
  have maxPurges : byteAt (globalRecord g) 7 = g.maxPurges := toNat_ofNat_of_lt (by omega)
  have heaterDuty : byteAt (globalRecord g) 8 = g.heaterDuty := toNat_ofNat_of_lt (by omega)
  have purgeTime : u16At (globalRecord g) 9 = g.purgeTime := u16_value (by omega)
  have recoveryTime : u16At (globalRecord g) 11 = g.recoveryTime := u16_value (by omega)
  rw [globalCfgAt, faultCount, nF, nD, window, satCount, maxPurges, heaterDuty, purgeTime, recoveryTime]

theorem outputCfgAt_record (o : Fin 2) {c : OutputCfg} (hon : c.minOn ≤ 3600) (hoff : c.minOff ≤ 3600) :
    outputCfgAt c.tripLevel c.contact (outputCfgRecord o c) = c := by
  have members : u16At (outputCfgRecord o c) 1 = c.members.toNat := u16_value c.members.isLt
  have unknownTrips : byteAt (outputCfgRecord o c) 4 = boolCode c.unknownTrips := toNat_ofNat_of_lt (boolCode_lt _)
  have minOn : u16At (outputCfgRecord o c) 5 = c.minOn := u16_value (by omega)
  have minOff : u16At (outputCfgRecord o c) 7 = c.minOff := u16_value (by omega)
  rw [outputCfgAt, members, unknownTrips, minOn, minOff, boolCode_eq_one, BitVec.ofNat_toNat, BitVec.setWidth_eq]

/-- Table 10-13: the eight enabled bytes of a wet-line record. -/
theorem byteAt_wetCfgRecord (c : WetCfg) (l : Fin 8) : byteAt (wetCfgRecord c) l = boolCode c.enabled[l] := by
  have flags : byteAt (wetCfgRecord c) l = (BitVec.ofNat 8 (boolCode c.enabled[l])).toNat := by fin_cases l <;> rfl
  rw [flags, toNat_ofNat_of_lt (boolCode_lt _)]

theorem wetCfgAt_record {c : WetCfg} (h : 5 ≤ c.debounce ∧ c.debounce ≤ 300) : wetCfgAt (wetCfgRecord c) = c := by
  have enabled : (Vector.ofFn fun i : Fin 8 => decide (byteAt (wetCfgRecord c) i = 1)) = c.enabled := by
    ext i hi
    rw [Vector.getElem_ofFn, byteAt_wetCfgRecord c ⟨i, hi⟩, boolCode_eq_one]
    rfl
  have debounce : u16At (wetCfgRecord c) 8 = c.debounce := u16_value (by omega)
  rw [wetCfgAt, enabled, debounce]

/-! The record of a surface (Table 10-11). -/

/-- The point number of member slot `j`, 0 beyond the list. -/
def slotPoint (l : List Member) (j : Nat) : Nat := (l[j]?.map fun m => (m.point : Nat)).getD 0

/-- The weight of member slot `j`, 0 beyond the list. -/
def slotWeight (l : List Member) (j : Nat) : Nat := (l[j]?.map Member.weight).getD 0

theorem memberSlot_eq (l : List Member) (j : Nat) :
    memberSlot l j = [BitVec.ofNat 8 (slotPoint l j), BitVec.ofNat 8 (slotWeight l j)] := by
  unfold memberSlot slotPoint slotWeight
  cases l[j]? <;> rfl

/-- Table 10-11: the 25 bytes of a surface's configuration record. -/
theorem surfaceCfgRecord_eq (i : Fin 16) (c : SurfaceCfg) : surfaceCfgRecord i c =
    let slots := [0, 1, 2, 3].flatMap fun j => [slotPoint c.airList j, slotWeight c.airList j]
    [(i : Nat), boolCode c.enabled, c.surfacePoint, c.airList.length].map (BitVec.ofNat 8) ++ slots.map (BitVec.ofNat 8)
      ++ u8 c.mode.code ++ s16 c.watch ++ s16 c.alarm ++ s16 c.hysteresis
      ++ [c.riseCount, c.fallCount, c.holdSweeps, boolCode c.wetLine.isSome, (c.wetLine.map Fin.val).getD 0,
          c.forecastSweeps].map (BitVec.ofNat 8) := by
  simp only [surfaceCfgRecord, memberSlot_eq]
  cases c.wetLine <;> rfl

/-- A field of a surface's configuration record that holds a number below 256. -/
theorem byteAt_surfaceCfgRecord {i : Fin 16} {c : SurfaceCfg} {k n : Nat} (hn : n < 256)
    (h : (surfaceCfgRecord i c).getD k 0 = BitVec.ofNat 8 n) : byteAt (surfaceCfgRecord i c) k = n := by
  rw [byteAt, h, toNat_ofNat_of_lt hn]

section
variable {c : SurfaceCfg} {j : Nat}

theorem slotPoint_of_lt (h : j < c.airList.length) : slotPoint c.airList j = (c.airList[j]).point := by
  simp [slotPoint, h]

theorem slotWeight_of_lt (h : j < c.airList.length) : slotWeight c.airList j = (c.airList[j]).weight := by
  simp [slotWeight, h]

theorem byteAt_slotPoint (i : Fin 16) (h : c.Valid) (hj : j < c.airList.length) :
    byteAt (surfaceCfgRecord i c) (4 + 2 * j) = (c.airList[j]).point := by
  obtain ⟨⟨-, hlen⟩, -⟩ := h
  rw [← slotPoint_of_lt hj]
  refine byteAt_surfaceCfgRecord (by rw [slotPoint_of_lt hj]; omega) ?_
  rw [surfaceCfgRecord_eq]
  have : j < 4 := by omega
  interval_cases j <;> rfl

theorem byteAt_slotWeight (i : Fin 16) (h : c.Valid) (hj : j < c.airList.length) :
    byteAt (surfaceCfgRecord i c) (5 + 2 * j) = (c.airList[j]).weight := by
  obtain ⟨⟨-, hlen⟩, -, hweights, -⟩ := h
  obtain ⟨-, hmax⟩ := hweights _ (List.getElem_mem hj)
  rw [← slotWeight_of_lt hj]
  refine byteAt_surfaceCfgRecord (by rw [slotWeight_of_lt hj]; omega) ?_
  rw [surfaceCfgRecord_eq]
  have : j < 4 := by omega
  interval_cases j <;> rfl

theorem memberAt_record (i : Fin 16) (h : c.Valid) (hj : j < c.airList.length) :
    memberAt (surfaceCfgRecord i c) j = c.airList[j] := by
  rw [memberAt, byteAt_slotPoint i h hj, byteAt_slotWeight i h hj, Fin.ofNat_val_eq_self]

end

/-- Table 10-11: the bytes of a surface's configuration record beside its member slots. -/
structure SurfaceCfg.ReadsAs (c : SurfaceCfg) (i : Fin 16) (p : List Byte) : Prop where
  index : byteAt p 0 = i
  enabled : byteAt p 1 = boolCode c.enabled
  surfacePoint : byteAt p 2 = c.surfacePoint
  members : byteAt p 3 = c.airList.length
  mode : byteAt p 12 = c.mode.code
  watch : s16At p 13 = c.watch
  alarm : s16At p 15 = c.alarm
  hysteresis : s16At p 17 = c.hysteresis
  riseCount : byteAt p 19 = c.riseCount
  fallCount : byteAt p 20 = c.fallCount
  holdSweeps : byteAt p 21 = c.holdSweeps
  bound : byteAt p 22 = boolCode c.wetLine.isSome
  wetLine : byteAt p 23 = (c.wetLine.map Fin.val).getD 0
  forecastSweeps : byteAt p 24 = c.forecastSweeps

theorem surfaceCfgRecord_readsAs (i : Fin 16) {c : SurfaceCfg} (h : c.Valid) : c.ReadsAs i (surfaceCfgRecord i c) := by
  obtain ⟨⟨-, hlen⟩, -, -, hwatch, halarm, hhyst, hrise, hfall, hhold, hforecast⟩ := h
  have hline : (c.wetLine.map Fin.val).getD 0 < 256 := by
    cases c.wetLine with
    | none => decide
    | some l => exact lt_trans l.isLt (by decide)
  have field {k n : Nat} := byteAt_surfaceCfgRecord (i := i) (c := c) (k := k) (n := n)
  simp only [surfaceCfgRecord_eq] at field ⊢
  exact ⟨field (by omega) rfl, field (boolCode_lt _) rfl, field (by omega) rfl, field (by omega) rfl,
    field c.mode.code_lt rfl, s16_value (by omega) (by omega), s16_value (by omega) (by omega),
    s16_value (by omega) (by omega), field (by omega) rfl, field (by omega) rfl, field (by omega) rfl,
    field (boolCode_lt _) rfl, field hline rfl, field (by omega) rfl⟩

theorem surfaceCfgAt_record (i : Fin 16) {c : SurfaceCfg} (h : c.Valid) :
    surfaceCfgAt c.mode (surfaceCfgRecord i c) = c := by
  have reads := surfaceCfgRecord_readsAs i h
  have airList : (List.range c.airList.length).map (memberAt (surfaceCfgRecord i c)) = c.airList :=
    List.ext_getElem (by simp) fun j hj _ => by
      rw [List.getElem_map, List.getElem_range]
      exact memberAt_record i h (by simpa using hj)
  have wetLine : (if boolCode c.wetLine.isSome = 1 then some (Fin.ofNat 8 ((c.wetLine.map Fin.val).getD 0)) else none)
      = c.wetLine := by
    cases c.wetLine with
    | none => rfl
    | some l => simp [boolCode]
  rw [surfaceCfgAt, reads.enabled, reads.surfacePoint, reads.members, airList, reads.watch, reads.alarm, reads.hysteresis,
    reads.riseCount, reads.fallCount, reads.holdSweeps, reads.bound, reads.wetLine, wetLine, reads.forecastSweeps,
    boolCode_eq_one, Fin.ofNat_val_eq_self]

/-! ### Writing back -/

section
variable {s : State}

/-- What the statement asks of a record written back: OK, and the store but for DIRTY as it was. -/
def State.WritesBack (s : State) (handle : State → State × Answer) : Prop :=
  (handle s).1.store = { s.store with dirty := true } ∧ (handle s).2.status = .ok

theorem State.WritesBack.answered {handle : State → State × Answer} (h : s.WritesBack handle) (htakes : s.takesOwn = true)
    (kind : Byte) : ∃ t : State, (.next (s.answer kind handle) : Host.Outcome State Fault Refusal) = .next t
      ∧ t.store = { s.store with dirty := true } ∧ t.link.reply.map Reply.status = some .ok := by
  obtain ⟨hstore, hok⟩ := h
  refine ⟨_, rfl, ?_⟩
  rw [State.answer_of_takes htakes]
  exact ⟨hstore, congrArg some hok⟩

theorem pointWriteRequest_writesBack (hsave : s.store.saving = none) (p : Fin 24) (h : (s.store.written.points[p]).Valid) :
    s.WritesBack (pointWriteRequest (pointCfgRecord p s.store.written.points[p])) := by
  generalize hc : s.store.written.points[p] = c at h
  have hspan : ¬c.cWet < c.cDry + 100 := by obtain ⟨-, hspan, -⟩ := h; omega
  have index : byteAt (pointCfgRecord p c) 0 = p := toNat_ofNat_of_lt (by omega)
  have kind : byteAt (pointCfgRecord p c) 1 = c.kind.code := toNat_ofNat_of_lt c.kind.code_lt
  have stored : pointWriteRequest (pointCfgRecord p c) s = (s.writePoint p c, Answer.mk .ok (pointCfgRecord p c)) := by
    rw [pointWriteRequest, if_neg (by simp [pointCfgRecord, u8, u16, s16]), if_neg (by simp [State.isSaving_eq_false hsave]),
      index, if_neg (by omega), kind, pointKindOf_code]
    simp [pointCfgAt_record p h, h.limit_eq, hspan, writeStatus]
  rw [State.WritesBack, stored, ← hc]
  simp [State.writePoint]

theorem surfaceWriteRequest_writesBack (hsave : s.store.saving = none) (i : Fin 16)
    (h : (s.store.written.surfaces[i]).Valid) :
    s.WritesBack (surfaceWriteRequest (surfaceCfgRecord i s.store.written.surfaces[i])) := by
  generalize hc : s.store.written.surfaces[i] = c at h
  have reads := surfaceCfgRecord_readsAs i h
  obtain ⟨hlen, hnodup, -⟩ := id h
  have bound (b : Bool) : boolCode b ≤ 1 := by cases b <;> decide
  have indexes : surfaceIndexesOk (surfaceCfgRecord i c) = true := by
    refine surfaceIndexesOk_iff.2 ⟨by rw [reads.index]; omega, by rw [reads.surfacePoint]; omega, fun _ j hj => ?_, ?_⟩
    · rw [byteAt_slotPoint i h (reads.members ▸ hj)]
      omega
    · rw [reads.wetLine]
      cases c.wetLine <;> simp
  have sound : surfaceStructureOk (surfaceCfgRecord i c) = true := by
    refine surfaceStructureOk_iff.2 ⟨reads.enabled ▸ bound _, by rw [reads.members]; exact hlen, reads.bound ▸ bound _,
      fun j hj k hk heq => ?_⟩
    rw [reads.members] at hj
    rw [byteAt_slotPoint i h hj, byteAt_slotPoint i h (hk.trans hj)] at heq
    have := (hnodup.getElem_inj_iff (i := k) (j := j) (hi := by simp; omega) (hj := by simpa using hj)).1
      (by simpa using Fin.ext heq)
    omega
  have stored : surfaceWriteRequest (surfaceCfgRecord i c) s =
      (s.writeSurface i c, Answer.mk .ok (surfaceCfgRecord i c)) := by
    rw [surfaceWriteRequest, if_neg (by simp [surfaceCfgRecord_eq, u8, u16, s16]),
      if_neg (by simp [State.isSaving_eq_false hsave]), if_neg (by simp [indexes]), reads.mode, combineModeOf_code]
    simp [sound, surfaceCfgAt_record i h, h.limit_eq, reads.index, writeStatus]
  rw [State.WritesBack, stored, ← hc]
  simp [State.writeSurface]

theorem globalWriteRequest_writesBack (hsave : s.store.saving = none) (h : s.store.written.globals.Valid) :
    s.WritesBack (globalWriteRequest (globalRecord s.store.written.globals)) := by
  have stored : globalWriteRequest (globalRecord s.store.written.globals) s =
      (s.writeImage s.store.written, Answer.mk .ok (globalRecord s.store.written.globals)) := by
    rw [globalWriteRequest, if_neg (by simp [globalRecord, u8, u16]), if_neg (by simp [State.isSaving_eq_false hsave])]
    simp [globalCfgAt_record h, h.limit_eq, h.divisorsOk, writeStatus]
  rw [State.WritesBack, stored]
  exact ⟨rfl, rfl⟩

theorem outputWriteRequest_writesBack (hsave : s.store.saving = none) (o : Fin 2)
    (h : (s.store.written.outputs[o]).minOn ≤ 3600 ∧ (s.store.written.outputs[o]).minOff ≤ 3600) :
    s.WritesBack (outputWriteRequest (outputCfgRecord o s.store.written.outputs[o])) := by
  generalize hc : s.store.written.outputs[o] = c at h
  obtain ⟨hon, hoff⟩ := h
  have index : byteAt (outputCfgRecord o c) 0 = o := toNat_ofNat_of_lt (by omega)
  have trip : byteAt (outputCfgRecord o c) 3 = c.tripLevel.risk.code := toNat_ofNat_of_lt c.tripLevel.code_lt
  have unknownTrips : byteAt (outputCfgRecord o c) 4 = boolCode c.unknownTrips := toNat_ofNat_of_lt (boolCode_lt _)
  have contact : byteAt (outputCfgRecord o c) 9 = c.contact.code := toNat_ofNat_of_lt c.contact.code_lt
  have stored : outputWriteRequest (outputCfgRecord o c) s =
      (s.writeOutput o c, Answer.mk .ok ((s.writeOutput o c).outputBytes o)) := by
    rw [outputWriteRequest, if_neg (by simp [outputCfgRecord, u8, u16]), if_neg (by simp [State.isSaving_eq_false hsave]),
      index, if_neg (by omega), trip, tripLevelOf_code, contact, contactOf_code, unknownTrips]
    simp [isBoolCode_boolCode, outputCfgAt_record o hon hoff, OutputCfg.limit_eq hon hoff, writeStatus]
  rw [State.WritesBack, stored, ← hc]
  simp [State.writeOutput]

theorem wetlineWriteRequest_writesBack (hsave : s.store.saving = none)
    (h : 5 ≤ s.store.written.wet.debounce ∧ s.store.written.wet.debounce ≤ 300) :
    s.WritesBack (wetlineWriteRequest (wetCfgRecord s.store.written.wet)) := by
  have codes : ((List.range 8).all fun i => isBoolCode (byteAt (wetCfgRecord s.store.written.wet) i)) = true := by
    refine List.all_eq_true.2 fun i hi => ?_
    rw [byteAt_wetCfgRecord _ ⟨i, List.mem_range.1 hi⟩]
    exact isBoolCode_boolCode _
  have stored : wetlineWriteRequest (wetCfgRecord s.store.written.wet) s =
      (s.writeWet s.store.written.wet, Answer.mk .ok (wetCfgRecord s.store.written.wet)) := by
    rw [wetlineWriteRequest, if_neg (by simp [wetCfgRecord, u8, u16]), if_neg (by simp [State.isSaving_eq_false hsave]),
      if_pos codes]
    simp [wetCfgAt_record h, WetCfg.limit_eq h, writeStatus]
  rw [State.WritesBack, stored]
  exact ⟨(State.actOnLines_reaches (Q := fun _ => True) _ _).2, rfl⟩

end

/-- Settles O22: each record reads back as the configuration it was made of, which is in range, so that nothing is refused or
limited. -/
theorem recordsWriteBackUnchanged : Obligations.RecordsWriteBackUnchanged := by
  rintro c s htakes hsave ⟨hpoints, hsurfaces, hglobals, hwet, houtputs, -⟩
    (⟨p, rfl⟩ | ⟨i, rfl⟩ | rfl | ⟨o, rfl⟩ | rfl)
  · exact (pointWriteRequest_writesBack hsave p (hpoints p)).answered htakes 0x10
  · exact (surfaceWriteRequest_writesBack hsave i (hsurfaces i)).answered htakes 0x12
  · exact (globalWriteRequest_writesBack hsave hglobals).answered htakes 0x14
  · exact (outputWriteRequest_writesBack hsave o (houtputs o)).answered htakes 0x16
  · exact (wetlineWriteRequest_writesBack hsave hwet).answered htakes 0x18

end Sys2Proof.Machine
end

section
/-! The raw level of a margin, the candidate and the counting of agreeing margins (R37 to R40, R42), and what the evaluation of a
surface comes to (R19 to R24, R45, R49 to R51). -/

namespace Sys2Proof.Machine

/-! ### Raw level and candidate (R37, R39) -/

/-- R37: the raw level never falls as the margin falls. -/
theorem rawLevel_severity_anti (c : SurfaceCfg) {m n : Int} (h : m ≤ n) :
    (rawLevel c n).severity ≤ (rawLevel c m).severity := by
  unfold rawLevel
  split_ifs <;> simp [RiskState.severity] <;> omega

section
variable {c : SurfaceCfg} {st : RiskState} {m : Int}

theorem candidate_of_le (h : st.severity ≤ (rawLevel c m).severity) : candidate c st m = rawLevel c m := by
  simp [candidate, RiskState.above, h.not_gt]

/-- R39: below the state, the candidate is the raw level of the margin less the hysteresis, or the state if that is lower. -/
theorem candidate_of_lt (h : (rawLevel c m).severity < st.severity) : candidate c st m =
    if (rawLevel c (m - c.hysteresis)).severity < st.severity then rawLevel c (m - c.hysteresis) else st := by
  simp [candidate, RiskState.above, RiskState.lower, h]

/-- R39: a falling candidate lies between the raw level and the state. -/
theorem candidate_between (hh : 0 ≤ c.hysteresis) (h : (rawLevel c m).severity < st.severity) :
    (rawLevel c m).severity ≤ (candidate c st m).severity ∧ (candidate c st m).severity ≤ st.severity := by
  have eased := rawLevel_severity_anti c (m := m - c.hysteresis) (n := m) (by omega)
  rw [candidate_of_lt h]
  split <;> omega

/-- R39: a margin below the state by the hysteresis gives the raw level it has less the hysteresis. -/
theorem candidate_eased (hh : 0 ≤ c.hysteresis) (h : (rawLevel c (m - c.hysteresis)).severity < st.severity) :
    candidate c st m = rawLevel c (m - c.hysteresis) := by
  have eased := rawLevel_severity_anti c (m := m - c.hysteresis) (n := m) (by omega)
  rw [candidate_of_lt (by omega), if_pos h]

end

/-! ### Counting (R38, R40, R42) -/

section
variable {c : SurfaceCfg} {r : SurfaceRun} {m : Int}

/-- R38 to R40: how a live margin is judged in a state of the severity order. -/
theorem SurfaceRun.judge_ofMargin (h : r.state.ofMargin = true) : r.judge c m =
    if r.state.severity < (candidate c r.state m).severity then
      if r.riseRun + 1 < c.riseCount then { r with riseRun := r.riseRun + 1, fallRun := 0 }
      else { r with state := candidate c r.state m, riseRun := 0, fallRun := 0 }
    else if (candidate c r.state m).severity < r.state.severity then
      if r.fallRun + 1 < c.fallCount then { r with riseRun := 0, fallRun := r.fallRun + 1 }
      else { r with state := candidate c r.state m, riseRun := 0, fallRun := 0 }
    else { r with riseRun := 0, fallRun := 0 } := by
  have reached (a b : Nat) (x y : SurfaceRun) : (if a < b then x else y) = if b ≤ a then y else x := by
    by_cases h : a < b
    · rw [if_pos h, if_neg (Nat.not_le.2 h)]
    · rw [if_neg h, if_pos (Nat.not_lt.1 h)]
  simp only [reached (_ + 1)]
  obtain ⟨state, riseRun, fallRun, heldAge, live, values, ring, forecast, trendFlag⟩ := r
  cases state with
  | dry => simp [SurfaceRun.judge, RiskState.above]
  | watch => simp [SurfaceRun.judge, RiskState.above]
  | near => simp [SurfaceRun.judge, RiskState.above]
  | dew => simp [SurfaceRun.judge, RiskState.above]
  | unused => cases h
  | wet => cases h
  | unknown => cases h

theorem SurfaceRun.judge_of_rise (h : r.state.ofMargin = true)
    (hc : r.state.severity < (candidate c r.state m).severity) : r.judge c m =
      if r.riseRun + 1 < c.riseCount then { r with riseRun := r.riseRun + 1, fallRun := 0 }
      else { r with state := candidate c r.state m, riseRun := 0, fallRun := 0 } := by
  rw [SurfaceRun.judge_ofMargin h, if_pos hc]

theorem SurfaceRun.judge_of_fall (h : r.state.ofMargin = true)
    (hc : (candidate c r.state m).severity < r.state.severity) : r.judge c m =
      if r.fallRun + 1 < c.fallCount then { r with riseRun := 0, fallRun := r.fallRun + 1 }
      else { r with state := candidate c r.state m, riseRun := 0, fallRun := 0 } := by
  rw [SurfaceRun.judge_ofMargin h, if_neg hc.not_gt, if_pos hc]

theorem SurfaceRun.judge_of_eq (h : r.state.ofMargin = true) (hc : candidate c r.state m = r.state) :
    r.judge c m = { r with riseRun := 0, fallRun := 0 } := by
  rw [SurfaceRun.judge_ofMargin h, hc, if_neg (lt_irrefl _), if_neg (lt_irrefl _)]

/-- R40: margins whose raw levels lie above the state, fewer than rise_count, are counted and leave the state. -/
theorem SurfaceRun.foldl_judge_rising {ms : List Int} (h : r.state.ofMargin = true)
    (hms : ∀ x ∈ ms, r.state.severity < (rawLevel c x).severity) (hcount : r.riseRun + ms.length < c.riseCount) :
    (ms.foldl (SurfaceRun.judge c) r).state = r.state
      ∧ (ms.foldl (SurfaceRun.judge c) r).riseRun = r.riseRun + ms.length := by
  induction ms generalizing r with
  | nil => exact ⟨rfl, rfl⟩
  | cons x ms ih =>
    rw [List.length_cons] at hcount ⊢
    have above := hms x List.mem_cons_self
    have counted : r.judge c x = { r with riseRun := r.riseRun + 1, fallRun := 0 } := by
      rw [SurfaceRun.judge_of_rise h (by rwa [candidate_of_le above.le]), if_pos (by omega)]
    rw [List.foldl_cons, counted]
    obtain ⟨hstate, hrun⟩ := ih (r := { r with riseRun := r.riseRun + 1, fallRun := 0 }) h
      (fun y hy => hms y (List.mem_cons_of_mem x hy)) (by dsimp only; omega)
    exact ⟨hstate, hrun.trans (by dsimp only; omega)⟩

/-- R40: margins whose raw levels less the hysteresis lie below the state, fewer than fall_count, are counted and leave the
state. -/
theorem SurfaceRun.foldl_judge_falling {ms : List Int} (h : r.state.ofMargin = true) (hh : 0 ≤ c.hysteresis)
    (hms : ∀ x ∈ ms, (rawLevel c (x - c.hysteresis)).severity < r.state.severity)
    (hcount : r.fallRun + ms.length < c.fallCount) :
    (ms.foldl (SurfaceRun.judge c) r).state = r.state
      ∧ (ms.foldl (SurfaceRun.judge c) r).fallRun = r.fallRun + ms.length := by
  induction ms generalizing r with
  | nil => exact ⟨rfl, rfl⟩
  | cons x ms ih =>
    rw [List.length_cons] at hcount ⊢
    have below := hms x List.mem_cons_self
    have counted : r.judge c x = { r with riseRun := 0, fallRun := r.fallRun + 1 } := by
      rw [SurfaceRun.judge_of_fall h (by rwa [candidate_eased hh below]), if_pos (by omega)]
    rw [List.foldl_cons, counted]
    obtain ⟨hstate, hrun⟩ := ih (r := { r with riseRun := 0, fallRun := r.fallRun + 1 }) h
      (fun y hy => hms y (List.mem_cons_of_mem x hy)) (by dsimp only; omega)
    exact ⟨hstate, hrun.trans (by dsimp only; omega)⟩

/-- R38, R40: the rise_count-th margin above the state moves it, and none before. -/
theorem SurfaceRun.rises_at_count {ms : List Int} (h : r.state.ofMargin = true) (hrun : r.riseRun = 0)
    (hcount : (ms ++ [m]).length = c.riseCount) (hms : ∀ x ∈ ms ++ [m], r.state.severity < (rawLevel c x).severity) :
    (ms.foldl (SurfaceRun.judge c) r).state = r.state
      ∧ ((ms ++ [m]).foldl (SurfaceRun.judge c) r).state = rawLevel c m
      ∧ ((ms ++ [m]).foldl (SurfaceRun.judge c) r).riseRun = 0 := by
  simp only [List.length_append, List.length_singleton] at hcount
  obtain ⟨hstate, hcounted⟩ := SurfaceRun.foldl_judge_rising (c := c) h (fun x hx => hms x (List.mem_append_left _ hx))
    (by omega)
  have above := hms m (by simp)
  rw [List.foldl_append, List.foldl_cons, List.foldl_nil]
  generalize ms.foldl (SurfaceRun.judge c) r = q at hstate hcounted ⊢
  rw [← hstate] at h above
  have eq : candidate c q.state m = rawLevel c m := candidate_of_le above.le
  rw [SurfaceRun.judge_of_rise h (by rwa [eq]), if_neg (by omega)]
  exact ⟨hstate, eq, rfl⟩

/-- R39, R40: the fall_count-th margin below the state by the hysteresis moves it, and none before. -/
theorem SurfaceRun.falls_at_count {ms : List Int} (h : r.state.ofMargin = true) (hrun : r.fallRun = 0)
    (hh : 0 ≤ c.hysteresis) (hcount : (ms ++ [m]).length = c.fallCount)
    (hms : ∀ x ∈ ms ++ [m], (rawLevel c (x - c.hysteresis)).severity < r.state.severity) :
    (ms.foldl (SurfaceRun.judge c) r).state = r.state
      ∧ ((ms ++ [m]).foldl (SurfaceRun.judge c) r).state = rawLevel c (m - c.hysteresis)
      ∧ ((ms ++ [m]).foldl (SurfaceRun.judge c) r).fallRun = 0 := by
  simp only [List.length_append, List.length_singleton] at hcount
  obtain ⟨hstate, hcounted⟩ := SurfaceRun.foldl_judge_falling (c := c) h hh
    (fun x hx => hms x (List.mem_append_left _ hx)) (by omega)
  have below := hms m (by simp)
  rw [List.foldl_append, List.foldl_cons, List.foldl_nil]
  generalize ms.foldl (SurfaceRun.judge c) r = q at hstate hcounted ⊢
  rw [← hstate] at h below
  have eq : candidate c q.state m = rawLevel c (m - c.hysteresis) := candidate_eased hh below
  rw [SurfaceRun.judge_of_fall h (by rwa [eq]), if_neg (by omega)]
  exact ⟨hstate, eq, rfl⟩

theorem SurfaceRun.judge_of_unknown (h : r.state = .unknown) :
    r.judge c m = { r with state := rawLevel c m, riseRun := 0, fallRun := 0 } := by
  simp [SurfaceRun.judge, h]

theorem SurfaceRun.judge_of_wet (h : r.state = .wet) : r.judge c m = { r with riseRun := 0, fallRun := 0 } := by
  simp [SurfaceRun.judge, h]

end

/-! ### The members of an evaluation (R20, R21) -/

theorem surfaceTemp_eq_some_iff (r : PointRec) (t : Int) (q : Quals) :
    surfaceTemp r = some (t, q) ↔
      r.cfg.kind = .surface ∧ (r.run.health = .good ∨ r.run.health = .holding) ∧ r.run.readings = .surface t q := by
  unfold surfaceTemp
  split
  · rename_i h
    simp only [Bool.and_eq_true, Bool.or_eq_true, decide_eq_true_eq] at h
    cases r.run.readings <;> simp [h]
  · rename_i h
    simp only [Bool.and_eq_true, Bool.or_eq_true, decide_eq_true_eq] at h
    simp only [reduceCtorEq, false_iff]
    exact fun ⟨hkind, hhealth, _⟩ => h ⟨hkind, hhealth⟩

theorem contributionOf_eq_some_iff (r : PointRec) (w : Nat) (m : Contribution) :
    contributionOf w r = some m ↔
      r.cfg.kind = .air ∧ m.weight = w
        ∧ ((r.run.phase = .heating ∨ r.run.phase = .recovering)
              ∧ (∃ f, r.run.frozen = some f ∧ m.td = f.td ∧ m.q = f.q)
            ∨ r.run.phase ≠ .heating ∧ r.run.phase ≠ .recovering
              ∧ (r.run.health = .good ∨ r.run.health = .holding)
              ∧ ∃ a, r.run.readings = .air a ∧ m.td = a.td ∧ m.q = a.dewQ) := by
  have ext (td : Int) (q : Quals) : Contribution.mk w td q = m ↔ m.weight = w ∧ m.td = td ∧ m.q = q := by
    cases m
    simp only [Contribution.mk.injEq]
    exact ⟨fun ⟨h1, h2, h3⟩ => ⟨h1.symm, h2.symm, h3.symm⟩, fun ⟨h1, h2, h3⟩ => ⟨h1.symm, h2.symm, h3.symm⟩⟩
  by_cases hkind : r.cfg.kind = .air
  · by_cases hphase : r.run.phase = .heating ∨ r.run.phase = .recovering
    · have frozen : contributionOf w r = r.run.frozen.map fun f => Contribution.mk w f.td f.q := by
        simp [contributionOf, hkind, hphase]
      have notNeither (x : Prop) : ¬(r.run.phase ≠ .heating ∧ r.run.phase ≠ .recovering ∧ x) := by tauto
      simp only [frozen, Option.map_eq_some_iff, ext, hkind, hphase, true_and, notNeither, or_false]
      exact ⟨fun ⟨f, hf, hw, hm⟩ => ⟨hw, f, hf, hm⟩, fun ⟨hw, f, hf, hm⟩ => ⟨f, hf, hw, hm⟩⟩
    · obtain ⟨notHeating, notRecovering⟩ := not_or.1 hphase
      by_cases hhealth : r.run.health = .good ∨ r.run.health = .holding
      · cases hreadings : r.run.readings <;>
          simp [contributionOf, hkind, notHeating, notRecovering, hhealth, hreadings, ext]
      · simp [contributionOf, hkind, notHeating, notRecovering, hhealth]
  · simp [contributionOf, hkind]

/-! ### The evaluation of a surface (R19, R22 to R24, R45, R49 to R51) -/

theorem SurfaceRun.judge_keeps (c : SurfaceCfg) (r : SurfaceRun) (m : Int) :
    (r.judge c m).values = r.values ∧ (r.judge c m).ring = r.ring ∧ (r.judge c m).trendFlag = r.trendFlag := by
  unfold SurfaceRun.judge
  simp only
  repeat' split
  all_goals exact ⟨rfl, rfl, rfl⟩

/-- R49: the flag stays while there is a forecast no longer than forecast_sweeps. -/
theorem trendFlagAfter_eq_true_iff (c : SurfaceCfg) (flag : Bool) (forecast : Option Nat) :
    trendFlagAfter c flag forecast = true ↔ flag = true ∧ ∃ f, forecast = some f ∧ f ≤ c.forecastSweeps := by
  cases forecast with
  | none => simp [trendFlagAfter]
  | some f =>
    obtain h | h := lt_or_ge c.forecastSweeps f
    · simp [trendFlagAfter, h, h.not_ge]
    · simp [trendFlagAfter, h, h.not_gt]

/-- R50: when a TREND notice is due. -/
theorem SurfaceRun.trendDue_eq_true_iff (c : SurfaceCfg) (r : SurfaceRun) :
    r.trendDue c = true ↔ c.forecastSweeps ≠ 0 ∧ (r.state = .dry ∨ r.state = .watch ∨ r.state = .near)
      ∧ r.trendFlag = false ∧ ∃ f, r.forecast = some f ∧ f ≤ c.forecastSweeps := by
  unfold SurfaceRun.trendDue
  cases r.forecast <;> simp [and_assoc, or_assoc]

/-- R50: what the offer of a TREND notice comes to. -/
theorem offerTrend_eq (num : SweepNo) (i : Fin 16) (c : SurfaceCfg) (r : SurfaceRun) :
    offerTrend num i c r = ({ r with trendFlag := r.trendFlag || r.trendDue c },
      if r.trendDue c then
        [{ kind := .trend, subject := i, fromValue := r.state.code, toValue := c.forecastSweeps, sweep := num
           value := r.forecast.getD 0, quals := r.noticeValue.2 }]
      else []) := by
  unfold offerTrend
  cases r.trendDue c <;> simp

theorem surfaceNotice_of_values (num : SweepNo) (i : Fin 16) (old : RiskState) {r : SurfaceRun} {v : Values}
    (h : r.values = some v) : surfaceNotice num i old r =
      if r.state = old then [] else [Notice.mk .surface i old.code r.state.code num v.margin v.marginQ] := by
  simp [surfaceNotice, SurfaceRun.noticeValue, h, eq_comm (a := old)]

/-- R24, R45: the notice of the end of a surface's data carries the absent code. -/
theorem surfaceNotice_of_cleared (num : SweepNo) (i : Fin 16) (old st : RiskState) :
    surfaceNotice num i old (.cleared st) =
      if st = old then [] else [Notice.mk .surface i old.code st.code num (-32768) {}] := by
  simp [surfaceNotice, SurfaceRun.noticeValue, SurfaceRun.cleared, eq_comm (a := old)]

/-- R22, R51: the evaluation with a live margin, item by item. -/
theorem evalLive_liveMargin (num : SweepNo) (i : Fin 16) (c : SurfaceCfg) (r : SurfaceRun) (x y : Int × Quals) :
    LiveMargin
      ({ cfg := c, run := (evalLive num i c r (Values.mk num x.1 x.2 y.1 y.2 (x.1 - y.1) (x.2.union y.2))).1 },
        (evalLive num i c r (Values.mk num x.1 x.2 y.1 y.2 (x.1 - y.1) (x.2.union y.2))).2) num i c r x y := by
  let v := Values.mk num x.1 x.2 y.1 y.2 (x.1 - y.1) (x.2.union y.2)
  let judged := SurfaceRun.judge c { r with values := some v, live := true, heldAge := 0 } (x.1 - y.1)
  let trended := judged.trend c (x.1 - y.1)
  obtain ⟨hvalues, hring, hflag⟩ :=
    SurfaceRun.judge_keeps c { r with values := some v, live := true, heldAge := 0 } (x.1 - y.1)
  have ring : trended.ring = appendRing r.ring (x.1 - y.1) := congrArg (appendRing · _) hring
  have flag : trended.trendFlag = trendFlagAfter c r.trendFlag trended.forecast := congrArg (trendFlagAfter c · _) hflag
  have notice : trended.noticeValue.2 = x.2.union y.2 := by
    have : trended.values = some v := hvalues
    simp [SurfaceRun.noticeValue, this, v]
  refine ⟨x.1 - y.1, x.2.union y.2, judged, trended.ring, trended.forecast, trended.trendFlag, trended.trendDue c, rfl, rfl,
    rfl, ring, rfl, ?_, trended.trendDue_eq_true_iff c, ?_, ?_⟩
  · rw [flag]
    exact trendFlagAfter_eq_true_iff _ _ _
  · simp only [evalLive, offerTrend_eq]
    rfl
  · have offered := offerTrend_eq num i c trended
    rw [notice] at offered
    change surfaceNotice num i r.state judged ++ (offerTrend num i c trended).2 = _
    rw [offered, surfaceNotice_of_values num i r.state hvalues]
    rfl

theorem afterDataEnd_eq (st : RiskState) :
    st.afterDataEnd = if st = .wet ∨ st = .unused then st else .unknown := by cases st <;> rfl

/-- R23: a hold. -/
theorem evalMissing_of_hold (num : SweepNo) (i : Fin 16) {c : SurfaceCfg} {r : SurfaceRun} {v : Values}
    (hv : r.values = some v) (h : r.heldAge < c.holdSweeps) :
    evalMissing num i c r = ({ r with values := some v.hold, live := false, heldAge := r.heldAge + 1 }, []) := by
  simp [evalMissing, hv, h]

/-- R24: the end of a surface's data. -/
theorem evalMissing_of_end (num : SweepNo) (i : Fin 16) {c : SurfaceCfg} {r : SurfaceRun}
    (h : r.values = none ∨ c.holdSweeps ≤ r.heldAge) :
    evalMissing num i c r =
      (.cleared r.state.afterDataEnd, surfaceNotice num i r.state (.cleared r.state.afterDataEnd)) := by
  unfold evalMissing
  cases hv : r.values with
  | none => rfl
  | some v =>
    have : c.holdSweeps ≤ r.heldAge := h.resolve_left (by simp [hv])
    simp [this.not_gt]

section
variable {num : SweepNo} {points : Vector PointRec 24} {i : Fin 16} {c : SurfaceCfg} {r : SurfaceRun}

theorem evalSurface_of_disabled (h : c.enabled = false) :
    evalSurface num points i (SurfaceRec.mk c r) = (SurfaceRec.mk c r, []) := by
  simp [evalSurface, h]

theorem evalSurface_of_live (h : c.enabled = true) {x y : Int × Quals} (hx : surfaceTemp points[c.surfacePoint] = some x)
    (hy : combine c.mode (contributions points c) = some y) :
    LiveMargin (evalSurface num points i (SurfaceRec.mk c r)) num i c r x y := by
  have formed : formValues num points c = some (Values.mk num x.1 x.2 y.1 y.2 (x.1 - y.1) (x.2.union y.2)) := by
    unfold formValues
    rw [hx, hy]
  simpa [evalSurface, h, formed] using evalLive_liveMargin num i c r x y

theorem evalSurface_of_missing (h : c.enabled = true)
    (hmissing : surfaceTemp points[c.surfacePoint] = none ∨ combine c.mode (contributions points c) = none) :
    evalSurface num points i (SurfaceRec.mk c r) =
      (SurfaceRec.mk c (evalMissing num i c r).1, (evalMissing num i c r).2) := by
  have formed : formValues num points c = none := by
    unfold formValues
    split
    · simp_all
    · rfl
  simp [evalSurface, h, formed]

end

/-- Settles O26, clause by clause from the lemmas above. -/
theorem stateMachineCountsAgreeingMargins : Obligations.StateMachineCountsAgreeingMargins := by
  refine ⟨fun c _ _ => rawLevel_severity_anti c, fun c st m hh _ => ⟨candidate_of_le, candidate_between hh,
    fun hlt hle => (candidate_of_lt hlt).trans (if_neg hle.not_gt)⟩,
    fun c r ms m h hrun hcount hms => SurfaceRun.rises_at_count h hrun hcount hms,
    fun c r ms m h hrun hh hcount hms => SurfaceRun.falls_at_count h hrun hh hcount hms,
    fun c r m h => ⟨candidate_of_lt, SurfaceRun.judge_of_rise h, SurfaceRun.judge_of_fall h, SurfaceRun.judge_of_eq h⟩,
    fun c r m => ⟨SurfaceRun.judge_of_unknown, SurfaceRun.judge_of_wet⟩,
    fun r w t q m => ⟨surfaceTemp_eq_some_iff r t q, contributionOf_eq_some_iff r w m⟩, ?_⟩
  rintro num points i c r ts td out rfl rfl rfl
  refine ⟨evalSurface_of_disabled, fun henabled => ⟨fun x y => evalSurface_of_live henabled,
    fun hmissing v hv hage => ?_, fun hmissing hend => ?_⟩⟩
  · rw [evalSurface_of_missing henabled hmissing, evalMissing_of_hold num i hv hage]
    rfl
  · rw [evalSurface_of_missing henabled hmissing, evalMissing_of_end num i hend]
    exact ⟨_, rfl, rfl, congrArg SurfaceRun.cleared (afterDataEnd_eq _),
      afterDataEnd_eq r.state ▸ surfaceNotice_of_cleared num i r.state _⟩

end Sys2Proof.Machine
end

section
/-! The purge queue served (R99, R100), and the adoption of the points (R71, R72, R108, R110), with their POINT notices
(R70). -/

namespace Sys2Proof.Machine

/-! ### Serving the purge queue (R99, R100) -/

/-- R99, R101: the grant an entry gets. -/
def State.grantFor (s : State) (e : PurgeEntry) : Grant :=
  Grant.start e.point s.now s.store.written.globals.heaterDuty s.store.written.globals.purgeTime

/-- R99: the point record of an entry, once granted. -/
def PointRec.granted (r : PointRec) (o : PurgeOrigin) : PointRec := { r with run := r.run.granted o }

/-- R70, R99: the POINT notices of entries granted. -/
def State.grantNotices (s : State) (es : List PurgeEntry) : List Notice :=
  es.flatMap fun e =>
    pointNotice s.sweep.number e.point (s.points[e.point]).run ((s.points[e.point]).granted e.origin).run

/-- R99: from `s` to `t` the entries `es` at the head of the purge queue were granted, with the notices `ns`. -/
structure State.Serves (s t : State) (es : List PurgeEntry) (ns : List Notice) : Prop where
  head : s.purge.queue = es ++ t.purge.queue
  grants : t.purge.grants = s.purge.grants ++ es.map s.grantFor
  recovery : t.purge.recovery = s.purge.recovery
  granted : ∀ e ∈ es, t.points[e.point] = (s.points[e.point]).granted e.origin
  kept : ∀ p : Fin 24, p ∉ es.map PurgeEntry.point → t.points[p] = s.points[p]
  notices : ns = s.grantNotices es
  clock : t.now = s.now
  store : t.store = s.store
  sweep : t.sweep = s.sweep

section
variable {s t u : State}

theorem State.Serves.refl (s : State) : s.Serves s [] [] := by
  constructor <;> simp [State.grantNotices]

/-- Entries granted one after another are granted as one list when no point stands in it twice. -/
theorem State.Serves.append {es fs : List PurgeEntry} {ns ms : List Notice} (h : s.Serves t es ns) (k : t.Serves u fs ms)
    (hnodup : ((es ++ fs).map PurgeEntry.point).Nodup) : s.Serves u (es ++ fs) (ns ++ ms) := by
  rw [List.map_append, List.nodup_append] at hnodup
  obtain ⟨-, -, hdisjoint⟩ := hnodup
  have later {e : PurgeEntry} (he : e ∈ fs) : e.point ∉ es.map PurgeEntry.point := fun hmem =>
    hdisjoint _ hmem _ (List.mem_map_of_mem he) rfl
  have earlier {e : PurgeEntry} (he : e ∈ es) : e.point ∉ fs.map PurgeEntry.point := fun hmem =>
    hdisjoint _ (List.mem_map_of_mem he) _ hmem rfl
  have grantFor : t.grantFor = s.grantFor := by
    funext e
    rw [State.grantFor, State.grantFor, h.clock, h.store]
  refine ⟨by rw [h.head, k.head, List.append_assoc],
    by rw [k.grants, h.grants, grantFor, List.map_append, List.append_assoc], k.recovery.trans h.recovery, fun e he => ?_, fun p hp => ?_, ?_, k.clock.trans h.clock, k.store.trans h.store,
    k.sweep.trans h.sweep⟩
  · obtain he | he := List.mem_append.1 he
    · rw [k.kept _ (earlier he), h.granted e he]
    · rw [k.granted e he, h.kept _ (later he)]
  · rw [List.map_append, List.mem_append, not_or] at hp
    rw [k.kept p hp.2, h.kept p hp.1]
  · rw [h.notices, k.notices, State.grantNotices, State.grantNotices, State.grantNotices, List.flatMap_append, h.sweep]
    exact congrArg _ (List.flatMap_congr fun e he => by rw [h.kept _ (later he)])

/-- R99: one grant. -/
theorem State.serveOne_serves (s : State) :
    s.Serves s.serveOne.1 (s.purge.queue.take (if s.purge.grants.length < 2 then 1 else 0)) s.serveOne.2 := by
  obtain ⟨e, rest, hqueue, hfree, h⟩ | ⟨hnone, h⟩ := s.serveOne_cases
  · rw [h, hqueue, if_pos hfree]
    refine ⟨hqueue, rfl, rfl, fun f hf => ?_, fun p hp => ?_, (List.append_nil _).symm, rfl, rfl, rfl⟩
    · obtain rfl : f = e := by simpa using hf
      simp [State.grant, PointRec.granted]
    · have : (e.point : Nat) ≠ p := fun heq => hp (by simp [Fin.ext heq])
      simp [State.grant, this]
  · have nothing : s.purge.queue.take (if s.purge.grants.length < 2 then 1 else 0) = [] := by
      obtain hempty | hfull := hnone
      · simp [hempty]
      · rw [if_neg (by omega), List.take_zero]
    rw [h, nothing]
    exact .refl s

/-- R99, R100: the free grants go to the head of the queue. -/
theorem State.serve_serves (s : State) (hnodup : (s.purge.queue.map PurgeEntry.point).Nodup) :
    s.Serves s.serve.1 (s.purge.queue.take (2 - s.purge.grants.length)) s.serve.2 := by
  have first := s.serveOne_serves
  have second := s.serveOne.1.serveOne_serves
  have both : s.purge.queue.take (if s.purge.grants.length < 2 then 1 else 0)
      ++ s.serveOne.1.purge.queue.take (if s.serveOne.1.purge.grants.length < 2 then 1 else 0)
      = s.purge.queue.take (2 - s.purge.grants.length) := by
    have grants := congrArg List.length first.grants
    have rest := List.append_cancel_left (first.head.symm.trans (List.take_append_drop _ _).symm)
    rw [rest, ← List.take_add]
    cases hqueue : s.purge.queue with
    | nil => simp
    | cons e es =>
      rw [hqueue, List.length_append, List.length_map, List.length_take, List.length_cons] at grants
      congr 1
      by_cases hfree : s.purge.grants.length < 2
      · rw [if_pos hfree] at grants ⊢
        split <;> omega
      · rw [if_neg hfree] at grants ⊢
        rw [if_neg (by omega)]
        omega
  rw [← both]
  refine first.append second (hnodup.sublist (List.Sublist.map _ ?_))
  rw [both]
  exact List.take_sublist _ _

/-- R99: what the serving of the purge queue leaves of the points and of the capture block. -/
structure State.ServedIn (s t : State) : Prop where
  queued : ∀ e ∈ t.purge.queue, e ∈ s.purge.queue
  cfg : ∀ p : Fin 24, (t.points[p]).cfg = (s.points[p]).cfg
  kept : ∀ p : Fin 24, p ∉ s.purge.queue.map PurgeEntry.point → t.points[p] = s.points[p]
  idle : ∀ k : Fin 4, s.capture.units[k] = .idle → t.capture.units[k] = .idle
  filter : ∀ (m : PinLine) (q : Fin 24), t.capture.filter m q = s.capture.filter m q

theorem State.ServedIn.trans (h : s.ServedIn t) (k : t.ServedIn u) : s.ServedIn u where
  queued e he := h.queued e (k.queued e he)
  cfg p := (k.cfg p).trans (h.cfg p)
  kept p hp := (k.kept p fun hmem => hp (List.map_subset _ h.queued hmem)).trans (h.kept p hp)
  idle i hi := k.idle i (h.idle i hi)
  filter m q := (k.filter m q).trans (h.filter m q)

theorem State.serveOne_servedIn (s : State) : s.ServedIn s.serveOne.1 := by
  obtain ⟨e, rest, hqueue, -, h⟩ | ⟨-, h⟩ := s.serveOne_cases
  · rw [h]
    refine ⟨fun f hf => hqueue ▸ List.mem_cons_of_mem e hf, fun p => ?_, fun p hp => ?_, fun k hk => ?_, fun m q => ?_⟩
    · by_cases heq : (e.point : Nat) = p <;> simp [State.grant, heq]
    · have : (e.point : Nat) ≠ p := fun heq => hp (by simp [hqueue, Fin.ext heq])
      simp [State.grant, this]
    · simp only [State.grant, Capture.withdraw, Fin.getElem_fin, Vector.getElem_ofFn]
      simpa using fun _ => hk
    · cases m <;> rfl
  · rw [h]
    exact ⟨fun _ he => he, fun _ => rfl, fun _ _ => rfl, fun _ hi => hi, fun _ _ => rfl⟩

theorem State.serve_servedIn (s : State) : s.ServedIn s.serve.1 :=
  s.serveOne_servedIn.trans s.serveOne.1.serveOne_servedIn

end

/-! ### POINT notices in ascending point number (R70) -/

theorem Health.code_inj {a b : Health} : a.code = b.code ↔ a = b := by
  cases a <;> cases b <;> decide

theorem Phase.code_inj {a b : Phase} : a.code = b.code ↔ a = b := by
  cases a <;> cases b <;> decide

theorem Phase.code_lt (a : Phase) : a.code < 10 := by
  cases a <;> decide

/-- Table 4-5, Table 6-1: a condition code tells the health and the phase. -/
theorem PointRun.condition_inj {a b : PointRun} : a.condition = b.condition ↔ a.health = b.health ∧ a.phase = b.phase := by
  have := a.phase.code_lt
  have := b.phase.code_lt
  rw [← Health.code_inj, ← Phase.code_inj, PointRun.condition, PointRun.condition]
  omega

theorem pointNoticeDue_eq_false_iff (a b : PointRun) :
    pointNoticeDue a b = false ↔ a.condition = b.condition
      ∨ a.phase = b.phase ∧ a.health.goodOrHolding = true ∧ b.health.goodOrHolding = true := by
  rw [PointRun.condition_inj]
  simp only [pointNoticeDue, Bool.and_eq_false_iff, Bool.or_eq_false_iff, Bool.not_eq_false', Bool.and_eq_true,
    decide_eq_false_iff_not, decide_eq_true_eq, not_not, ne_eq, and_assoc]

/-- R70: no notice without a change. -/
@[simp] theorem pointNotice_self (num : SweepNo) (p : Fin 24) (r : PointRun) : pointNotice num p r r = [] := by
  simp [pointNotice, pointNoticeDue]

theorem conditionNotices_eq (num : SweepNo) (old new : Vector PointRec 24) :
    conditionNotices num old new = (List.finRange 24).flatMap fun p => pointNotice num p (old[p]).run (new[p]).run := by
  refine List.flatMap_congr fun p _ => ?_
  have due := pointNoticeDue_eq_false_iff (old[p]).run (new[p]).run
  rw [pointNotice]
  split
  next h => rw [due.2 h, if_neg Bool.false_ne_true]
  next h => rw [if_pos (Bool.not_eq_false _ ▸ mt due.1 h)]

theorem subject_of_mem_pointNotice {num : SweepNo} {p : Fin 24} {a b : PointRun} {n : Notice} (h : n ∈ pointNotice num p a b) :
    n.subject = p := by
  unfold pointNotice at h
  split at h
  · rw [List.mem_singleton.1 h]
  · cases h

/-- Notices in ascending point number are what `bySubject` makes of any arrangement of them. -/
theorem bySubject_eq_of_perm {num : SweepNo} {old new : Vector PointRec 24} {ns : List Notice}
    (h : ns.Perm (conditionNotices num old new)) : bySubject ns = conditionNotices num old new := by
  rw [conditionNotices_eq] at h ⊢
  have strict : ((List.finRange 24).flatMap fun p => pointNotice num p (old[p]).run (new[p]).run).Pairwise
      fun a b => a.subject < b.subject := by
    refine List.pairwise_flatMap.2 ⟨fun p _ => ?_, (List.pairwise_lt_finRange 24).imp fun hlt a ha b hb => ?_⟩
    · unfold pointNotice
      split
      · exact List.pairwise_singleton _ _
      · exact List.Pairwise.nil
    · rw [subject_of_mem_pointNotice ha, subject_of_mem_pointNotice hb]
      exact hlt
  have perm := (List.perm_insertionSort (fun a b : Notice => a.subject ≤ b.subject) ns).trans h
  have subjects := List.pairwise_map.2 (strict.imp Nat.ne_of_lt)
  have : Std.Total fun a b : Notice => a.subject ≤ b.subject := ⟨fun a b => Nat.le_total a.subject b.subject⟩
  have : IsTrans Notice fun a b => a.subject ≤ b.subject := ⟨fun _ _ _ => Nat.le_trans⟩
  exact List.Perm.eq_of_pairwise
    (fun a b ha hb hab hba => List.inj_on_of_nodup_map subjects (perm.subset ha) hb (Nat.le_antisymm hab hba))
    (List.pairwise_insertionSort _ ns) (strict.imp Nat.le_of_lt) perm

/-- Two passes over the points, the second over those `gs` of which the first says nothing, say what one pass does. -/
theorem flatMap_append_flatMap_perm {gs : List (Fin 24)} {f g : Fin 24 → List Notice} (hnodup : gs.Nodup)
    (hon : ∀ p ∈ gs, g p = []) (hoff : ∀ p ∉ gs, g p = f p) :
    ((List.finRange 24).flatMap g ++ gs.flatMap f).Perm ((List.finRange 24).flatMap f) := by
  have split := List.filter_append_perm (fun p => decide (p ∈ gs)) (List.finRange 24)
  have on : ((List.finRange 24).filter fun p => decide (p ∈ gs)).Perm gs :=
    (List.perm_ext_iff_of_nodup ((List.nodup_finRange 24).filter _) hnodup).2 fun p => by simp
  have silent : ((List.finRange 24).filter fun p => decide (p ∈ gs)).flatMap g = [] :=
    List.flatMap_eq_nil_iff.2 fun p hp => hon p (by simpa using hp)
  have same : ((List.finRange 24).filter fun p => !decide (p ∈ gs)).flatMap g
      = ((List.finRange 24).filter fun p => !decide (p ∈ gs)).flatMap f :=
    List.flatMap_congr fun p hp => hoff p (by simpa using hp)
  have first := (split.flatMap_right g).symm
  rw [List.flatMap_append, silent, same, List.nil_append] at first
  have second := split.flatMap_right f
  rw [List.flatMap_append] at second
  exact ((first.append (on.flatMap_right f).symm).trans List.perm_append_comm).trans second

/-! ### The points adopted (R71, R72, R108) -/

theorem PointRec.adopt_of_eq {r : PointRec} {c : PointCfg} (h : c = r.cfg) : r.adopt c = r := if_pos h

theorem PointRec.adopt_of_ne {r : PointRec} {c : PointCfg} (h : c ≠ r.cfg) : r.adopt c = .fresh c := if_neg h

theorem PointRec.adopt_cfg (r : PointRec) (c : PointCfg) : (r.adopt c).cfg = c := by
  by_cases h : c = r.cfg
  · rw [PointRec.adopt_of_eq h, h]
  · rw [PointRec.adopt_of_ne h, PointRec.fresh]

section
variable (s : State)

/-- R71, R72, R108: the points have adopted and the purges of the changed ones are cancelled; the queue is not yet served. -/
def State.pointsRevised : State :=
  { s with
    points := Vector.ofFn fun p => (s.points[p]).adopt s.store.written.points[p]
    purge := s.purge.abort s.pointChanged
    work := { s.work with
      faultCount := s.store.written.globals.faultCount, satCount := s.store.written.globals.satCount
      maxPurges := s.store.written.globals.maxPurges } }

/-- R71: the POINT notices of the points that adopt. -/
def State.adoptionNotices : List Notice :=
  (List.finRange 24).flatMap fun p => pointNotice s.sweep.number p (s.points[p]).run (s.pointsRevised.points[p]).run

/-- R108: the entries that get a grant at the adoption. -/
def State.adoptionGrants : List PurgeEntry :=
  (s.purge.abort s.pointChanged).queue.take (2 - (s.purge.abort s.pointChanged).grants.length)

theorem State.adoptPoints_eq : s.adoptPoints =
    s.pointsRevised.serve.1.offer (bySubject (s.adoptionNotices ++ s.pointsRevised.serve.2)) := rfl

theorem State.pointsRevised_purge : s.pointsRevised.purge = s.purge.abort s.pointChanged := by rw [State.pointsRevised]

theorem State.pointsRevised_capture : s.pointsRevised.capture = s.capture := by rw [State.pointsRevised]

theorem State.pointsRevised_sweep : s.pointsRevised.sweep = s.sweep := by rw [State.pointsRevised]

theorem State.pointsRevised_grantFor : s.pointsRevised.grantFor = s.grantFor := by
  funext e
  rw [State.grantFor, State.grantFor, State.pointsRevised]

theorem State.adoptPoints_points : s.adoptPoints.points = s.pointsRevised.serve.1.points := by
  rw [State.adoptPoints_eq, State.offer_points]

theorem State.adoptPoints_capture : s.adoptPoints.capture = s.pointsRevised.serve.1.capture := by
  rw [State.adoptPoints_eq, State.offer_capture]

theorem State.pointsRevised_point (p : Fin 24) : s.pointsRevised.points[p] = (s.points[p]).adopt s.store.written.points[p] := by
  simp [State.pointsRevised]

theorem State.adoptPoints_work : s.adoptPoints.work = s.pointsRevised.work := by
  rw [State.adoptPoints_eq, State.offer_work]
  simp [State.serve_keeps]

theorem State.adoptPoints_cfg (p : Fin 24) : (s.adoptPoints.points[p]).cfg = s.store.written.points[p] := by
  rw [s.adoptPoints_points, s.pointsRevised.serve_servedIn.cfg p, s.pointsRevised_point, PointRec.adopt_cfg]

/-- R108: only entries of unchanged points stay queued. -/
theorem State.mem_abort_queue {e : PurgeEntry} : e ∈ (s.purge.abort s.pointChanged).queue ↔
    e ∈ s.purge.queue ∧ s.store.written.points[e.point] = (s.points[e.point]).cfg := by
  simp [Purge.abort, State.pointChanged]

/-- R71: a changed point starts afresh. -/
theorem State.adoptPoints_of_changed {p : Fin 24} (h : s.store.written.points[p] ≠ (s.points[p]).cfg) :
    s.adoptPoints.points[p] = .fresh s.store.written.points[p] := by
  have unqueued : p ∉ s.pointsRevised.purge.queue.map PurgeEntry.point := fun hmem => by
    obtain ⟨e, he, rfl⟩ := List.mem_map.1 hmem
    exact h (s.mem_abort_queue.1 he).2
  rw [s.adoptPoints_points, s.pointsRevised.serve_servedIn.kept p unqueued, s.pointsRevised_point, PointRec.adopt_of_ne h]

/-- R72: an unchanged point that does not wait for a heater is left alone. -/
theorem State.adoptPoints_of_unchanged {p : Fin 24} (h : s.store.written.points[p] = (s.points[p]).cfg)
    (hqueue : p ∉ s.purge.queue.map PurgeEntry.point) : s.adoptPoints.points[p] = s.points[p] := by
  have unqueued : p ∉ s.pointsRevised.purge.queue.map PurgeEntry.point := fun hmem => by
    obtain ⟨e, he, rfl⟩ := List.mem_map.1 hmem
    exact hqueue (List.mem_map_of_mem (s.mem_abort_queue.1 he).1)
  rw [s.adoptPoints_points, s.pointsRevised.serve_servedIn.kept p unqueued, s.pointsRevised_point, PointRec.adopt_of_eq h]

theorem State.adoptPoints_idle {k : Fin 4} (h : s.capture.units[k] = .idle) : s.adoptPoints.capture.units[k] = .idle := by
  rw [s.adoptPoints_capture]
  refine s.pointsRevised.serve_servedIn.idle k ?_
  rwa [s.pointsRevised_capture]

theorem State.adoptPoints_filter (m : PinLine) (q : Fin 24) : s.adoptPoints.capture.filter m q = s.capture.filter m q := by
  rw [s.adoptPoints_capture, s.pointsRevised.serve_servedIn.filter, s.pointsRevised_capture]

end

section
variable {s : State}

theorem State.ArbiterLaw.adoptionGrants_nodup (h : s.ArbiterLaw) :
    ((s.purge.abort s.pointChanged).queue.map PurgeEntry.point).Nodup := by
  obtain ⟨-, -, hnodup, -, -⟩ := h
  exact hnodup.sublist (List.filter_sublist.map _)

/-- R100, R108: the grants that the cancelled purges freed go to the head of the queue. -/
theorem State.ArbiterLaw.adoptPoints_serves (h : s.ArbiterLaw) :
    s.pointsRevised.Serves s.pointsRevised.serve.1 s.adoptionGrants s.pointsRevised.serve.2 := by
  have serves := s.pointsRevised.serve_serves
  rw [s.pointsRevised_purge] at serves
  exact serves h.adoptionGrants_nodup

theorem State.cfg_of_mem_adoptionGrants {e : PurgeEntry} (he : e ∈ s.adoptionGrants) :
    s.store.written.points[e.point] = (s.points[e.point]).cfg :=
  (s.mem_abort_queue.1 (List.mem_of_mem_take he)).2

/-- R99, R108: the point of an entry granted at the adoption. -/
theorem State.ArbiterLaw.adoptPoints_granted (h : s.ArbiterLaw) {e : PurgeEntry} (he : e ∈ s.adoptionGrants) :
    s.adoptPoints.points[e.point] = (s.points[e.point]).granted e.origin := by
  rw [s.adoptPoints_points, h.adoptPoints_serves.granted e he, s.pointsRevised_point,
    PointRec.adopt_of_eq (s.cfg_of_mem_adoptionGrants he)]

/-- R72: every point without a grant stays as it adopted. -/
theorem State.ArbiterLaw.adoptPoints_kept (h : s.ArbiterLaw) {p : Fin 24} (hp : p ∉ s.adoptionGrants.map PurgeEntry.point) :
    s.adoptPoints.points[p] = (s.points[p]).adopt s.store.written.points[p] := by
  rw [s.adoptPoints_points, h.adoptPoints_serves.kept p hp, s.pointsRevised_point]

/-- R99, R100, R108: the purge controller after the adoption. -/
theorem State.ArbiterLaw.adoptPoints_purge (h : s.ArbiterLaw) : s.adoptPoints.purge =
    { grants := (s.purge.abort s.pointChanged).grants ++ s.adoptionGrants.map s.grantFor
      queue := (s.purge.abort s.pointChanged).queue.drop (2 - (s.purge.abort s.pointChanged).grants.length)
      recovery := (s.purge.abort s.pointChanged).recovery } := by
  have serves := h.adoptPoints_serves
  have head := serves.head
  have grants := serves.grants
  have recovery := serves.recovery
  rw [s.pointsRevised_purge] at head grants recovery
  rw [s.pointsRevised_grantFor] at grants
  have rest := List.append_cancel_left (head.symm.trans (List.take_append_drop _ _).symm)
  rw [← rest, ← grants, ← recovery, State.adoptPoints_eq, State.offer_purge]

/-- R70, R71, R108: the POINT notices of the adoption stand in ascending point number. -/
theorem State.ArbiterLaw.adoptPoints_notices (h : s.ArbiterLaw) : s.adoptPoints.notices =
    (conditionNotices s.sweep.number s.points s.adoptPoints.points).foldl NoticeQueue.arrive s.notices := by
  have serves := h.adoptPoints_serves
  have notices : bySubject (s.adoptionNotices ++ s.pointsRevised.serve.2) =
      conditionNotices s.sweep.number s.points s.adoptPoints.points := by
    refine bySubject_eq_of_perm ?_
    rw [serves.notices, conditionNotices_eq]
    have granted : s.pointsRevised.grantNotices s.adoptionGrants = (s.adoptionGrants.map PurgeEntry.point).flatMap fun p =>
        pointNotice s.sweep.number p (s.points[p]).run (s.adoptPoints.points[p]).run := by
      rw [List.flatMap_map]
      refine List.flatMap_congr fun e he => ?_
      rw [h.adoptPoints_granted he, s.pointsRevised_point, PointRec.adopt_of_eq (s.cfg_of_mem_adoptionGrants he),
        s.pointsRevised_sweep]
    rw [granted]
    refine flatMap_append_flatMap_perm (h.adoptionGrants_nodup.sublist ((List.take_sublist _ _).map _)) (fun p hp => ?_)
      fun p hp => ?_
    · obtain ⟨e, he, rfl⟩ := List.mem_map.1 hp
      rw [s.pointsRevised_point, PointRec.adopt_of_eq (s.cfg_of_mem_adoptionGrants he), pointNotice_self]
    · rw [s.pointsRevised_point, h.adoptPoints_kept hp]
  have offered : s.adoptPoints.notices =
      (bySubject (s.adoptionNotices ++ s.pointsRevised.serve.2)).foldl NoticeQueue.arrive s.pointsRevised.serve.1.notices := by
    rw [State.adoptPoints_eq, State.offer]
  have keeps : s.pointsRevised.serve.1.notices = s.pointsRevised.notices := by simp only [State.serve_keeps]
  rw [offered, keeps, notices, State.pointsRevised]

end

end Sys2Proof.Machine
end

section
/-! The adoption of the surfaces (R25 to R29), with its notices, ranking and outputs (R45, R46, R54, R143), and the completion of
a sweep (R131, R134). -/

namespace Sys2Proof.Machine

/-! ### Surfaces adopted (R25 to R29) -/

/-- R29: the state after a change that keeps the values. -/
theorem adoptKeptState_eq (c : SurfaceCfg) (r : SurfaceRun) (latch : Bool) : adoptKeptState c r latch =
    if latch = true then .wet
    else if r.state ≠ .wet then r.state
    else r.stateLeavingWet c := by
  by_cases h : r.state = .wet <;> simp [adoptKeptState, h]

section
variable (c : SurfaceCfg) (latch : Bool) (r : SurfaceRec)

theorem adoptSurface_adopts : AdoptsSurface c latch r.cfg r.run (adoptSurface c latch r).1 := by
  by_cases hsame : c = r.cfg
  · rw [adoptSurface, if_pos hsame]
    refine ⟨hsame.symm, fun _ => rfl, fun he ho => ?_, fun he h => ?_, fun h => absurd hsame h⟩
    · simp [hsame, ho] at he
    · simp [hsame ▸ he, hsame] at h
  by_cases henabled : c.enabled = r.cfg.enabled
  · rw [adoptSurface, if_neg hsame, if_neg (not_not.2 henabled)]
    by_cases hoff : c.enabled = false
    · rw [if_pos hoff]
      have hoff' := henabled ▸ hoff
      exact ⟨rfl, fun _ => rfl, fun _ ho => absurd (hoff'.symm.trans ho) Bool.false_ne_true,
        fun he => absurd (hoff.symm.trans he) Bool.false_ne_true,
        fun _ he => absurd (hoff.symm.trans he) Bool.false_ne_true⟩
    · rw [if_neg hoff]
      split
      next hmoved =>
        simp only [Bool.or_eq_true, decide_eq_true_eq] at hmoved
        exact ⟨rfl, fun h => (h.elim hsame fun h => hoff h.1).elim, fun h => absurd h hoff, fun _ _ => rfl,
          fun _ _ _ hp ha => (hmoved.elim (· hp) (· ha)).elim⟩
      next hstays =>
        simp only [Bool.or_eq_true, decide_eq_true_eq] at hstays
        refine ⟨rfl, fun h => (h.elim hsame fun h => hoff h.1).elim, fun h => absurd h hoff, fun he h => ?_,
          fun _ _ _ _ _ => ?_⟩
        · exact (h.elim (fun h => hoff (henabled.trans h)) hstays).elim
        · rw [SurfaceRun.restartCounting, adoptKeptState_eq]
          rfl
  · rw [adoptSurface, if_neg hsame, if_pos henabled]
    refine ⟨rfl, fun h => ?_, fun he _ => ?_, fun he _ => ?_, fun _ he ho => absurd (he.trans ho.symm) henabled⟩
    · exact (h.elim hsame fun h => henabled (h.1.trans h.2.symm)).elim
    · rw [he]
      rfl
    · rw [he]
      rfl

/-- R26, R27, R54: when an adoption clears the values of a surface. -/
theorem adoptSurface_cleared : (adoptSurface c latch r).2 = (decide (c.enabled ≠ r.cfg.enabled)
    || c.enabled && decide (c.surfacePoint ≠ r.cfg.surfacePoint ∨ c.airList ≠ r.cfg.airList)) := by
  by_cases hsame : c = r.cfg
  · rw [adoptSurface, if_pos hsame]
    simp [hsame]
  rw [adoptSurface, if_neg hsame]
  by_cases henabled : c.enabled = r.cfg.enabled
  · rw [if_neg (not_not.2 henabled)]
    cases hoff : c.enabled with
    | false => simp [← henabled, hoff]
    | true =>
      rw [if_neg (fun h => Bool.false_ne_true h.symm), ← henabled, hoff]
      split <;> simp_all
  · rw [if_pos henabled]
    simp [henabled]

end

/-! ### The surface table revised (R45, R46, R54) -/

theorem stateNotices_eq (num : SweepNo) (old new : Vector SurfaceRec 16) : stateNotices num old new =
    (List.finRange 16).flatMap fun i => surfaceNotice num i (old[i]).run.state (new[i]).run := by
  refine List.flatMap_congr fun i _ => ?_
  rw [surfaceNotice, SurfaceRun.noticeValue]
  cases (new[i]).run.values <;> rfl

theorem anyWetChange_iff (old new : Vector SurfaceRec 16) : anyWetChange old new = true ↔
    ∃ i : Fin 16, (old[i]).run.state ≠ (new[i]).run.state
      ∧ ((old[i]).run.state = .wet ∨ (new[i]).run.state = .wet) := by
  simp [anyWetChange]

section
variable (s : State)

/-- R54: the ranking follows a revision of the surface table. -/
theorem State.reviseSurfaces_follows (new : Vector SurfaceRec 16) (cleared : Fin 16 → Bool) :
    s.ranking.Follows (s.reviseSurfaces new cleared).ranking s.surfaces new cleared := by
  refine ⟨rfl, List.filterMap_congr fun e _ => ?_⟩
  simp only [RankEntry.follow, Bool.or_eq_true, decide_eq_true_eq]

theorem State.reviseSurfaces_notices (new : Vector SurfaceRec 16) (cleared : Fin 16 → Bool) :
    (s.reviseSurfaces new cleared).notices =
      (stateNotices s.sweep.number s.surfaces new).foldl NoticeQueue.arrive s.notices := by
  rw [stateNotices_eq, State.reviseSurfaces, State.offer]

/-- R143: the outputs act on the demand of the surface table. -/
theorem State.evalOutputs_outputs :
    s.evalOutputs.outputs = actOn s.store.written.outputs s.surfaces s.now s.outputs := rfl

/-- R25: the surface table an adoption makes. -/
def State.surfacesRevised : Vector SurfaceRec 16 :=
  Vector.ofFn fun i => (adoptSurface s.store.written.surfaces[i] (s.latchOf s.store.written.surfaces[i]) s.surfaces[i]).1

theorem State.surfacesRevised_adopts (i : Fin 16) :
    AdoptsSurface s.store.written.surfaces[i] (s.latchOf s.store.written.surfaces[i]) (s.surfaces[i]).cfg (s.surfaces[i]).run
      s.surfacesRevised[i] := by
  simp only [State.surfacesRevised, Fin.getElem_fin, Vector.getElem_ofFn]
  exact adoptSurface_adopts _ _ _

/-- R25, R27: whose values an adoption clears. -/
def State.surfaceCleared (i : Fin 16) : Bool :=
  (adoptSurface s.store.written.surfaces[i] (s.latchOf s.store.written.surfaces[i]) s.surfaces[i]).2

/-- R25, R46: the adoption revises the surface table, and the outputs follow where a surface changed to or from WET. -/
theorem State.adoptSurfaces_eq : s.adoptSurfaces =
    if anyWetChange s.surfaces s.surfacesRevised then (s.reviseSurfaces s.surfacesRevised s.surfaceCleared).evalOutputs
    else s.reviseSurfaces s.surfacesRevised s.surfaceCleared := by
  have table : (Vector.ofFn fun i : Fin 16 => ((Vector.ofFn fun k : Fin 16 =>
      adoptSurface s.store.written.surfaces[k] (s.latchOf s.store.written.surfaces[k]) s.surfaces[k])[i]).1)
      = s.surfacesRevised := by simp [State.surfacesRevised]
  have cleared : (fun i : Fin 16 => ((Vector.ofFn fun k : Fin 16 =>
      adoptSurface s.store.written.surfaces[k] (s.latchOf s.store.written.surfaces[k]) s.surfaces[k])[i]).2)
      = s.surfaceCleared := by funext i; simp [State.surfaceCleared]
  rw [State.adoptSurfaces]
  simp only [table, cleared]

theorem State.adoptSurfaces_table : s.adoptSurfaces.surfaces = s.surfacesRevised := by
  rw [State.adoptSurfaces_eq, apply_ite State.surfaces, State.evalOutputs_surfaces, ite_self, State.reviseSurfaces_surfaces]

theorem State.adoptSurfaces_follows :
    s.ranking.Follows s.adoptSurfaces.ranking s.surfaces s.surfacesRevised s.surfaceCleared := by
  rw [State.adoptSurfaces_eq, apply_ite State.ranking, State.evalOutputs_ranking, ite_self]
  exact s.reviseSurfaces_follows _ _

theorem State.adoptSurfaces_notices : s.adoptSurfaces.notices =
    (stateNotices s.sweep.number s.surfaces s.surfacesRevised).foldl NoticeQueue.arrive s.notices := by
  rw [State.adoptSurfaces_eq, apply_ite State.notices, State.evalOutputs_notices, ite_self]
  exact s.reviseSurfaces_notices _ _

theorem State.adoptSurfaces_outputs : s.adoptSurfaces.outputs =
    if anyWetChange s.surfaces s.surfacesRevised = true then
      actOn s.store.written.outputs s.surfacesRevised s.now s.outputs
    else s.outputs := by
  rw [State.adoptSurfaces_eq]
  split <;> rfl

/-! ### The completion of a sweep (R131, R134) -/

theorem State.completeSweep_table : s.completeSweep.surfaces =
    Vector.ofFn fun i => (evalSurface s.sweep.number s.points i s.surfaces[i]).1 := by
  rw [State.completeSweep_surfaces]
  simp [State.evaluateSurfaces]

theorem State.completeSweep_ranking :
    s.completeSweep.ranking = rankingOf s.sweep.number s.completeSweep.surfaces := by
  rw [State.completeSweep_surfaces]
  simp [State.completeSweep, State.takeSnapshot_keeps, State.evaluateSurfaces]

theorem State.completeSweep_outputs : s.completeSweep.outputs =
    actOn s.store.written.outputs s.completeSweep.surfaces s.now s.outputs := by
  rw [State.completeSweep_surfaces]
  simp [State.completeSweep, State.evalOutputs_outputs, State.takeSnapshot_keeps]

/-- R134: what a snapshot makes of the sweep controller. -/
theorem State.takeSnapshot_sweep : s.takeSnapshot.sweep =
    if s.sweep.snapSweep = some s.sweep.number then
      { s.sweep with snapSweep := none, ready := true, buffer := some s.snapshotNow }
    else s.sweep := by
  rw [State.takeSnapshot]
  split <;> rfl

/-- R134: the notice a snapshot offers. -/
theorem State.takeSnapshot_notices : s.takeSnapshot.notices =
    (if s.sweep.snapSweep = some s.sweep.number then [s.snapshotNotice] else []).foldl NoticeQueue.arrive s.notices := by
  rw [State.takeSnapshot]
  split <;> rfl

/-- R131: the state at evaluation complete. -/
def State.evaluated : State := { s.evaluateSurfaces with sweep := { s.evaluateSurfaces.sweep with inFlight := false } }

theorem State.completeSweep_eq : s.completeSweep = s.evaluated.takeSnapshot.evalOutputs := rfl

theorem State.evaluated_sweep : s.evaluated.sweep = { s.sweep with inFlight := false } := by
  rw [State.evaluated, State.evaluateSurfaces_sweep]

theorem State.evaluated_points : s.evaluated.points = s.points := by
  rw [State.evaluated, State.evaluateSurfaces_points]

theorem State.evaluated_surfaces : s.evaluated.surfaces = s.completeSweep.surfaces := by
  rw [State.completeSweep_surfaces, State.evaluated]

theorem State.evaluated_notices : s.evaluated.notices =
    ((List.finRange 16).flatMap fun i => (evalSurface s.sweep.number s.points i s.surfaces[i]).2).foldl
      NoticeQueue.arrive s.notices := by
  simp [State.evaluated, State.evaluateSurfaces, State.offer]

/-- R131, R134: the sweep controller after a completion. -/
theorem State.completeSweep_sweep {w : Sweep} (h : w = { s.sweep with inFlight := false }) : s.completeSweep.sweep =
    if w.snapSweep = some w.number then
      { w with
        snapSweep := none, ready := true
        buffer := some
          { sweep := w.number
            points := Vector.ofFn fun p => snapPoint s.points[p]
            surfaces := Vector.ofFn fun i => snapSurface s.completeSweep.surfaces[i] } }
    else w := by
  have sweep : s.completeSweep.sweep = s.evaluated.takeSnapshot.sweep := by
    rw [State.completeSweep_eq, State.evalOutputs_sweep]
  rw [sweep, State.takeSnapshot_sweep, State.snapshotNow, State.evaluated_points, State.evaluated_surfaces,
    State.evaluated_sweep, ← h]

/-- R134, R136: the notices of a completion. -/
theorem State.completeSweep_notices : s.completeSweep.notices =
    (((List.finRange 16).flatMap fun i => (evalSurface s.sweep.number s.points i s.surfaces[i]).2)
      ++ if s.sweep.snapSweep = some s.sweep.number then
          [Notice.mk .snapshot 0 0 0 s.sweep.number (worstState s.completeSweep.surfaces) {}]
        else []).foldl NoticeQueue.arrive s.notices := by
  have notices : s.completeSweep.notices = s.evaluated.takeSnapshot.notices := by
    rw [State.completeSweep_eq, State.evalOutputs_notices]
  rw [notices, State.takeSnapshot_notices, State.snapshotNotice, State.evaluated_notices, State.evaluated_surfaces,
    State.evaluated_sweep, List.foldl_append]

end

end Sys2Proof.Machine
end

section
/-! The job queue given out at a sweep start (R81, R83), and the sweep start from its parts (R130). -/

namespace Sys2Proof.Machine

/-! ### Jobs given to IDLE units (R83, R84) -/

/-- R84: what an IDLE unit becomes when the arbiter has a job for it, or none. -/
def CaptureUnit.given (now window : Nat) : Option Job → CaptureUnit
  | none => .idle
  | some j => .armed j now (now + window * Config.ticksPerMs)

theorem CaptureUnit.given_job? (now window : Nat) (j : Option Job) : (CaptureUnit.given now window j).job? = j := by
  cases j <;> rfl

section
variable {now window : Nat}

theorem Capture.giveOne_filter (c : Capture) (k : Fin 4) (m : PinLine) (q : Fin 24) :
    (c.giveOne now window k).filter m q = c.filter m q := by
  rw [Capture.giveOne]
  split
  · cases m <;> rfl
  · rfl

theorem Capture.giveOne_outcomes (c : Capture) (k : Fin 4) : (c.giveOne now window k).outcomes = c.outcomes := by
  rw [Capture.giveOne]
  split <;> rfl

/-- R83: an IDLE unit takes the head of the queue. -/
theorem Capture.giveOne_of_idle {c : Capture} {k : Fin 4} (h : c.units[k] = .idle) :
    (c.giveOne now window k).queue = c.queue.drop 1
      ∧ (c.giveOne now window k).units = c.units.set k (.given now window c.queue[0]?) := by
  have same : c.units.set k .idle = c.units := by
    rw [← h]
    exact Vector.set_getElem_self k.isLt
  rw [Capture.giveOne, h]
  cases hqueue : c.queue with
  | nil => simpa [CaptureUnit.given, hqueue] using same.symm
  | cons j rest => simp [CaptureUnit.given]

/-- R83: while the arbiter walks over IDLE units, the first `n` hold the first jobs of the queue. -/
theorem Capture.giveFirst_of_idle {c : Capture} (h : ∀ k : Fin 4, c.units[k] = .idle) {n : Nat} (hn : n ≤ 4) :
    (((List.finRange 4).take n).foldl (Capture.giveOne now window) c).queue = c.queue.drop n
      ∧ ∀ k : Fin 4, (((List.finRange 4).take n).foldl (Capture.giveOne now window) c).units[k] =
          if k.val < n then .given now window c.queue[k.val]? else .idle := by
  induction n with
  | zero => simpa using h
  | succ n ih =>
    obtain ⟨queue, units⟩ := ih (by omega)
    have walk : (List.finRange 4).take (n + 1) = (List.finRange 4).take n ++ [⟨n, hn⟩] := by
      rw [List.take_add_one, List.getElem?_eq_getElem (by simpa using hn)]
      simp
    rw [walk, List.foldl_append, List.foldl_cons, List.foldl_nil]
    have idle := units ⟨n, hn⟩
    rw [if_neg (Nat.lt_irrefl n)] at idle
    obtain ⟨queue', units'⟩ := Capture.giveOne_of_idle (now := now) (window := window) idle
    refine ⟨by rw [queue', queue, List.drop_drop], fun k => ?_⟩
    rw [units', queue, List.getElem?_drop, Nat.add_zero]
    by_cases hk : n = k.val
    · simp [← hk]
    · have hlt : k.val < n + 1 ↔ k.val < n := by omega
      simpa [Vector.getElem_set, hk, hlt] using units k

/-- R83: units that are IDLE take the first jobs of the queue, one each. -/
theorem State.giveJobs_of_idle {s : State} (h : ∀ k : Fin 4, s.capture.units[k] = .idle) :
    s.giveJobs.capture.queue = s.capture.queue.drop 4
      ∧ (∀ k : Fin 4, s.giveJobs.capture.units[k] = .given s.now s.work.window s.capture.queue[k.val]?)
      ∧ (s.giveJobs.capture.allEnded = true ↔ s.capture.queue = []) := by
  obtain ⟨queue, units⟩ := Capture.giveFirst_of_idle (now := s.now) (window := s.work.window) h (Nat.le_refl 4)
  have all : (List.finRange 4).take 4 = List.finRange 4 := rfl
  rw [all, ← State.giveJobs_capture] at queue units
  have held (k : Fin 4) : s.giveJobs.capture.units[k] = .given s.now s.work.window s.capture.queue[k.val]? := by
    rw [units k, if_pos k.isLt]
  refine ⟨queue, held, ?_⟩
  have none (k : Fin 4) : (s.giveJobs.capture.units[k]).job? = s.capture.queue[k.val]? := by
    rw [held k, CaptureUnit.given_job?]
  simp only [Capture.allEnded, queue, none, Bool.and_eq_true, List.isEmpty_iff, List.all_eq_true, decide_eq_true_eq]
  constructor
  · rintro ⟨-, hunits⟩
    have := hunits 0 (List.mem_finRange 0)
    simpa using this
  · intro hqueue
    simp [hqueue]

theorem State.giveJobs_filter (s : State) (m : PinLine) (q : Fin 24) :
    s.giveJobs.capture.filter m q = s.capture.filter m q := by
  rw [State.giveJobs_capture]
  exact List.foldlRecOn (motive := fun c => c.filter m q = s.capture.filter m q) _ _ rfl fun c hc k _ =>
    (Capture.giveOne_filter c k m q).trans hc

theorem State.giveJobs_outcomes (s : State) : s.giveJobs.capture.outcomes = s.capture.outcomes := by
  rw [State.giveJobs_capture]
  exact List.foldlRecOn (motive := fun c => c.outcomes = s.capture.outcomes) _ _ rfl fun c hc k _ =>
    (Capture.giveOne_outcomes c k).trans hc

end

/-! ### The parts of a sweep start (R130) -/

/-- R81: the walk over the points, as Table 5-1 gives it. -/
theorem jobsOf_eq (w : WorkGlobals) (p : Fin 24) (r : PointRec) : jobsOf w p r =
    match r.cfg.kind with
    | .off => []
    | .surface => [Job.mk p .d w.nD]
    | .air =>
      if r.run.phase = .heating ∨ r.run.phase = .recovering then []
      else [Job.mk p .f w.nF, Job.mk p .d w.nD] := by
  rw [jobsOf]
  cases r.cfg.kind with
  | off => rfl
  | surface => rfl
  | air => simp only [Bool.or_eq_true, decide_eq_true_eq]

section
variable (s : State)

/-- R130: the sweep controller has begun the sweep; nothing is adopted yet. -/
def State.begun : State := { s with sweep := s.sweep.begin }

/-- R130: the written image is in force and the job queue is built. -/
def State.sweepQueued : State := s.begun.adoptPoints.adoptSurfaces.adoptCapture.buildJobs

/-- R130: the first jobs of the sweep are given. -/
def State.sweepGiven : State := s.sweepQueued.giveJobs

theorem State.sweepGiven_points : s.sweepGiven.points = s.begun.adoptPoints.points := by
  simp [State.sweepGiven, State.sweepQueued, State.adoptSurfaces_keeps]

theorem State.sweepGiven_purge : s.sweepGiven.purge = s.begun.adoptPoints.purge := by
  simp [State.sweepGiven, State.sweepQueued, State.adoptSurfaces_keeps]

theorem State.sweepGiven_store : s.sweepGiven.store = s.store := by
  simp [State.sweepGiven, State.sweepQueued, State.adoptSurfaces_keeps, State.adoptPoints_keeps, State.begun]

theorem State.sweepGiven_now : s.sweepGiven.now = s.now := by
  simp [State.sweepGiven, State.sweepQueued, State.adoptSurfaces_keeps, State.adoptPoints_keeps, State.begun]

theorem State.sweepGiven_sweep : s.sweepGiven.sweep = s.sweep.begin := by
  simp [State.sweepGiven, State.sweepQueued, State.adoptSurfaces_keeps, State.adoptPoints_keeps, State.begun]

/-- R71, R80: the working settings are the written ones. -/
theorem State.sweepQueued_work : s.sweepQueued.work = s.store.written.globals.work := by
  rw [State.sweepQueued, State.buildJobs_work, State.adoptCapture]
  simp [State.adoptSurfaces_keeps, State.adoptPoints_keeps, State.adoptPoints_work, State.begun, State.pointsRevised,
    GlobalCfg.work]

/-- R25: a surface adopts what it would have adopted before the points. -/
theorem State.adoptPoints_surfacesRevised : s.begun.adoptPoints.surfacesRevised = s.surfacesRevised := by
  simp [State.surfacesRevised, State.latchOf, State.adoptPoints_keeps, State.begun]

theorem State.adoptPoints_surfaceCleared : s.begun.adoptPoints.surfaceCleared = s.surfaceCleared := by
  funext i
  simp [State.surfaceCleared, State.latchOf, State.adoptPoints_keeps, State.begun]

theorem State.sweepGiven_surfaces : s.sweepGiven.surfaces = s.surfacesRevised := by
  rw [State.sweepGiven, State.giveJobs_surfaces, State.sweepQueued, State.buildJobs_surfaces, State.adoptCapture_surfaces,
    State.adoptSurfaces_table, s.adoptPoints_surfacesRevised]

theorem State.sweepGiven_follows :
    s.ranking.Follows s.sweepGiven.ranking s.surfaces s.surfacesRevised s.surfaceCleared := by
  have follows := s.begun.adoptPoints.adoptSurfaces_follows
  rw [s.adoptPoints_surfacesRevised, s.adoptPoints_surfaceCleared] at follows
  simp only [State.adoptPoints_keeps] at follows
  rwa [State.sweepGiven, State.giveJobs_ranking, State.sweepQueued, State.buildJobs_ranking, State.adoptCapture_ranking]

/-- R46, R143: the outputs act at the adoption where a surface changed to or from WET. -/
theorem State.sweepGiven_outputs : s.sweepGiven.outputs =
    if anyWetChange s.surfaces s.surfacesRevised = true then
      actOn s.store.written.outputs s.surfacesRevised s.now s.outputs
    else s.outputs := by
  have outputs := s.begun.adoptPoints.adoptSurfaces_outputs
  rw [s.adoptPoints_surfacesRevised] at outputs
  simp only [State.adoptPoints_keeps] at outputs
  rwa [State.sweepGiven, State.giveJobs_outputs, State.sweepQueued, State.buildJobs_outputs, State.adoptCapture_outputs]

/-- R89, R130: a sweep without jobs completes in its start. -/
theorem State.startSweep_cases :
    (s.startSweep = s.sweepGiven.completeSweep ∧ s.sweepGiven.capture.allEnded = true)
      ∨ (s.startSweep = s.sweepGiven ∧ s.sweepGiven.capture.allEnded = false) := by
  have started : s.startSweep = s.sweepQueued.settle := rfl
  have inFlight : s.sweepQueued.sweep.inFlight = true := congrArg Sweep.inFlight s.sweepGiven_sweep
  rw [started]
  obtain ⟨heq, -, hended⟩ | ⟨heq, hnot⟩ := s.sweepQueued.settle_cases
  · exact .inl ⟨heq, hended⟩
  · exact .inr ⟨heq, hnot.resolve_left (by rw [inFlight]; decide)⟩

theorem State.startSweep_points : s.startSweep.points = s.begun.adoptPoints.points := by
  obtain ⟨h, -⟩ | ⟨h, -⟩ := s.startSweep_cases <;> simp [h, State.completeSweep_keeps, s.sweepGiven_points]

theorem State.startSweep_purge : s.startSweep.purge = s.begun.adoptPoints.purge := by
  obtain ⟨h, -⟩ | ⟨h, -⟩ := s.startSweep_cases <;> simp [h, State.completeSweep_keeps, s.sweepGiven_purge]

theorem State.startSweep_capture : s.startSweep.capture = s.sweepGiven.capture := by
  obtain ⟨h, -⟩ | ⟨h, -⟩ := s.startSweep_cases <;> simp only [h, State.completeSweep_keeps]

theorem State.startSweep_work : s.startSweep.work = s.store.written.globals.work := by
  have given : s.sweepGiven.work = s.store.written.globals.work := s.sweepQueued_work
  obtain ⟨h, -⟩ | ⟨h, -⟩ := s.startSweep_cases <;> simp [h, State.completeSweep_keeps, given]

/-- R131: a sweep without jobs completes in its start. -/
theorem State.startSweep_of_none (h : s.startSweep.capture.allEnded = true) : s.startSweep = s.sweepGiven.completeSweep := by
  obtain ⟨heq, -⟩ | ⟨-, hnot⟩ := s.startSweep_cases
  · exact heq
  · rw [s.startSweep_capture, hnot] at h
    exact absurd h Bool.false_ne_true

theorem State.startSweep_of_jobs (h : s.startSweep.capture.allEnded = false) : s.startSweep = s.sweepGiven := by
  obtain ⟨-, hended⟩ | ⟨heq, -⟩ := s.startSweep_cases
  · rw [s.startSweep_capture, hended] at h
    exact absurd h.symm Bool.false_ne_true
  · exact heq

/-- R130: the sweep controller while the sweep has jobs. -/
theorem State.startSweep_sweep_of_jobs (h : s.startSweep.capture.allEnded = false) : s.startSweep.sweep = s.sweep.begin := by
  rw [s.startSweep_of_jobs h, s.sweepGiven_sweep]

/-- R130, R131: the sweep controller when the sweep has no job. -/
theorem State.startSweep_sweep_of_none (h : s.startSweep.capture.allEnded = true) {w : Sweep}
    (hw : w = { s.sweep.begin with inFlight := false }) : s.startSweep.sweep =
      if w.snapSweep = some w.number then
        { w with
          snapSweep := none, ready := true
          buffer := some
            { sweep := w.number
              points := Vector.ofFn fun p => snapPoint s.startSweep.points[p]
              surfaces := Vector.ofFn fun i => snapSurface s.startSweep.surfaces[i] } }
      else w := by
  rw [s.startSweep_points, s.startSweep_of_none h, s.sweepGiven.completeSweep_sweep (hw.trans (by rw [s.sweepGiven_sweep])),
    s.sweepGiven_points]

/-- R130: the controller after a sweep start, in flight exactly while it has jobs. -/
theorem State.startSweep_begins :
    s.startSweep.sweep.number = s.sweep.number + 1 ∧ s.startSweep.sweep.overrunCount = 0
      ∧ s.startSweep.sweep.arm = false ∧ s.startSweep.sweep.inFlight = !s.startSweep.capture.allEnded := by
  cases hended : s.startSweep.capture.allEnded with
  | false =>
    rw [s.startSweep_sweep_of_jobs hended]
    exact ⟨rfl, rfl, rfl, rfl⟩
  | true =>
    rw [s.startSweep_sweep_of_none hended rfl]
    split <;> exact ⟨rfl, rfl, rfl, rfl⟩

theorem State.startSweep_number : s.startSweep.sweep.number = s.sweep.number + 1 := by
  obtain ⟨number, -, -, -⟩ := s.startSweep_begins
  exact number

/-- R81: the queue of the sweep is the walk over the points as they have adopted. -/
theorem State.sweepQueued_queue : s.sweepQueued.capture.queue =
    (List.finRange 24).flatMap fun p => jobsOf s.startSweep.work p s.startSweep.points[p] := by
  have points : s.startSweep.points = s.sweepQueued.points := s.startSweep_points.trans s.sweepGiven_points.symm
  rw [points, s.startSweep_work, ← s.sweepQueued_work]
  rfl

end

section
variable {s : State}

/-- R70, R46: the notices of the adoption, those of the points before those of the surfaces. -/
theorem State.ArbiterLaw.sweepGiven_notices (h : s.ArbiterLaw) : s.sweepGiven.notices =
    (conditionNotices (s.sweep.number + 1) s.points s.sweepGiven.points
      ++ stateNotices (s.sweep.number + 1) s.surfaces s.surfacesRevised).foldl NoticeQueue.arrive s.notices := by
  have begun : s.begun.ArbiterLaw := h
  have notices := s.begun.adoptPoints.adoptSurfaces_notices
  rw [s.adoptPoints_surfacesRevised, begun.adoptPoints_notices, ← List.foldl_append, ← s.sweepGiven_points] at notices
  simp only [State.adoptPoints_keeps] at notices
  rwa [State.sweepGiven, State.giveJobs_notices, State.sweepQueued, State.buildJobs_notices, State.adoptCapture_notices]

end

/-! ### What a sweep start does (R130) -/

/-- R19: an evaluation leaves the configuration alone. -/
theorem evalSurface_cfg (num : SweepNo) (points : Vector PointRec 24) (i : Fin 16) (r : SurfaceRec) :
    (evalSurface num points i r).1.cfg = r.cfg := by
  rw [evalSurface]
  split <;> rfl

section
variable (s : State)

/-- R81, R83, R84: the jobs of a sweep whose units were IDLE. -/
theorem State.startSweep_jobs {jobs : List Job}
    (hjobs : jobs = (List.finRange 24).flatMap fun p => jobsOf s.startSweep.work p s.startSweep.points[p])
    (h : ∀ k : Fin 4, s.capture.units[k] = .idle) :
    s.startSweep.capture.queue = jobs.drop 4 ∧ s.startSweep.capture.outcomes = []
      ∧ (∀ k : Fin 4, s.startSweep.capture.units[k] = .given s.now s.startSweep.work.window jobs[k.val]?)
      ∧ (s.startSweep.capture.allEnded = true ↔ jobs = []) := by
  have idle (k : Fin 4) : s.sweepQueued.capture.units[k] = .idle := by
    have kept : s.sweepQueued.capture.units = s.begun.adoptPoints.capture.units := by
      simp [State.sweepQueued, State.buildJobs, State.adoptSurfaces_keeps]
    rw [kept]
    exact s.begun.adoptPoints_idle (h k)
  have outcomes : s.sweepQueued.capture.outcomes = [] := rfl
  obtain ⟨queue, units, ended⟩ := State.giveJobs_of_idle idle
  have now : s.sweepQueued.now = s.now := s.sweepGiven_now
  rw [s.sweepQueued_queue, ← hjobs] at queue units ended
  rw [now, s.sweepQueued_work, ← s.startSweep_work] at units
  rw [s.startSweep_capture]
  exact ⟨queue, s.sweepQueued.giveJobs_outcomes.trans outcomes, units, ended⟩

/-- R85: the filters stay. -/
theorem State.startSweep_filter (m : PinLine) (q : Fin 24) :
    s.startSweep.capture.filter m q = s.capture.filter m q := by
  have kept : s.sweepQueued.capture.filter m q = s.begun.adoptPoints.capture.filter m q := by
    cases m <;> simp [State.sweepQueued, State.buildJobs, State.adoptSurfaces_keeps, Capture.filter]
  rw [s.startSweep_capture, State.sweepGiven, State.giveJobs_filter, kept]
  exact s.begun.adoptPoints_filter m q

/-- R19, R25: the surface table after the evaluation of a sweep that completes in its start. -/
theorem State.startSweep_surfaces_of_none (h : s.startSweep.capture.allEnded = true) : s.startSweep.surfaces =
    Vector.ofFn fun i => (evalSurface s.startSweep.sweep.number s.startSweep.points i s.surfacesRevised[i]).1 := by
  rw [s.startSweep_number, s.startSweep_points, s.startSweep_of_none h, State.completeSweep_table, s.sweepGiven_surfaces,
    s.sweepGiven_points, s.sweepGiven_sweep]
  rfl

/-- R25: every surface works on its written configuration. -/
theorem State.startSweep_surface_cfg (i : Fin 16) : (s.startSweep.surfaces[i]).cfg = s.store.written.surfaces[i] := by
  obtain ⟨adopted, -⟩ := s.surfacesRevised_adopts i
  cases hended : s.startSweep.capture.allEnded with
  | false => rw [s.startSweep_of_jobs hended, s.sweepGiven_surfaces, adopted]
  | true =>
    rw [s.startSweep_surfaces_of_none hended, Fin.getElem_fin, Vector.getElem_ofFn, evalSurface_cfg]
    exact adopted

/-- R52: the ranking of a sweep that completes in its start. -/
theorem State.startSweep_ranking_of_none (h : s.startSweep.capture.allEnded = true) :
    s.startSweep.ranking = rankingOf s.startSweep.sweep.number s.startSweep.surfaces := by
  rw [s.startSweep_number, s.startSweep_of_none h, State.completeSweep_ranking, s.sweepGiven_sweep]
  rfl

/-- R54: the ranking of a sweep with jobs follows the adoption. -/
theorem State.startSweep_follows (h : s.startSweep.capture.allEnded = false) :
    s.ranking.Follows s.startSweep.ranking s.surfaces s.surfacesRevised fun i =>
      decide ((s.store.written.surfaces[i]).enabled ≠ (s.surfaces[i]).cfg.enabled)
        || (s.store.written.surfaces[i]).enabled
          && decide ((s.store.written.surfaces[i]).surfacePoint ≠ (s.surfaces[i]).cfg.surfacePoint
            ∨ (s.store.written.surfaces[i]).airList ≠ (s.surfaces[i]).cfg.airList) := by
  have cleared : s.surfaceCleared = fun i : Fin 16 =>
      decide ((s.store.written.surfaces[i]).enabled ≠ (s.surfaces[i]).cfg.enabled)
        || (s.store.written.surfaces[i]).enabled
          && decide ((s.store.written.surfaces[i]).surfacePoint ≠ (s.surfaces[i]).cfg.surfacePoint
            ∨ (s.store.written.surfaces[i]).airList ≠ (s.surfaces[i]).cfg.airList) :=
    funext fun i => adoptSurface_cleared _ _ _
  rw [s.startSweep_of_jobs h, ← cleared]
  exact s.sweepGiven_follows

/-- R143: the outputs act at the adoption where WET asks for it, and again at a completion. -/
theorem State.startSweep_outputs : s.startSweep.outputs =
    if s.startSweep.capture.allEnded = true then
      actOn s.store.written.outputs s.startSweep.surfaces s.now s.sweepGiven.outputs
    else s.sweepGiven.outputs := by
  split
  next h =>
    rw [s.startSweep_of_none h, State.completeSweep_outputs, s.sweepGiven_store, s.sweepGiven_now]
  next h => rw [s.startSweep_of_jobs (Bool.eq_false_iff.2 h)]

/-- R134: a sweep is the snapshot sweep when it was armed, or when the mark of an earlier arming names it. -/
theorem Sweep.begin_snapSweep_eq_iff (w : Sweep) : w.begin.snapSweep = some w.begin.number ↔
    w.arm = true ∨ w.snapSweep = some (w.number + 1) := by
  cases h : w.arm <;> simp [Sweep.begin, h]

end

section
variable {s : State}

/-- R46, R70, R131, R136: the notices of a sweep start. -/
theorem State.ArbiterLaw.startSweep_notices (h : s.ArbiterLaw) : s.startSweep.notices =
    (conditionNotices s.startSweep.sweep.number s.points s.startSweep.points
        ++ stateNotices s.startSweep.sweep.number s.surfaces s.surfacesRevised
      ++ if s.startSweep.capture.allEnded = true then
          ((List.finRange 16).flatMap fun i =>
            (evalSurface s.startSweep.sweep.number s.startSweep.points i s.surfacesRevised[i]).2)
            ++ if s.sweep.arm = true ∨ s.sweep.snapSweep = some s.startSweep.sweep.number then
                [Notice.mk .snapshot 0 0 0 s.startSweep.sweep.number (worstState s.startSweep.surfaces) {}]
              else []
        else []).foldl NoticeQueue.arrive s.notices := by
  rw [s.startSweep_number, s.startSweep_points, List.foldl_append, ← s.sweepGiven_points, ← h.sweepGiven_notices]
  split
  next hended =>
    rw [s.startSweep_of_none hended, State.completeSweep_notices, s.sweepGiven_surfaces]
    simp only [s.sweepGiven_sweep, Sweep.begin_snapSweep_eq_iff]
    rfl
  next hjobs => rw [s.startSweep_of_jobs (Bool.eq_false_iff.2 hjobs), List.foldl_nil]

/-- R99, R100, R108: the purge controller after a sweep start, and the points granted in it. -/
theorem State.ArbiterLaw.startSweep_purge (h : s.ArbiterLaw) : s.startSweep.purge =
    { grants := (s.purge.abort s.pointChanged).grants ++ s.adoptionGrants.map s.grantFor
      queue := (s.purge.abort s.pointChanged).queue.drop (2 - (s.purge.abort s.pointChanged).grants.length)
      recovery := (s.purge.abort s.pointChanged).recovery } := by
  have begun : s.begun.ArbiterLaw := h
  rw [State.startSweep_purge, begun.adoptPoints_purge]
  rfl

end

theorem PointRun.granted_eq (r : PointRun) (o : PurgeOrigin) : r.granted o =
    { r with
      phase := .heating, frozen := r.readings.freeze, readings := r.readings.addHeld
      purgeCount := r.purgeCount + if o = .auto then 1 else 0 } := by
  cases o <;> rfl

/-- Settles O37: the start in its parts, each part by its own lemma. -/
theorem sweepStartAdoptsTheWrittenImage : Obligations.SweepStartAdoptsTheWrittenImage := by
  rintro s t jobs rfl hjobs
  have walk := hjobs.trans (List.flatMap_congr fun p _ => (jobsOf_eq s.startSweep.work p s.startSweep.points[p]).symm)
  obtain ⟨number, overrunCount, arm, inFlight⟩ := s.startSweep_begins
  refine ⟨number, overrunCount, arm, s.startSweep_work, inFlight, fun hidle => ?_, s.startSweep_filter,
    s.startSweep_sweep_of_jobs, fun w hended hw => s.startSweep_sweep_of_none hended hw,
    ⟨s.surfacesRevised, s.surfacesRevised_adopts, fun hjobs => ?_, fun hended => ?_, s.startSweep_follows,
      ⟨s.sweepGiven.outputs, ?_, s.startSweep_outputs⟩, fun h => h.startSweep_notices⟩,
    ?_, s.startSweep_surface_cfg, fun p => ?_⟩
  · obtain ⟨queue, outcomes, units, ended⟩ := s.startSweep_jobs walk hidle
    refine ⟨queue, outcomes, fun k => (units k).trans ?_, ended⟩
    cases jobs[k.val]? <;> rfl
  · rw [s.startSweep_of_jobs hjobs, s.sweepGiven_surfaces]
  · exact ⟨s.startSweep_surfaces_of_none hended, s.startSweep_ranking_of_none hended⟩
  · rw [s.sweepGiven_outputs]
    exact if_congr (anyWetChange_iff _ _) rfl rfl
  · rintro hit grants queue granted h rfl rfl rfl rfl
    have begun : s.begun.ArbiterLaw := h
    refine ⟨h.startSweep_purge, fun e he => ?_, fun p hsame hp => ?_⟩
    · rw [s.startSweep_points, begun.adoptPoints_granted he, PointRec.granted, PointRun.granted_eq]
      rfl
    · have same : s.store.written.points[p] = (s.points[p]).cfg := by simpa using hsame
      rw [s.startSweep_points, begun.adoptPoints_kept hp]
      exact PointRec.adopt_of_eq same
  · have cfg := s.begun.adoptPoints_cfg p
    have changed := s.begun.adoptPoints_of_changed (p := p)
    have unchanged := s.begun.adoptPoints_of_unchanged (p := p)
    rw [← s.startSweep_points] at cfg changed unchanged
    refine ⟨cfg, fun h => ?_, unchanged⟩
    rw [changed h, PointRec.fresh, State.begun]

end Sys2Proof.Machine
end

section
/-! RESTART (R132, R162). -/

namespace Sys2Proof.Machine

/-- R132: the sweep controller after RESTART, its pending interval taken and its timer loaded in CONTINUOUS. -/
def State.restartedSweep (s : State) : Sweep :=
  { s.sweep with
    inFlight := false, overrunCount := 0, arm := false, ready := false, snapSweep := none, buffer := none
    interval := if s.sweep.mode = .continuous then s.sweep.pendingIv.getD s.sweep.interval else s.sweep.interval
    pendingIv := if s.sweep.mode = .continuous then none else s.sweep.pendingIv
    timer := if s.sweep.mode = .continuous then some (s.now + s.sweep.pendingIv.getD s.sweep.interval * 4000000)
      else s.sweep.timer }

/-- R162: the state RESTART makes, before the sweep that follows it in CONTINUOUS. -/
def State.restarted (s : State) : State := { s.restartBlocks with sweep := s.restartedSweep }

/-- R132, R162: RESTART starts a sweep in CONTINUOUS. -/
theorem State.restart_eq (s : State) :
    s.restart = if s.sweep.mode = .continuous then s.restarted.startSweep else s.restarted := by
  have mode : s.restartBlocks.sweep.mode = s.sweep.mode := by simp [State.restartBlocks]
  simp only [State.restart, mode]
  cases hmode : s.sweep.mode with
  | stopped =>
    have sweep : s.restartedSweep = s.restartBlocks.sweep := by simp [State.restartedSweep, State.restartBlocks, hmode]
    rw [if_neg SweepMode.noConfusion, State.restarted, sweep]
  | continuous =>
    have sweep : s.restartedSweep = s.restartBlocks.sweep.takePending.loadTimer s.restartBlocks.now := by
      simp [State.restartedSweep, State.restartBlocks, Sweep.takePending, Sweep.loadTimer, Config.ticksPerSecond, hmode]
    simp [State.restarted, sweep]

theorem PointRun.fresh_eq (k : PointKind) : PointRun.fresh k =
    { health := if k = .off then .off else .new, phase := .none, failRun := 0, satRun := 0, purgeCount := 0
      readings := .absent, frozen := none, lastGood := none, lastFailure := none } := by
  cases k <;> rfl

/-- R162: RESTART answers OK before it acts. -/
theorem State.restartOwn_ok {s : State} (htakes : s.takesOwn = true) (hsave : s.store.saving = none) :
    s.restartOwn [] = (s.postReply 0x32 (Answer.mk .ok [])).restart := by
  simp [State.restartOwn, htakes, State.restartStatus, State.isSaving_eq_false hsave]

/-- R31: of the state, a surface's RESTART value takes the wet lines alone. -/
theorem State.restartSurface_of_wet {s t : State} (h : t.wet = s.wet) : t.restartSurface = s.restartSurface := by
  funext r
  rw [State.restartSurface, State.restartSurface, State.latchOf, State.latchOf, h]

/-- R132: what follows a restart in CONTINUOUS leaves alone. -/
theorem State.restart_keeps (s : State) :
    s.restart.link = s.link ∧ s.restart.store = s.store ∧ s.restart.wet = s.wet ∧ s.restart.pending = s.pending
      ∧ s.restart.sweep.number = if s.sweep.mode = .continuous then s.sweep.number + 1 else s.sweep.number := by
  rw [s.restart_eq]
  split
  · rw [State.startSweep_number]
    simp [State.startSweep_keeps, State.restarted, State.restartedSweep]
  · simp [State.restarted, State.restartedSweep]

/-- Settles O51: the reply is assembled, the blocks take their RESTART values, and in CONTINUOUS a sweep starts. -/
theorem restartTakesEffect : Obligations.RestartTakesEffect := by
  rintro iv s htakes hsave rfl
  let replied := s.postReply 0x32 (Answer.mk .ok [])
  refine ⟨replied.restarted, replied.restart, congrArg _ (State.restartOwn_ok htakes hsave), replied.restart_eq,
    replied.restartBlocks_link, replied.restartBlocks_now, replied.restartBlocks_power, replied.restartBlocks_store,
    replied.restartBlocks_wet, replied.restartBlocks_pending, replied.restartBlocks_work, rfl, rfl, rfl, fun p => ?_,
    fun p => ?_, fun k => ?_, rfl, fun k => ?_, rfl, rfl, fun o => ?_, ?_⟩
  · simp [State.restarted, Purge.fresh]
  · simp [State.restarted, State.restartBlocks, PointRun.fresh_eq, replied]
  · have surface : replied.restarted.surfaces[k] = s.restartSurface s.surfaces[k] := by
      rw [← State.restartSurface_of_wet (s := s) (t := replied) rfl]
      simp [State.restarted, State.restartBlocks, replied]
    rw [surface]
    exact ⟨rfl, rfl⟩
  · simp [State.restarted, Capture.discardAll]
  · simp [State.restarted, OutLine.fresh]
  · exact replied.restart_keeps

end Sys2Proof.Machine
end

section
/-! Supply and the reset pin (R167, R169): the start-up path, the hold, and the loss of supply. -/

namespace Sys2Proof.Machine

/-! ### The start-up path (R169) -/

/-- R169 step 3: the image a start-up takes is the one whose CRC matches. -/
theorem Store.startImage_eq (t : Store) (pins : StartPins) : t.startImage pins = goodImage t.nv pins.nvFlips := by
  unfold Store.startImage goodImage
  cases t.nv with
  | none => rfl
  | some m => simp only [SavedImage.passes, decide_eq_true_eq]

/-- Table 10-1: the bit rate the straps select. -/
theorem bitRateOf_eq (baud1 baud0 : Bool) : bitRateOf baud1 baud0 =
    if baud1 = false ∧ baud0 = true then 9600 else if baud1 = true ∧ baud0 = false then 38400 else 19200 := by
  cases baud1 <;> cases baud0 <;> rfl

/-- R121, R169: the sweep controller of a start-up on image `i`, its timer loaded in CONTINUOUS. -/
def Image.startedSweep (i : Image) (now : Nat) : Sweep :=
  { mode := i.startMode, interval := i.interval, pendingIv := none
    timer := if i.startMode = .continuous then some (now + i.interval * 4000000) else none
    inFlight := false, number := 0, overrunCount := 0, arm := false, snapSweep := none, buffer := none, ready := false }

section
variable (s : State) (cause : Nat) (pins : StartPins) (good : Option Image)

/-- R30, R73, R93, R109, R111, R120, R152, R165: the blocks at the end of the start-up. -/
theorem State.startBlocks_startedOn :
    (s.startBlocks cause pins good).StartedOn (good.getD .factory) good.isSome s.store.nv pins := by
  refine ⟨rfl, rfl, ?_, fun p => ?_, rfl, fun m p => ?_, rfl, rfl, fun p => ?_, fun k => ?_, fun l => ?_⟩
  · cases good <;> rfl
  · simp [State.startBlocks, PointRec.fresh, PointRun.fresh_eq]
  · cases m <;> simp [State.startBlocks, Capture.filter, Capture.fresh, LineFilter.fresh]
  · simp [State.startBlocks, Purge.fresh]
  · simp [State.startBlocks, SurfaceRec.fresh]
  · simp [State.startBlocks, startWet, WetLine.classified, WetLine.fresh, classify, Config.ticksPerTenth]

/-- R137: the notice a start-up leaves. -/
theorem State.startBlocks_notices : (s.startBlocks cause pins good).notices =
    { list := [Notice.mk .startup 0 cause (if good = none then 1 else 0) 0 0 {}], overflow := false } := by
  cases good <;> rfl

/-- R30: no surface has values after a start-up. -/
theorem State.startBlocks_surface (k : Fin 16) : ((s.startBlocks cause pins good).surfaces[k]).run.ClearedIn
    (if ((good.getD .factory).surfaces[k]).enabled then .unknown else .unused) := by
  simp only [State.startBlocks, Fin.getElem_fin, Vector.getElem_ofFn]
  rfl

/-- R169: the state a start-up makes, before the sweep that follows it in CONTINUOUS. -/
def State.startedUp : State :=
  { s.startBlocks cause pins good with sweep := (good.getD .factory).startedSweep s.now }

/-- R121, R169: in CONTINUOUS the start-up ends with sweep 1. -/
theorem State.startUpOn_eq : s.startUpOn cause pins good =
    if (good.getD .factory).startMode = .continuous then (s.startedUp cause pins good).startSweep
    else s.startedUp cause pins good := by
  have mode : (s.startBlocks cause pins good).sweep.mode = (good.getD .factory).startMode := rfl
  simp only [State.startUpOn, mode]
  cases hmode : (good.getD .factory).startMode with
  | stopped =>
    have sweep : (good.getD .factory).startedSweep s.now = (s.startBlocks cause pins good).sweep := by
      simp [Image.startedSweep, State.startBlocks, Sweep.fresh, hmode]
    rw [if_neg SweepMode.noConfusion, State.startedUp, sweep]
  | continuous =>
    have sweep : (good.getD .factory).startedSweep s.now = (s.startBlocks cause pins good).sweep.loadTimer s.now := by
      simp [Image.startedSweep, State.startBlocks, Sweep.fresh, Sweep.loadTimer, Config.ticksPerSecond, hmode]
    rw [if_pos rfl, State.startedUp, sweep]
    rfl

/-- R130: what the sweep after a start-up leaves of it. -/
theorem State.startUpOn_keeps :
    (s.startUpOn cause pins good).link = (s.startedUp cause pins good).link
      ∧ (s.startUpOn cause pins good).store = (s.startedUp cause pins good).store
      ∧ (s.startUpOn cause pins good).wet = (s.startedUp cause pins good).wet
      ∧ (s.startUpOn cause pins good).power = .running
      ∧ (s.startUpOn cause pins good).sweep.number = if (good.getD .factory).startMode = .continuous then 1 else 0 := by
  have power : (s.startedUp cause pins good).power = .running := rfl
  have number : (s.startedUp cause pins good).sweep.number = 0 := rfl
  rw [s.startUpOn_eq]
  split
  · obtain ⟨-, hpower, hlink, hstore, hwet, -⟩ := (s.startedUp cause pins good).startSweep_keeps
    exact ⟨hlink, hstore, hwet, hpower.trans power, State.startSweep_number _⟩
  · exact ⟨rfl, rfl, rfl, power, number⟩

end

/-! ### Held and unpowered parts (R167, R169) -/

section
variable {s : State}

/-- R169: a part that does not run drives no output line. -/
theorem State.outDrive_of_not_running (h : s.power ≠ .running) (o : Fin 2) : s.outDrive o = false := by
  unfold State.outDrive
  split
  next hrunning => exact absurd hrunning h
  next => rfl

theorem State.heaterOn_of_not_running (h : s.power ≠ .running) (p : Fin 24) : s.heaterOn p = false := by
  unfold State.heaterOn
  split
  next hrunning => exact absurd hrunning h
  next => rfl

theorem State.driverEnabled_of_not_running (h : s.power ≠ .running) : s.driverEnabled = false := by
  unfold State.driverEnabled
  split
  next hrunning => exact absurd hrunning h
  next => rfl

end

/-- R169: POWER_ON and the release of RESETn run the start-up path. -/
theorem exec_eq_startUp {c : Instr} {pins : StartPins} {s : State} {cause : Nat}
    (h : c = .powerOn pins ∧ s.power = .off ∧ cause = 1 ∨ c = .resetPinRelease pins ∧ s.power = .held ∧ cause = 2) :
    exec c s = .next (s.startUp cause pins) := by
  obtain ⟨rfl, hpower, rfl⟩ | ⟨rfl, hpower, rfl⟩ := h
  · simp only [exec, execPowerOn, hpower]
  · simp only [exec, execResetPinRelease, hpower]

/-- Settles O50: the start-up path block by block, then the hold, the loss of supply, and RESETn without supply. -/
theorem supplyAndResetPin : Obligations.SupplyAndResetPin := by
  refine ⟨?_, fun s hrunning => ?_, ?_, fun pins s => ⟨fun hoff => ?_, fun hoff => ⟨?_, ?_⟩⟩⟩
  · rintro pins good i c cause s hc hgood rfl
    have image : s.store.startImage pins = good := (s.store.startImage_eq pins).trans hgood.symm
    have starts : exec c s = .next (s.startUpOn cause pins good) := by rw [exec_eq_startUp hc, State.startUp, image]
    obtain ⟨link, store, wet, power, number⟩ := s.startUpOn_keeps cause pins good
    refine ⟨s.startedUp cause pins good, s.startUpOn cause pins good, starts, s.startUpOn_eq cause pins good, rfl, rfl,
      s.startBlocks_startedOn cause pins good, s.startBlocks_notices cause pins good, rfl, rfl,
      s.startBlocks_surface cause pins good, rfl, rfl, fun k => ?_, fun o => ?_, link, store, wet, power, number, ?_⟩
    · simp [State.startedUp, State.startBlocks, Capture.fresh]
    · simp [State.startedUp, State.startBlocks, OutLine.fresh]
    · rw [link, ← bitRateOf_eq]
      rfl
  · have notRunning : s.hold.power ≠ .running := by rw [State.hold_power]; exact Power.noConfusion
    exact ⟨s.hold, by simp only [exec, execResetPinAssert, hrunning], rfl, State.outDrive_of_not_running notRunning,
      State.heaterOn_of_not_running notRunning, State.driverEnabled_of_not_running notRunning, rfl, rfl⟩
  · rintro s (hrunning | hheld)
    · have power : s.losePower.power = .off := rfl
      have notRunning : s.losePower.power ≠ .running := by rw [power]; exact Power.noConfusion
      refine ⟨s.losePower, by simp only [exec, execPowerLoss, hrunning], ?_, State.outDrive_of_not_running notRunning,
        State.heaterOn_of_not_running notRunning, State.driverEnabled_of_not_running notRunning, rfl, fun pins => ?_⟩
      · rw [hrunning, power, if_neg Power.noConfusion]
      · simp only [exec, execPowerOn, hrunning, power]
    · let lost : State := { s.losePower with power := .offHeld }
      have notRunning : lost.power ≠ .running := Power.noConfusion
      refine ⟨lost, by simp only [exec, execPowerLoss, hheld, lost], ?_, State.outDrive_of_not_running notRunning,
        State.heaterOn_of_not_running notRunning, State.driverEnabled_of_not_running notRunning, rfl, fun pins => ?_⟩
      · rw [hheld, if_pos rfl]
      · simp only [exec, execPowerOn, hheld, lost]
  · simp only [exec, execResetPinAssert, hoff]
  · simp only [exec, execResetPinRelease, hoff]
  · simp only [exec, execPowerOn, hoff]

end Sys2Proof.Machine
end

section
/-! The trend ring and its forecast (R47, R48), and the ranking list of a surface table (R52, R53, R56). -/

namespace Sys2Proof.Machine

/-! ### The trend ring and the forecast (R47, R48) -/

/-- R1: the ceiling of a quotient is the rational one. -/
theorem ceilDiv_eq_ceil (a : Nat) {b : Nat} (hb : 0 < b) : ⌈(a : ℚ) / b⌉ = ceilDiv a b := by
  have above : a ≤ ceilDiv a b * b := by
    have := Nat.div_add_mod (a + b - 1) b
    have := Nat.mod_lt (a + b - 1) hb
    rw [ceilDiv, Nat.mul_comm]
    omega
  have below : ceilDiv a b * b < a + b := by
    have := Nat.div_mul_le_self (a + b - 1) b
    rw [ceilDiv]
    omega
  have hb' : (0 : ℚ) < b := by exact_mod_cast hb
  rw [Int.ceil_eq_iff, lt_div_iff₀ hb', div_le_iff₀ hb', sub_mul, one_mul, sub_lt_iff_lt_add]
  exact ⟨by exact_mod_cast below, by exact_mod_cast above⟩

/-- R48: the forecast of a full ring is formed from its oldest and its newest margin. -/
theorem forecastOf_full {mid : List Int} (oldest newest : Int) (hmid : mid.length = 6) :
    forecastOf (oldest :: (mid ++ [newest])) =
      if newest ≤ 0 then some 0
      else if 1 ≤ oldest - newest then some (min 255 (ceilDiv (newest * 7).toNat (oldest - newest).toNat))
      else none := by
  have full : ¬(oldest :: (mid ++ [newest])).length < 8 := by simp [hmid]
  have last : (oldest :: (mid ++ [newest])).getLastD 0 = newest :=
    List.getLastD_concat (l := oldest :: mid) ..
  rw [forecastOf, if_neg full, last]
  rfl

/-- R47: a ring of at most 8 margins that takes one more keeps the last 8. -/
theorem appendRing_eq {ring : List Int} (h : ring.length ≤ 8) (m : Int) :
    appendRing ring m = ((ring ++ [m]).reverse.take 8).reverse := by
  rw [List.take_reverse, List.reverse_reverse, appendRing, List.length_append]
  split
  next hfull =>
    obtain hlen : ring.length = 8 := by omega
    rw [hlen, List.drop_append_of_le_length (by simp [hlen])]
    rfl
  next hroom =>
    have : ring.length + [m].length - 8 = 0 := by simp; omega
    rw [this]
    rfl

/-- Settles O27: the ring and the forecast of R47 and R48. -/
theorem forecastOfTheTrendRing : Obligations.ForecastOfTheTrendRing := by
  refine ⟨fun ring m h => appendRing_eq h m, fun ring => ⟨fun h => if_pos h, ?_⟩⟩
  rintro mid oldest newest rfl hmid
  rw [forecastOf_full oldest newest hmid]
  by_cases hnewest : newest ≤ 0
  · rw [if_pos hnewest, if_pos hnewest]
  rw [if_neg hnewest, if_neg hnewest]
  by_cases hdrop : 1 ≤ oldest - newest
  · obtain ⟨a, ha⟩ := Int.eq_ofNat_of_zero_le (a := newest * 7) (by omega)
    obtain ⟨b, hb⟩ := Int.eq_ofNat_of_zero_le (a := oldest - newest) (by omega)
    have ceil := ceilDiv_eq_ceil a (b := b) (by omega)
    rw [if_pos hdrop, if_pos hdrop, ha, hb, Int.cast_natCast, Int.cast_natCast, ceil]
    rfl
  · rw [if_neg hdrop, if_neg hdrop]

/-! ### The ranking list (R52, R53) -/

/-- R52: the entries of the surfaces that qualify, in ascending surface number. -/
def rankCandidates (sf : Vector SurfaceRec 16) : List RankEntry :=
  (List.finRange 16).filterMap fun i => rankEntryOf i sf[i]

/-- R52: those entries in the order of the list. -/
def rankOrder (sf : Vector SurfaceRec 16) : List RankEntry := (rankCandidates sf).insertionSort fun a b => a.le b

theorem rankingOf_eq (num : SweepNo) (sf : Vector SurfaceRec 16) :
    rankingOf num sf = { sweep := num, entries := (rankOrder sf).take 8 } := rfl

/-- R52, R53: what qualifies a surface, and its entry. -/
theorem rankEntryOf_eq_some_iff {i : Fin 16} {r : SurfaceRec} {e : RankEntry} :
    rankEntryOf i r = some e ↔ ∃ v, r.run.values = some v ∧ r.cfg.enabled = true ∧ r.run.state ≠ .unknown
      ∧ r.run.state ≠ .unused ∧ e = { surface := i, state := r.run.state, margin := v.margin, held := !r.run.live } := by
  unfold rankEntryOf
  cases r.run.values with
  | none => simp
  | some v =>
    simp only [Bool.and_eq_true, decide_eq_true_eq, Option.ite_none_right_eq_some, Option.some.injEq, exists_eq_left',
      and_assoc, eq_comm (a := e)]

section
variable {sf : Vector SurfaceRec 16}

theorem mem_rankOrder {e : RankEntry} : e ∈ rankOrder sf ↔ rankEntryOf e.surface sf[e.surface] = some e := by
  rw [rankOrder, (List.perm_insertionSort _ _).mem_iff, rankCandidates, List.mem_filterMap]
  constructor
  · rintro ⟨i, -, h⟩
    obtain ⟨v, -, -, -, -, rfl⟩ := rankEntryOf_eq_some_iff.1 h
    exact h
  · exact fun h => ⟨e.surface, List.mem_finRange _, h⟩

/-- R53: no surface has two entries. -/
theorem rankOrder_pairwise_ne : (rankOrder sf).Pairwise fun a b => a.surface ≠ b.surface := by
  have candidates : (rankCandidates sf).Pairwise fun a b => a.surface ≠ b.surface := by
    refine List.pairwise_filterMap.2 ((List.nodup_finRange 16).imp fun {i j} hne a ha b hb => ?_)
    obtain ⟨_, -, -, -, -, rfl⟩ := rankEntryOf_eq_some_iff.1 ha
    obtain ⟨_, -, -, -, -, rfl⟩ := rankEntryOf_eq_some_iff.1 hb
    exact hne
  exact (List.perm_insertionSort _ _).symm.pairwise candidates fun h => h.symm

theorem RankEntry.le_iff (a b : RankEntry) :
    a.le b = true ↔ a.margin < b.margin ∨ (a.margin = b.margin ∧ a.surface ≤ b.surface) := by
  simp [RankEntry.le]

/-- R52: the order is strict, since no two entries name the same surface. -/
theorem rankOrder_pairwise_before : (rankOrder sf).Pairwise RankEntry.before := by
  have total : Std.Total fun a b : RankEntry => (a.le b : Prop) := ⟨fun a b => by
    simp only [RankEntry.le_iff]; omega⟩
  have trans : IsTrans RankEntry fun a b => (a.le b : Prop) := ⟨fun a b c => by
    simp only [RankEntry.le_iff]; omega⟩
  refine ((List.pairwise_insertionSort _ _).and rankOrder_pairwise_ne).imp fun {a b} ⟨hle, hne⟩ => ?_
  obtain h | ⟨hmargin, hsurface⟩ := (a.le_iff b).1 hle
  · exact .inl h
  · exact .inr ⟨hmargin, lt_of_le_of_ne hsurface hne⟩

/-- Settles O28: the list is the first eight entries of the strict order of those that qualify. -/
theorem rankingTakesTheLowestMargins : Obligations.RankingTakesTheLowestMargins := by
  intro num sf
  rw [rankingOf_eq]
  refine ⟨rfl, List.length_take_le 8 _, rankOrder_pairwise_before.sublist (List.take_sublist 8 _), fun e he => ?_,
    fun i v henabled hvalues hknown hused => ?_⟩
  · obtain ⟨v, hvalues, henabled, hknown, hused, heq⟩ :=
      rankEntryOf_eq_some_iff.1 (mem_rankOrder.1 (List.mem_of_mem_take he))
    have hstate : e.state = (sf[e.surface]).run.state := congrArg RankEntry.state heq
    have hmargin : e.margin = v.margin := congrArg RankEntry.margin heq
    exact ⟨henabled, hstate, hstate ▸ hknown, hstate ▸ hused, by rw [hvalues, hmargin]; rfl, congrArg RankEntry.held heq⟩
  · let entry : RankEntry :=
      { surface := i, state := (sf[i]).run.state, margin := v.margin, held := !(sf[i]).run.live }
    have listed : entry ∈ rankOrder sf :=
      mem_rankOrder.2 (rankEntryOf_eq_some_iff.2 ⟨v, hvalues, henabled, hknown, hused, rfl⟩)
    have split := List.take_append_drop 8 (rankOrder sf)
    rw [← split, List.mem_append] at listed
    refine listed.imp (fun h => ⟨entry, h, rfl⟩) fun hdropped => ⟨?_, fun e he => ?_⟩
    · have := List.length_pos_of_mem hdropped
      rw [List.length_drop] at this
      exact List.length_take_of_le (by omega)
    · have before := rankOrder_pairwise_before (sf := sf)
      rw [← split, List.pairwise_append] at before
      obtain ⟨-, -, across⟩ := before
      exact across e he entry hdropped

end

/-- R56: the surface evaluator's answer to RANK_READ. -/
theorem rankReadRequest_eq (p : List Byte) (s : State) : rankReadRequest p s =
    if p.length = 0 then
      s.accept (u8 s.ranking.entries.length ++ u32 s.ranking.sweep.toNat ++ s.ranking.entries.flatMap rankRecord)
    else s.refuse .badLength := by
  rw [rankReadRequest, ite_not]

/-- Settles O29: the answer under the part's own address; a broadcast of that kind is dropped with its bytes. -/
theorem rankReadReply : Obligations.RankReadReply := by
  refine fun p s => ⟨fun htakes => ?_, fun gap hp hgap hreceives hhunt => ?_⟩
  · refine congrArg _ ((State.answer_of_takes htakes _ _).trans ?_)
    rw [rankReadRequest_eq]
    split <;> rfl
  · obtain ⟨buffer, h⟩ := runAll_broadcastFrame hreceives hgap hhunt 0x23 hp
    have receives : (s.collecting buffer).receives = true := by
      obtain ⟨hrun, -⟩ := (Bool.and_eq_true _ _).mp hreceives
      exact (Bool.and_eq_true _ _).mpr ⟨hrun, rfl⟩
    rw [h]
    refine congrArg _ (?_ : (s.collecting buffer).dropFrame = _)
    rw [State.dropFrame, if_pos receives]
    rfl

end Sys2Proof.Machine
end

section
/-! A law about the surfaces, the ranking list and the wet lines that the events of these blocks keep (`KeptByEvents`) is kept by
every step. -/

namespace Sys2Proof.Machine

/-! ### The data such a law speaks of -/

/-- The surface table, the ranking list, the wet lines and the wet-line configuration in force. -/
structure Watched where
  surfaces : Vector SurfaceRec 16
  ranking  : Ranking
  wet      : Vector WetLine 8
  wetCfg   : WetCfg

/-- The watched data of a state. -/
def State.watched (s : State) : Watched :=
  { surfaces := s.surfaces, ranking := s.ranking, wet := s.wet, wetCfg := s.store.written.wet }

/-- A law about the watched data that the events which change them keep. -/
structure KeptByEvents (P : State → Prop) : Prop where
  frame {s t : State} : P s → t.watched = s.watched → P t
  evaluated {s : State} : P s → P s.evaluateSurfaces
  adopted {s : State} : P s → P s.adoptSurfaces
  rawChanged {s : State} (l : Fin 8) (v : WetLevel) : P s → P (s.rawChange l v)
  debounced {s : State} (l : Fin 8) : (s.wet[l]).timer ≠ none → P s → P (s.debounceExpires l)
  latchCleared {s : State} (l : Fin 8) : P s → P (s.clearLatch l)
  stored {s : State} (store : Store) : P s → P (State.actOnLines { s with store := store } s.store.written.wet.enabled)
  restarted {s : State} : P s → P s.restartBlocks
  started (s : State) (cause : Nat) (pins : StartPins) (good : Option Image) : P (s.startBlocks cause pins good)
  lost (s : State) : P s.losePower

theorem State.takeSnapshot_watched (s : State) : s.takeSnapshot.watched = s.watched := by
  unfold State.takeSnapshot
  split <;> rfl

@[simp] theorem State.evalOutputs_watched (s : State) : s.evalOutputs.watched = s.watched := rfl

theorem State.completeSweep_watched (s : State) : s.completeSweep.watched = s.evaluateSurfaces.watched := by
  rw [State.completeSweep_eq, State.evalOutputs_watched, State.takeSnapshot_watched]
  simp only [State.evaluated, State.watched]

theorem State.serve_watched (s : State) : s.serve.1.watched = s.watched := by
  simp only [State.watched, State.serve_keeps]

theorem State.arrivePurge_watched (s : State) (p : Fin 24) (o : PurgeOrigin) : (s.arrivePurge p o).watched = s.watched := by
  simp only [State.watched, State.arrivePurge_keeps]

theorem State.convert_watched (s : State) (p : Fin 24) : (s.convert p).watched = s.watched := by
  simp only [State.watched, State.convert_keeps]

theorem State.adoptPoints_watched (s : State) : s.adoptPoints.watched = s.watched := by
  simp only [State.watched, State.adoptPoints_keeps]

theorem State.adoptCapture_watched (s : State) : s.adoptCapture.watched = s.watched := rfl

theorem State.buildJobs_watched (s : State) : s.buildJobs.watched = s.watched := rfl

theorem State.elapseTo_watched (s : State) (t : Nat) : (s.elapseTo t).watched = s.watched := rfl

theorem State.setPurge_watched (s : State) (g : Purge) : ({ s with purge := g } : State).watched = s.watched := rfl

theorem State.periodStarts_watched (s : State) (g : Grant) : (s.periodStarts g).watched = s.watched := by
  unfold State.periodStarts
  dsimp only
  split
  · exact (State.setPurge_watched _ _).trans (State.elapseTo_watched _ _)
  · rfl

theorem State.onTimeEnds_watched (s : State) (g : Grant) : (s.onTimeEnds g).watched = s.watched := by
  unfold State.onTimeEnds
  dsimp only
  split
  · exact (State.setPurge_watched _ _).trans (State.elapseTo_watched _ _)
  · rfl

theorem State.writeStartMode_watched (s : State) (m : SweepMode) : (s.writeStartMode m).watched = s.watched := by
  unfold State.writeStartMode
  split <;> rfl

theorem State.writeInterval_watched (s : State) (v : Nat) : (s.writeInterval v).watched = s.watched := by
  unfold State.writeInterval
  split <;> rfl

theorem State.stop_watched (s : State) : s.stop.watched = s.watched := by
  unfold State.stop
  split
  · rfl
  · exact State.writeStartMode_watched _ _

theorem State.dropFrame_watched (s : State) : s.dropFrame.watched = s.watched := by
  unfold State.dropFrame
  split <;> rfl

theorem State.huntByte_watched (s : State) (b : Byte) : (s.huntByte b).watched = s.watched := by
  unfold State.huntByte
  split <;> rfl

theorem State.tick_watched (s : State) : s.tick.watched = s.watched := by
  unfold State.tick
  split <;> rfl

/-! ### Requests that are checked (R158) -/

section
variable {P : State → Prop} {s : State} {c : Prop} [Decidable c] {st : Status} {r : State × Answer}

/-- A request that is refused under `c` has only its other cases to look at. -/
theorem kept_unless (h : P s) (hr : ¬c → P r.1) : P (if c then s.refuse st else r).1 := by
  split
  · exact h
  · exact hr (by assumption)

/-- A request that is refused but under `c` has only that case to look at. -/
theorem kept_onlyIf (h : P s) (hr : c → P r.1) : P (if c then r else s.refuse st).1 := by
  split
  · exact hr (by assumption)
  · exact h

end

namespace KeptByEvents
variable {P : State → Prop} {s : State} (k : KeptByEvents P)
include k

/-! ### Updates that leave the watched data alone -/

theorem elapsed (h : P s) (n : Nat) : P (s.elapseTo n) := k.frame h rfl

theorem setSweep (h : P s) (w : Sweep) : P { s with sweep := w } := k.frame h rfl

theorem outputsActed (h : P s) : P s.evalOutputs := k.frame h rfl

/-! ### Sweeps (R83, R89, R122, R125, R130, R131) -/

theorem completeSweep (h : P s) : P s.completeSweep := k.frame (k.evaluated h) s.completeSweep_watched

theorem settle (h : P s) : P s.settle := by
  have given : P s.giveJobs := k.frame h rfl
  obtain ⟨e, -⟩ | ⟨e, -⟩ := s.settle_cases <;> rw [e]
  · exact k.completeSweep given
  · exact given

theorem startSweep (h : P s) : P s.startSweep := by
  have begun : P s.begun := k.frame h rfl
  have adopted := k.adopted (k.frame begun s.begun.adoptPoints_watched)
  exact k.settle (k.frame adopted ((State.buildJobs_watched _).trans (State.adoptCapture_watched _)))

theorem sweepTimerExpires (h : P s) (t : Nat) : P (s.sweepTimerExpires t) := by
  unfold State.sweepTimerExpires
  dsimp only
  split
  · exact k.frame h rfl
  · exact k.startSweep (k.setSweep h _)

theorem run (h : P s) : P s.run := by
  unfold State.run
  split
  · exact h
  · dsimp only
    have loaded : P { s with sweep := ({ s.sweep with mode := .continuous }).takePending.loadTimer s.now } := k.frame h rfl
    have written := k.frame loaded (State.writeStartMode_watched _ .continuous)
    split
    · exact written
    · exact k.startSweep written

/-! ### Capture and purges (R79, R84, R85, R88, R103, R106) -/

theorem endJob (h : P s) (u : Fin 4) (j : Job) (o : JobOutcome) : P (s.endJob u j o) := by
  unfold State.endJob
  dsimp only
  refine k.settle ?_
  split
  · exact k.frame h rfl
  · exact k.frame h ((State.convert_watched _ _).trans rfl)

theorem risingEdge (h : P s) (port : Fin 24) (line : PinLine) (rests : Bool) : P (s.risingEdge port line rests) := by
  obtain e | ⟨_, _, _, _, _, _, _, _, e⟩ | ⟨_, _, _, _, _, _, _, _, _, e⟩ | ⟨_, _, _, _, _, _, _, _, _, e⟩ :=
    s.risingEdge_cases port line rests <;> rw [e]
  · exact h
  · exact k.frame h rfl
  · exact k.frame h rfl
  · exact k.endJob h _ _ _

theorem sampleLine (h : P s) (port : Fin 24) (line : PinLine) (v : PinLevel) (n : Nat) : P (s.sampleLine port line v n) := by
  let f := s.capture.filter line port
  have sampled : P ((s.elapseTo (f.endsAt s.now v n)).setFilter line port (f.sample s.now v n)) := k.frame h rfl
  unfold State.sampleLine
  dsimp only
  split
  · exact k.risingEdge sampled _ _ _
  · exact sampled

theorem windowExpires (h : P s) (port : Fin 24) (line : PinLine) : P (s.windowExpires port line) := by
  unfold State.windowExpires
  split
  · exact h
  · split
    · exact h
    · exact k.endJob (k.elapsed h _) _ _ _
    · exact k.endJob (k.elapsed h _) _ _ _

theorem manualPurge (h : P s) (p : Fin 24) : P (s.manualPurge p) :=
  k.settle (k.frame h ((State.arrivePurge_watched _ p .manual).trans rfl))

theorem purgeExpires (h : P s) (p : Fin 24) : P (s.purgeExpires p) :=
  k.settle (k.frame h ((State.serve_watched _).trans rfl))

/-! ### RESTART and start-up (R162, R169) -/

theorem restart (h : P s) : P s.restart := by
  unfold State.restart
  dsimp only
  split
  · exact k.restarted h
  · exact k.startSweep (k.setSweep (k.restarted h) _)

theorem restartOwn (h : P s) (p : List Byte) : P (s.restartOwn p) := by
  have replied (a : Answer) : P (s.postReply 0x32 a) := k.frame h rfl
  unfold State.restartOwn
  dsimp only
  split
  · split
    · exact k.restart (replied _)
    · exact replied _
  · exact h

theorem restartBroadcast (h : P s) (p : List Byte) : P (s.restartBroadcast p) := by
  have hunted : P s.hunt := k.frame h rfl
  unfold State.restartBroadcast
  split
  · split
    · exact k.restart hunted
    · exact hunted
  · exact h

theorem startUp (s : State) (cause : Nat) (pins : StartPins) : P (s.startUp cause pins) := by
  have started := k.started s cause pins (s.store.startImage pins)
  unfold State.startUp State.startUpOn
  dsimp only
  split
  · exact started
  · exact k.startSweep (k.setSweep started _)

/-! ### Requests (R155, R157) -/

theorem answer {handle : State → State × Answer} (h : P s) (hhandle : P (handle s).1) (kind : Byte) :
    P (s.answer kind handle) := by
  cases htakes : s.takesOwn with
  | true => rw [State.answer_of_takes htakes]; exact k.frame hhandle rfl
  | false => rwa [State.answer_of_not htakes]

theorem broadcast {handle : State → State × Answer} (h : P s) (hhandle : P (handle s).1) : P (s.broadcast handle) := by
  cases hreceives : s.receives with
  | true => rw [State.broadcast_of_receives hreceives]; exact k.frame hhandle rfl
  | false => rwa [State.broadcast_of_not hreceives]

theorem request {handle : State → State × Answer} (h : P s) (hhandle : P (handle s).1) (dest : Dest) (kind : Byte) :
    P (s.request dest kind handle) := by
  cases dest with
  | own => exact k.answer h hhandle kind
  | broadcast => exact k.broadcast h hhandle

theorem pointWriteRequest (h : P s) (p : List Byte) : P (pointWriteRequest p s).1 := by
  refine kept_unless h fun _ => kept_unless h fun _ => kept_unless h fun _ => ?_
  split
  · exact h
  · exact kept_unless h fun _ => k.frame h rfl

theorem surfaceWriteRequest (h : P s) (p : List Byte) : P (surfaceWriteRequest p s).1 := by
  refine kept_unless h fun _ => kept_unless h fun _ => kept_unless h fun _ => ?_
  split
  · exact h
  · exact kept_onlyIf h fun _ => k.frame h rfl

theorem globalWriteRequest (h : P s) (p : List Byte) : P (globalWriteRequest p s).1 :=
  kept_unless h fun _ => kept_unless h fun _ => kept_onlyIf h fun _ => k.frame h rfl

theorem outputWriteRequest (h : P s) (p : List Byte) : P (outputWriteRequest p s).1 := by
  refine kept_unless h fun _ => kept_unless h fun _ => kept_unless h fun _ => ?_
  split
  · exact kept_onlyIf h fun _ => k.frame h rfl
  · exact h

theorem wetlineWriteRequest (h : P s) (p : List Byte) : P (wetlineWriteRequest p s).1 :=
  kept_unless h fun _ => kept_unless h fun _ => kept_onlyIf h fun _ => k.stored _ h

theorem wetAckRequest (h : P s) (p : List Byte) : P (wetAckRequest p s).1 :=
  kept_unless h fun _ => kept_unless h fun _ => kept_unless h fun _ => k.latchCleared _ h

theorem purgeRequest (h : P s) (p : List Byte) : P (purgeRequest p s).1 :=
  kept_unless h fun _ => kept_unless h fun _ => kept_onlyIf h fun _ => k.manualPurge h _

theorem loadImage (h : P s) (i : Image) : P (s.loadImage i) :=
  k.setSweep (k.outputsActed (k.outputsActed (k.stored { s.store with written := i, dirty := false } h))) _

theorem loadRequest (h : P s) (p : List Byte) : P (loadRequest p s).1 := by
  refine kept_unless h fun _ => kept_unless h fun _ => ?_
  split
  · exact h
  · exact k.loadImage h _

omit k in
theorem pointReadRequest (h : P s) (p : List Byte) : P (pointReadRequest p s).1 := by
  refine kept_unless h fun _ => kept_unless h fun _ => ?_
  dsimp only
  split <;> exact h

omit k in
theorem surfaceReadRequest (h : P s) (p : List Byte) : P (surfaceReadRequest p s).1 := by
  refine kept_unless h fun _ => kept_unless h fun _ => ?_
  dsimp only
  split <;> exact h

omit k in
theorem snapReadRequest (h : P s) (p : List Byte) : P (snapReadRequest p s).1 := by
  refine kept_unless h fun _ => kept_unless h fun _ => ?_
  split <;> exact h

theorem sweepRunRequest (h : P s) (p : List Byte) : P (sweepRunRequest p s).1 :=
  kept_unless h fun _ => kept_unless h fun _ => k.run h

theorem sweepStopRequest (h : P s) (p : List Byte) : P (sweepStopRequest p s).1 :=
  kept_unless h fun _ => kept_unless h fun _ => k.frame h s.stop_watched

theorem sweepOnceRequest (h : P s) (p : List Byte) : P (sweepOnceRequest p s).1 :=
  kept_unless h fun _ => kept_unless h fun _ => kept_unless h fun _ => k.startSweep h

theorem sweepIntervalRequest (h : P s) (p : List Byte) : P (sweepIntervalRequest p s).1 :=
  kept_unless h fun _ => kept_unless h fun _ => k.frame h ((State.writeInterval_watched _ _).trans rfl)

theorem sweepRequest (h : P s) (p : List Byte) : P (sweepRequest p s).1 := by
  unfold Machine.sweepRequest
  split
  · exact h
  · split
    · exact k.sweepRunRequest h _
    · exact k.sweepStopRequest h _
    · exact k.sweepOnceRequest h _
    · exact k.sweepIntervalRequest h _
    · exact kept_unless h fun _ => h

theorem snapArmRequest (h : P s) (p : List Byte) : P (snapArmRequest p s).1 := kept_unless h fun _ => k.frame h rfl

theorem noticeDropRequest (h : P s) (p : List Byte) : P (noticeDropRequest p s).1 := kept_unless h fun _ => k.frame h rfl

theorem saveRequest (h : P s) (p : List Byte) : P (saveRequest p s).1 :=
  kept_unless h fun _ => kept_unless h fun _ => k.frame h rfl

/-- R155: a request of any kind keeps the law. -/
theorem dispatchOwn (h : P s) (kind : Byte) (p : List Byte) : P (s.dispatchOwn kind p) := by
  unfold State.dispatchOwn
  split
  · exact k.answer h (kept_unless h fun _ => h) kind
  · exact k.answer h (kept_unless h fun _ => h) kind
  · exact k.answer h (k.pointWriteRequest h p) kind
  · exact k.answer h (pointReadRequest h p) kind
  · exact k.answer h (k.surfaceWriteRequest h p) kind
  · exact k.answer h (surfaceReadRequest h p) kind
  · exact k.answer h (k.globalWriteRequest h p) kind
  · exact k.answer h (kept_unless h fun _ => h) kind
  · exact k.answer h (k.outputWriteRequest h p) kind
  · exact k.answer h (kept_unless h fun _ => kept_unless h fun _ => h) kind
  · exact k.answer h (k.wetlineWriteRequest h p) kind
  · exact k.answer h (kept_unless h fun _ => h) kind
  · exact k.answer h (k.sweepRequest h p) kind
  · exact k.answer h (kept_unless h fun _ => h) kind
  · exact k.answer h (k.noticeDropRequest h p) kind
  · exact k.answer h (kept_unless h fun _ => h) kind
  · exact k.answer h (k.snapArmRequest h p) kind
  · exact k.answer h (snapReadRequest h p) kind
  · exact k.answer h (k.wetAckRequest h p) kind
  · exact k.answer h (k.purgeRequest h p) kind
  · exact k.answer h (k.saveRequest h p) kind
  · exact k.answer h (k.loadRequest h p) kind
  · exact k.restartOwn h p
  · exact k.answer h h kind

theorem dispatchBroadcast (h : P s) (kind : Byte) (p : List Byte) : P (s.dispatchBroadcast kind p) := by
  unfold State.dispatchBroadcast
  split
  · exact k.broadcast h (k.sweepRequest h p)
  · exact k.broadcast h (k.snapArmRequest h p)
  · exact k.restartBroadcast h p
  · exact k.frame h s.dropFrame_watched

theorem judgeFrame (h : P s) (buffer : List Byte) : P (s.judgeFrame buffer) := by
  unfold State.judgeFrame
  dsimp only
  split
  · exact k.frame h s.dropFrame_watched
  · split
    · exact k.dispatchBroadcast h _ _
    · split
      · exact k.dispatchOwn h _ _
      · exact k.frame h s.dropFrame_watched

theorem frameByte (h : P s) (b : Byte) : P (s.frameByte b) := by
  unfold State.frameByte
  dsimp only
  split
  · exact k.frame h rfl
  · split
    · exact k.judgeFrame h _
    · exact k.frame h rfl

theorem receiveByte (h : P s) (b : Byte) (silence : Nat) : P (s.receiveByte b silence) := by
  unfold State.receiveByte
  split
  · exact h
  · exact k.frame h (s.huntByte_watched b)
  · split
    · exact k.frame h (s.huntByte_watched b)
    · exact k.frameByte h b

end KeptByEvents

/-! ### Commands and steps -/

/-- An outcome that is a next state meets `P`. -/
def Meets (P : State → Prop) : Host.Outcome State Fault Refusal → Prop
  | .next t => P t
  | .fault _ => True
  | .refused _ => True

namespace KeptByEvents
variable {P : State → Prop} {s : State} (k : KeptByEvents P)
include k

theorem execPowerOn (pins : StartPins) (h : P s) : Meets P (execPowerOn pins s) := by
  unfold Machine.execPowerOn
  split
  · exact k.startUp _ _ _
  · exact k.frame h rfl
  · exact k.frame (k.lost s) rfl
  · exact k.startUp _ _ _

theorem execResetPinAssert (h : P s) : Meets P (execResetPinAssert s) := by
  unfold Machine.execResetPinAssert
  split
  · exact k.frame h rfl
  · exact k.frame h rfl
  · exact h
  · exact h

theorem execResetPinRelease (pins : StartPins) (h : P s) : Meets P (execResetPinRelease pins s) := by
  unfold Machine.execResetPinRelease
  split
  · exact k.startUp _ _ _
  · exact k.frame h rfl
  · exact h
  · exact h

theorem execPowerLoss (h : P s) : Meets P (execPowerLoss s) := by
  unfold Machine.execPowerLoss
  split
  · exact h
  · exact h
  · exact k.frame (k.lost s) rfl
  · exact k.lost s

theorem execRestart (dest : Dest) (p : List Byte) (h : P s) : Meets P (execRestart dest p s) := by
  cases dest with
  | own => exact k.restartOwn h p
  | broadcast => exact k.restartBroadcast h p

theorem execReplyStart (h : P s) : Meets P (execReplyStart s) := by
  unfold Machine.execReplyStart
  split <;> exact k.frame h rfl

theorem execReplyEnd (h : P s) : Meets P (execReplyEnd s) := by
  unfold Machine.execReplyEnd
  split <;> exact k.frame h rfl

theorem execSecondsCount (h : P s) : Meets P (execSecondsCount s) := by
  unfold Machine.execSecondsCount
  split <;> exact k.frame h rfl

theorem execByteReceived (b : Byte) (silence : Nat) (h : P s) : Meets P (execByteReceived b silence s) := by
  unfold Machine.execByteReceived
  split
  · exact k.receiveByte h b silence
  · exact h

theorem execSaveComplete (verified : Bool) (h : P s) : Meets P (execSaveComplete verified s) := by
  unfold Machine.execSaveComplete
  split
  · refine k.frame h ?_
    cases verified <;> rfl
  · exact h

theorem execSweepTimerExpiry (h : P s) : Meets P (execSweepTimerExpiry s) := by
  unfold Machine.execSweepTimerExpiry
  split
  · exact k.sweepTimerExpires (k.elapsed h _) _
  · exact h

theorem execHeaterPeriodStart (p : Fin 24) (h : P s) : Meets P (execHeaterPeriodStart p s) := by
  unfold Machine.execHeaterPeriodStart
  split
  · exact k.frame h (s.periodStarts_watched _)
  · exact h

theorem execHeaterOnTimeEnd (p : Fin 24) (h : P s) : Meets P (execHeaterOnTimeEnd p s) := by
  unfold Machine.execHeaterOnTimeEnd
  split
  · exact k.frame h (s.onTimeEnds_watched _)
  · exact h

theorem execPurgeTimerExpiry (p : Fin 24) (h : P s) : Meets P (execPurgeTimerExpiry p s) := by
  unfold Machine.execPurgeTimerExpiry
  split
  · exact k.purgeExpires (k.elapsed h _) p
  · exact h

theorem execRecoveryTimerExpiry (p : Fin 24) (h : P s) : Meets P (execRecoveryTimerExpiry p s) := by
  unfold Machine.execRecoveryTimerExpiry
  split <;> exact k.frame h rfl

theorem execRawLevelChange (l : Fin 8) (ohms : Nat) (h : P s) : Meets P (execRawLevelChange l ohms s) := by
  unfold Machine.execRawLevelChange
  split
  · exact k.rawChanged l _ h
  · exact h

theorem execDebounceExpiry (l : Fin 8) (h : P s) : Meets P (execDebounceExpiry l s) := by
  unfold Machine.execDebounceExpiry
  split
  next t _ htimer => exact k.debounced (s := s.elapseTo t) l (fun hnone => by cases htimer.symm.trans hnone) (k.frame h rfl)
  next => exact h

theorem execMinOnExpiry (o : Fin 2) (h : P s) : Meets P (execMinOnExpiry o s) := by
  unfold Machine.execMinOnExpiry
  split <;> exact k.frame h rfl

theorem execMinOffExpiry (o : Fin 2) (h : P s) : Meets P (execMinOffExpiry o s) := by
  unfold Machine.execMinOffExpiry
  split <;> exact k.frame h rfl

theorem execStartEdge (port : Fin 24) (line : PinLine) (h : P s) : Meets P (execStartEdge port line s) := by
  unfold Machine.execStartEdge
  split
  · exact k.sampleLine h port line .high _
  · exact h

theorem execCaptureJobComplete (port : Fin 24) (line : PinLine) (total high : Nat) (h : P s) :
    Meets P (execCaptureJobComplete port line total high s) := by
  have elapsed : P (s.elapse (s.ticksTo port line total)) := k.frame h rfl
  unfold Machine.execCaptureJobComplete
  dsimp only
  split
  · exact k.sampleLine elapsed port line .high _
  · exact h

theorem execCaptureWindowExpiry (port : Fin 24) (line : PinLine) (h : P s) :
    Meets P (execCaptureWindowExpiry port line s) := by
  unfold Machine.execCaptureWindowExpiry
  split
  · exact k.windowExpires h port line
  · exact h

theorem execFilteredLevelChange (port : Fin 24) (line : PinLine) (samples : SampleRun) (h : P s) :
    Meets P (execFilteredLevelChange port line samples s) := by
  unfold Machine.execFilteredLevelChange
  split
  · exact k.sampleLine h port line _ _
  · exact h

/-- Every command keeps the law; a request under the part's own address keeps it whatever its kind. -/
theorem exec (i : Instr) (h : P s) : Meets P (exec i s) := by
  cases i with
  | powerOn pins => exact k.execPowerOn pins h
  | resetPinAssert => exact k.execResetPinAssert h
  | resetPinRelease pins => exact k.execResetPinRelease pins h
  | ident p => exact k.dispatchOwn h 0x01 p
  | status p => exact k.dispatchOwn h 0x02 p
  | pointWrite p => exact k.dispatchOwn h 0x10 p
  | pointRead p => exact k.dispatchOwn h 0x11 p
  | surfaceWrite p => exact k.dispatchOwn h 0x12 p
  | surfaceRead p => exact k.dispatchOwn h 0x13 p
  | globalWrite p => exact k.dispatchOwn h 0x14 p
  | globalRead p => exact k.dispatchOwn h 0x15 p
  | outputWrite p => exact k.dispatchOwn h 0x16 p
  | outputRead p => exact k.dispatchOwn h 0x17 p
  | wetlineWrite p => exact k.dispatchOwn h 0x18 p
  | wetlineRead p => exact k.dispatchOwn h 0x19 p
  | sweepRun dest r => exact k.request h (k.sweepRunRequest h r) dest _
  | sweepStop dest r => exact k.request h (k.sweepStopRequest h r) dest _
  | sweepOnce dest r => exact k.request h (k.sweepOnceRequest h r) dest _
  | sweepInterval dest r => exact k.request h (k.sweepIntervalRequest h r) dest _
  | noticeRead p => exact k.dispatchOwn h 0x21 p
  | noticeDrop p => exact k.dispatchOwn h 0x22 p
  | rankRead p => exact k.dispatchOwn h 0x23 p
  | snapArm dest p => exact k.request h (k.snapArmRequest h p) dest _
  | snapRead p => exact k.dispatchOwn h 0x25 p
  | wetAck p => exact k.dispatchOwn h 0x26 p
  | purge p => exact k.dispatchOwn h 0x27 p
  | save p => exact k.dispatchOwn h 0x30 p
  | load p => exact k.dispatchOwn h 0x31 p
  | restart dest p => exact k.execRestart dest p h
  | unknownKind kind p => exact k.dispatchOwn h kind p
  | frameDiscard cause => exact k.frame h s.dropFrame_watched
  | frameAbandon cause => exact k.frame h s.dropFrame_watched
  | replyStart => exact k.execReplyStart h
  | replyEnd => exact k.execReplyEnd h
  | secondsCount => exact k.execSecondsCount h
  | sweepTimerExpiry => exact k.execSweepTimerExpiry h
  | startEdge port line => exact k.execStartEdge port line h
  | captureJobComplete port line total high => exact k.execCaptureJobComplete port line total high h
  | captureWindowExpiry port line => exact k.execCaptureWindowExpiry port line h
  | heaterPeriodStart port => exact k.execHeaterPeriodStart port h
  | heaterOnTimeEnd port => exact k.execHeaterOnTimeEnd port h
  | purgeTimerExpiry port => exact k.execPurgeTimerExpiry port h
  | recoveryTimerExpiry port => exact k.execRecoveryTimerExpiry port h
  | rawLevelChange l ohms => exact k.execRawLevelChange l ohms h
  | debounceExpiry l => exact k.execDebounceExpiry l h
  | minOnExpiry o => exact k.execMinOnExpiry o h
  | minOffExpiry o => exact k.execMinOffExpiry o h
  | saveComplete verified => exact k.execSaveComplete verified h
  | byteReceived b silence => exact k.execByteReceived b silence h
  | filteredLevelChange port line samples => exact k.execFilteredLevelChange port line samples h
  | powerLoss => exact k.execPowerLoss h

/-- A law that the events keep is kept by every step. -/
theorem step {t : State} (h : P s) (hstep : step s = .next t) : P t := by
  have met : Meets P (Machine.step s) := by
    unfold Machine.step
    split
    · exact k.frame h s.tick_watched
    · exact k.exec _ (k.frame h rfl)
  rwa [hstep] at met

end KeptByEvents

/-! ### Latch events and lines acted on (R41, R43, R118) -/

section
variable {P : State → Prop}

/-- What a latch event keeps when it keeps a revision and an evaluation of the outputs. -/
theorem State.latchEvent_induct {s : State} {f : SurfaceRec → SurfaceRec}
    (hrevised : P (s.reviseSurfaces (Vector.ofFn fun i => f s.surfaces[i]) fun _ => false))
    (hacted : ∀ u : State, P u → P u.evalOutputs) : P (s.latchEvent f) := by
  obtain e | e := s.latchEvent_cases f <;> rw [e]
  · exact hacted _ hrevised
  · exact hrevised

/-- R118, R168: what the monitor keeps at each line it keeps at all of them. -/
theorem State.actOnLines_induct (hline : ∀ (u : State) (l : Fin 8), P u → P (u.enabledChanged l)) {s : State} (h : P s)
    (old : Vector Bool 8) : P (s.actOnLines old) := by
  unfold State.actOnLines
  induction List.finRange 8 generalizing s with
  | nil => exact h
  | cons l ls ih =>
    rw [List.foldl_cons]
    split
    · exact ih h
    · exact ih (hline s l h)

end

end Sys2Proof.Machine
end

section
/-! Every step keeps the law of the ranking list (R52 to R54). -/

namespace Sys2Proof.Machine

/-! ### Entries (R54) -/

/-- R54: an entry that stays keeps its surface and its margin, and takes the state its surface has. -/
theorem RankEntry.follow_eq_some {e e' : RankEntry} {old new : RiskState} {cleared : Bool}
    (h : e.follow old new cleared = some e') :
    cleared = false ∧ e'.surface = e.surface ∧ e'.margin = e.margin
      ∧ (old = new ∧ e'.state = e.state ∨ e'.state = new ∧ new ≠ .unknown ∧ new ≠ .unused) := by
  unfold RankEntry.follow at h
  split at h
  · cases h
  next hkept =>
    have hkept : cleared = false := by simpa using hkept
    split at h
    next hsame =>
      cases h
      exact ⟨hkept, rfl, rfl, .inl ⟨hsame, rfl⟩⟩
    next =>
      split at h
      · cases h
      next hlisted =>
        cases h
        simp only [Bool.or_eq_true, decide_eq_true_eq, not_or] at hlisted
        exact ⟨hkept, rfl, rfl, .inr ⟨rfl, hlisted⟩⟩

/-- R54: an entry agrees with the surface table. -/
def RankEntry.Agrees (sf : Vector SurfaceRec 16) (e : RankEntry) : Prop :=
  e.state ≠ .unused ∧ e.state ≠ .unknown ∧ (sf[e.surface]).run.state = e.state
    ∧ (sf[e.surface]).run.values.map Values.margin = some e.margin

theorem State.rankingLaw_iff (s : State) : s.RankingLaw ↔
    s.ranking.entries.length ≤ 8 ∧ s.ranking.entries.Pairwise RankEntry.before
      ∧ (s.ranking.entries.map RankEntry.surface).Nodup ∧ ∀ e ∈ s.ranking.entries, e.Agrees s.surfaces := Iff.rfl

/-- A law about the ranking list and the surfaces is one about the watched data. -/
theorem State.RankingLaw.frame {s t : State} (h : s.RankingLaw) (hw : t.watched = s.watched) : t.RankingLaw := by
  have hsurfaces : t.surfaces = s.surfaces := congrArg Watched.surfaces hw
  have hranking : t.ranking = s.ranking := congrArg Watched.ranking hw
  rw [State.rankingLaw_iff, hsurfaces, hranking]
  exact h

/-- R54: a revision of the surface table keeps the law when it keeps the margins it does not clear. -/
theorem State.RankingLaw.revise {s : State} (h : s.RankingLaw) {new : Vector SurfaceRec 16} {cleared : Fin 16 → Bool}
    (hmargins : ∀ i : Fin 16, cleared i = false →
      (new[i]).run.values.map Values.margin = (s.surfaces[i]).run.values.map Values.margin) :
    (s.reviseSurfaces new cleared).RankingLaw := by
  obtain ⟨hlength, hbefore, hnodup, hagrees⟩ := s.rankingLaw_iff.1 h
  let follow (e : RankEntry) := e.follow (s.surfaces[e.surface]).run.state (new[e.surface]).run.state (cleared e.surface)
  have entries : (s.reviseSurfaces new cleared).ranking.entries = s.ranking.entries.filterMap follow := rfl
  rw [State.rankingLaw_iff, entries, State.reviseSurfaces_surfaces]
  refine ⟨(List.length_filterMap_le _ _).trans hlength, List.pairwise_filterMap.2 (hbefore.imp ?_), ?_, fun e' he' => ?_⟩
  · intro a b hab a' ha' b' hb'
    obtain ⟨-, asurface, amargin, -⟩ := RankEntry.follow_eq_some ha'
    obtain ⟨-, bsurface, bmargin, -⟩ := RankEntry.follow_eq_some hb'
    rwa [RankEntry.before, asurface, amargin, bsurface, bmargin]
  · refine List.pairwise_map.2 (List.pairwise_filterMap.2 ((List.pairwise_map.1 hnodup).imp ?_))
    intro a b hab a' ha' b' hb'
    obtain ⟨-, asurface, -⟩ := RankEntry.follow_eq_some ha'
    obtain ⟨-, bsurface, -⟩ := RankEntry.follow_eq_some hb'
    rwa [asurface, bsurface]
  · obtain ⟨e, he, hfollow⟩ := List.mem_filterMap.1 he'
    obtain ⟨i, state, margin, held⟩ := e'
    obtain ⟨hkept, rfl, rfl, hstate⟩ := RankEntry.follow_eq_some hfollow
    obtain ⟨hused, hknown, hnow, hmargin⟩ := hagrees e he
    have margins := (hmargins _ hkept).trans hmargin
    obtain ⟨hsame, rfl⟩ | ⟨rfl, hnewKnown, hnewUsed⟩ := hstate
    · exact ⟨hused, hknown, hsame.symm.trans hnow, margins⟩
    · exact ⟨hnewUsed, hnewKnown, rfl, margins⟩

/-! ### The events (R19, R25, R31, R41, R43, R55) -/

/-- R52, R53: a rebuilt list agrees with the table it is built from. -/
theorem rankingOf_agrees (num : SweepNo) (sf : Vector SurfaceRec 16) :
    ((rankingOf num sf).entries.map RankEntry.surface).Nodup ∧ ∀ e ∈ (rankingOf num sf).entries, e.Agrees sf := by
  obtain ⟨-, -, -, items, -⟩ := rankingTakesTheLowestMargins num sf
  refine ⟨List.pairwise_map.2 (rankOrder_pairwise_ne.sublist (List.take_sublist 8 _)), fun e he => ?_⟩
  obtain ⟨-, hstate, hknown, hused, hmargin, -⟩ := items e he
  exact ⟨hused, hknown, hstate.symm, hmargin⟩

/-- R55: an empty list meets the law. -/
theorem State.rankingLaw_of_fresh {s : State} (h : s.ranking = .fresh) : s.RankingLaw := by
  rw [State.rankingLaw_iff, h]
  simp [Ranking.fresh]

/-- R25 to R29: an adoption keeps the values it does not clear. -/
theorem adoptSurface_values {c : SurfaceCfg} {latch : Bool} {r : SurfaceRec} (h : (adoptSurface c latch r).2 = false) :
    (adoptSurface c latch r).1.run.values = r.run.values := by
  unfold adoptSurface at h ⊢
  split
  · rfl
  next hchanged =>
    rw [if_neg hchanged] at h
    split
    next henabled => rw [if_pos henabled] at h; cases h
    next henabled =>
      rw [if_neg henabled] at h
      split
      · rfl
      next hon =>
        rw [if_neg hon] at h
        split
        next hmoved => rw [if_pos hmoved] at h; cases h
        next => rfl

theorem State.RankingLaw.evaluate {s : State} : s.evaluateSurfaces.RankingLaw := by
  obtain ⟨-, hlength, hbefore, -⟩ := rankingTakesTheLowestMargins s.sweep.number s.evaluateSurfaces.surfaces
  obtain ⟨hnodup, hagrees⟩ := rankingOf_agrees s.sweep.number s.evaluateSurfaces.surfaces
  have ranking : s.evaluateSurfaces.ranking = rankingOf s.sweep.number s.evaluateSurfaces.surfaces := by
    simp only [State.evaluateSurfaces]
  rw [State.rankingLaw_iff, ranking]
  exact ⟨hlength, hbefore, hnodup, hagrees⟩

section
variable {s : State} (h : s.RankingLaw)
include h

theorem State.RankingLaw.adopt : s.adoptSurfaces.RankingLaw := by
  have revised : (s.reviseSurfaces s.surfacesRevised s.surfaceCleared).RankingLaw := h.revise fun i hkept => by
    simp only [State.surfacesRevised, Fin.getElem_fin, Vector.getElem_ofFn]
    exact congrArg _ (adoptSurface_values hkept)
  rw [State.adoptSurfaces_eq]
  split
  · exact revised.frame rfl
  · exact revised

theorem State.RankingLaw.latchEvent {f : SurfaceRec → SurfaceRec} (hf : ∀ r, (f r).run.values = r.run.values) :
    (s.latchEvent f).RankingLaw :=
  State.latchEvent_induct (h.revise fun i _ => by simp [hf]) fun _ hu => hu.frame rfl

theorem State.RankingLaw.debounceExpires (l : Fin 8) : (s.debounceExpires l).RankingLaw := by
  unfold State.debounceExpires
  dsimp only
  split
  · exact h
  · split
    · exact State.RankingLaw.latchEvent (s := (s.setWet l (s.wet[l]).debounce).offer _) h fun r =>
        (SurfaceRec.latchSets_keeps l r).2
    · exact h

theorem State.RankingLaw.clearLatch (l : Fin 8) : (s.clearLatch l).RankingLaw := by
  unfold State.clearLatch
  split
  · exact State.RankingLaw.latchEvent (s := s.setWet l { s.wet[l] with latch := false }) h fun r =>
      (SurfaceRec.latchClears_keeps l r).2
  · exact h

theorem State.RankingLaw.enabledChanged (l : Fin 8) : (s.enabledChanged l).RankingLaw := by
  unfold State.enabledChanged
  split
  · exact h
  · exact State.RankingLaw.clearLatch (s := s.setWet l { s.wet[l] with timer := none, debounced := none }) h l

theorem State.RankingLaw.rawChange (l : Fin 8) (v : WetLevel) : (s.rawChange l v).RankingLaw := by
  unfold State.rawChange
  dsimp only
  split <;> exact h

end

/-- R52 to R54: the events at the surfaces and the wet lines keep the law. -/
theorem rankingLaw_keptByEvents : KeptByEvents State.RankingLaw where
  frame := State.RankingLaw.frame
  evaluated _ := .evaluate
  adopted := State.RankingLaw.adopt
  rawChanged l v h := h.rawChange l v
  debounced l _ h := h.debounceExpires l
  latchCleared l h := h.clearLatch l
  stored {s} store h := State.actOnLines_induct (fun _ l hu => hu.enabledChanged l) (s := { s with store := store }) h _
  restarted {s} _ := State.rankingLaw_of_fresh s.restartBlocks_ranking
  started _ _ _ _ := State.rankingLaw_of_fresh rfl
  lost _ := State.rankingLaw_of_fresh rfl

/-- Settles O55: every event keeps the law, and so does every step. -/
theorem rankingLawIsKept : Obligations.RankingLawIsKept :=
  fun _ _ hlaw hstep => rankingLaw_keptByEvents.step hlaw hstep

end Sys2Proof.Machine
end

section
/-! What the wet-line monitor's actions make of the lines and of the surfaces bound to them (R41, R43, R112, R117, R118). -/

namespace Sys2Proof.Machine

/-! ### Wet lines and latches (R41, R112, R117) -/

section
variable (s : State) (l : Fin 8)

theorem getElem_set_line (v : Vector WetLine 8) (w : WetLine) (m : Fin 8) : (v.set l w)[m] = if m = l then w else v[m] := by
  by_cases h : m = l
  · simp [h]
  · rw [if_neg h]
    exact Vector.getElem_set_ne _ _ fun e => h (Fin.ext e.symm)

/-- R41: a latch is read where the configuration names its line. -/
theorem State.latchOf_setWet (w : WetLine) (c : SurfaceCfg) :
    (s.setWet l w).latchOf c = if c.wetLine = some l then w.latch else s.latchOf c := by
  unfold State.latchOf
  cases hline : c.wetLine with
  | none => simp
  | some m =>
    simp only [State.setWet_wet, getElem_set_line, Option.some.injEq]
    split <;> rfl

/-- R117: a line whose enabled value changed: newly enabled it starts its debounce, newly disabled it loses its timer, its
debounced level and its latch. -/
def WetLine.switched (w : WetLine) (enabled : Bool) (ends : Nat) : WetLine :=
  if enabled then { w with timer := some ends } else { w with timer := none, debounced := none, latch := false }

/-- R112, R117: the tick a debounce started now ends at. -/
def State.debounceEnds : Nat := s.now + s.store.written.wet.debounce * Config.ticksPerTenth

/-- The wet lines play no part in a latch event. -/
theorem State.latchEvent_of_wet (wet : Vector WetLine 8) (f : SurfaceRec → SurfaceRec) :
    State.latchEvent { s with wet := wet } f = { s.latchEvent f with wet := wet } := by
  unfold State.latchEvent
  dsimp only
  split <;> rfl

/-- R115, R117: the clearing of a latch that is set is a latch event. -/
theorem State.clearLatch_of_set (h : (s.wet[l]).latch = true) : s.clearLatch l =
    { s.latchEvent (SurfaceRec.latchClears l) with wet := s.wet.set l { s.wet[l] with latch := false } } := by
  rw [State.clearLatch, if_pos h]
  exact s.latchEvent_of_wet _ _

theorem State.clearLatch_of_clear (h : (s.wet[l]).latch = false) : s.clearLatch l = s :=
  if_neg (by rw [h]; exact Bool.false_ne_true)

/-- R117: what the monitor makes of a line whose enabled value changed; a latch it clears is a latch event. -/
theorem State.enabledChanged_eq : s.enabledChanged l =
    { if !s.lineEnabled l && (s.wet[l]).latch then s.latchEvent (SurfaceRec.latchClears l) else s with
      wet := s.wet.set l ((s.wet[l]).switched (s.lineEnabled l) s.debounceEnds) } := by
  cases henabled : s.lineEnabled l with
  | true =>
    rw [State.enabledChanged, if_pos henabled]
    rfl
  | false =>
    rw [State.enabledChanged, if_neg (by simp [henabled])]
    cases hlatch : (s.wet[l]).latch with
    | true =>
      rw [State.clearLatch_of_set _ _ (by simpa using hlatch)]
      simp [State.setWet, State.latchEvent_of_wet, WetLine.switched]
    | false =>
      rw [State.clearLatch_of_clear _ _ (by simpa using hlatch)]
      simp [-Fin.getElem_fin, State.setWet, WetLine.switched, hlatch]

/-- R43: the latches of the lines `off` among `ls` clear, one line after the other, as far as the surfaces see it. -/
def State.latchesClear (off : Fin 8 → Bool) (ls : List (Fin 8)) : State :=
  ls.foldl (fun u l => if off l then u.latchEvent (SurfaceRec.latchClears l) else u) s

/-- R117: the lines whose latch the monitor clears. -/
def State.latchLost (old : Vector Bool 8) : Bool := old[l] && !s.lineEnabled l && (s.wet[l]).latch

end

/-- R41, R43, R46: one state differs from the other at most in the surfaces, the ranking list, the notices and the output
lines. -/
def State.SameButSurfaces (s t : State) : Prop :=
  t = { s with surfaces := t.surfaces, ranking := t.ranking, notices := t.notices, outputs := t.outputs }

section
variable {s t : State} (h : s.SameButSurfaces t)
include h

theorem State.SameButSurfaces.eq :
    t = { s with surfaces := t.surfaces, ranking := t.ranking, notices := t.notices, outputs := t.outputs } := h

theorem State.SameButSurfaces.now : t.now = s.now := by
  have e := congrArg State.now h.eq
  exact e

theorem State.SameButSurfaces.store : t.store = s.store := by
  have e := congrArg State.store h.eq
  exact e

theorem State.SameButSurfaces.sweep : t.sweep = s.sweep := by
  have e := congrArg State.sweep h.eq
  exact e

end

theorem State.SameButSurfaces.trans {s t u : State} (h : s.SameButSurfaces t) (k : t.SameButSurfaces u) :
    s.SameButSurfaces u := by
  cases s; cases t; cases u
  simp_all [State.SameButSurfaces]

theorem State.reviseSurfaces_same (s : State) (new : Vector SurfaceRec 16) (cleared : Fin 16 → Bool) :
    s.SameButSurfaces (s.reviseSurfaces new cleared) := Eq.refl (s.reviseSurfaces new cleared)

theorem State.evalOutputs_same (s : State) : s.SameButSurfaces s.evalOutputs := Eq.refl s.evalOutputs

theorem State.latchEvent_same (s : State) (f : SurfaceRec → SurfaceRec) : s.SameButSurfaces (s.latchEvent f) := by
  have revised : s.SameButSurfaces (s.reviseSurfaces (Vector.ofFn fun i => f s.surfaces[i]) fun _ => false) :=
    s.reviseSurfaces_same _ _
  exact State.latchEvent_induct revised fun u hu => hu.trans u.evalOutputs_same

theorem State.latchesClear_same (s : State) (off : Fin 8 → Bool) (ls : List (Fin 8)) :
    s.SameButSurfaces (s.latchesClear off ls) := by
  induction ls generalizing s with
  | nil => rfl
  | cons l ls ih =>
    rw [State.latchesClear, List.foldl_cons]
    split
    · exact (s.latchEvent_same _).trans (ih _)
    · exact ih s

theorem State.latchesClear_of_wet (s : State) (wet : Vector WetLine 8) (off : Fin 8 → Bool) (ls : List (Fin 8)) :
    State.latchesClear { s with wet := wet } off ls = { s.latchesClear off ls with wet := wet } := by
  induction ls generalizing s with
  | nil => rfl
  | cons l ls ih =>
    simp only [State.latchesClear, List.foldl_cons] at ih ⊢
    split
    · rw [State.latchEvent_of_wet, ih]
    · exact ih s

/-- R117, R118: the walk of the monitor over lines that come once each: the lines whose enabled value changed are switched, and
the latches lost clear as latch events. -/
theorem State.foldl_enabledChanged (s : State) (old : Vector Bool 8) {off : Fin 8 → Bool} {ls : List (Fin 8)}
    (hnodup : ls.Nodup) (hoff : ∀ l ∈ ls, off l = s.latchLost l old) :
    ∃ wet : Vector WetLine 8,
      ls.foldl (fun u l => if old[l] = u.lineEnabled l then u else u.enabledChanged l) s
        = { s.latchesClear off ls with wet := wet }
      ∧ ∀ m : Fin 8, wet[m] =
          if m ∈ ls ∧ old[m] ≠ s.lineEnabled m then (s.wet[m]).switched (s.lineEnabled m) s.debounceEnds else s.wet[m] := by
  induction ls generalizing s with
  | nil => exact ⟨s.wet, rfl, fun m => by simp⟩
  | cons l ls ih =>
    obtain ⟨hl, hnodup⟩ := List.nodup_cons.1 hnodup
    rw [List.foldl_cons, State.latchesClear, List.foldl_cons, hoff l List.mem_cons_self]
    by_cases hsame : old[l] = s.lineEnabled l
    · have kept : s.latchLost l old = false := by
        rw [State.latchLost, hsame]
        cases s.lineEnabled l <;> rfl
      obtain ⟨wet, hstate, hwet⟩ := ih s hnodup fun m hm => hoff m (List.mem_cons_of_mem l hm)
      rw [if_pos hsame, kept]
      refine ⟨wet, hstate, fun m => (hwet m).trans ?_⟩
      by_cases hm : m = l
      · simp [-Fin.getElem_fin, hm, hsame]
      · simp [-Fin.getElem_fin, hm]
    · have lost : s.latchLost l old = (!s.lineEnabled l && (s.wet[l]).latch) := by
        rw [State.latchLost]
        cases hold : old[l] <;> cases hnew : s.lineEnabled l <;> simp_all
      have lineChanged := s.enabledChanged_eq l
      rw [if_neg hsame, lost, lineChanged]
      generalize hu :
        (if (!s.lineEnabled l && (s.wet[l]).latch) = true then s.latchEvent (SurfaceRec.latchClears l) else s) = u
      have same : s.SameButSurfaces u := by
        rw [← hu]
        split
        · exact s.latchEvent_same _
        · rfl
      have hstore : u.store = s.store := same.store
      have hnow : u.now = s.now := same.now
      let v : State := { u with wet := s.wet.set l ((s.wet[l]).switched (s.lineEnabled l) s.debounceEnds) }
      have henabled : v.lineEnabled = s.lineEnabled := by unfold State.lineEnabled; rw [← hstore]
      have hends : v.debounceEnds = s.debounceEnds := by unfold State.debounceEnds; rw [← hstore, ← hnow]
      have hline (m : Fin 8) : v.wet[m] =
          if m = l then (s.wet[l]).switched (s.lineEnabled l) s.debounceEnds else s.wet[m] := getElem_set_line l _ _ m
      obtain ⟨wet, hstate, hwet⟩ := ih v hnodup fun m hm => by
        have hne : m ≠ l := fun e => hl (e ▸ hm)
        rw [hoff m (List.mem_cons_of_mem l hm), State.latchLost, State.latchLost, henabled, hline, if_neg hne]
      refine ⟨wet, hstate.trans ?_, fun m => (hwet m).trans ?_⟩
      · rw [State.latchesClear_of_wet]
        rfl
      · rw [henabled, hends, hline]
        by_cases hm : m = l
        · subst hm
          rw [if_neg (fun h => hl h.1), if_pos rfl, if_pos ⟨List.mem_cons_self, hsame⟩]
        · simp [-Fin.getElem_fin, hm]

/-- R117, R118: the walk over all the lines. -/
theorem State.actOnLines_eq (s : State) (old : Vector Bool 8) :
    ∃ wet : Vector WetLine 8,
      s.actOnLines old = { s.latchesClear (fun l => s.latchLost l old) (List.finRange 8) with wet := wet }
      ∧ ∀ m : Fin 8, wet[m] =
          if old[m] = s.lineEnabled m then s.wet[m] else (s.wet[m]).switched (s.lineEnabled m) s.debounceEnds := by
  obtain ⟨wet, hstate, hwet⟩ :=
    s.foldl_enabledChanged old (off := fun l => s.latchLost l old) (List.nodup_finRange 8) fun _ _ => rfl
  refine ⟨wet, hstate, fun m => (hwet m).trans ?_⟩
  by_cases h : old[m] = s.lineEnabled m
  · rw [if_neg fun hm => hm.2 h, if_pos h]
  · rw [if_pos ⟨List.mem_finRange m, h⟩, if_neg h]

end Sys2Proof.Machine
end

section
/-! Every step keeps the laws of the latches: which surfaces are in WET, and what a disabled line holds (R41, R43, R112, R113,
R117). -/

namespace Sys2Proof.Machine

/-! ### Surface by surface (R41, R43) -/

/-- R38, R41, R42: two states are in WET together and UNUSED together. -/
def RiskState.SameSide (st st' : RiskState) : Prop := (st' = .wet ↔ st = .wet) ∧ (st' = .unused ↔ st = .unused)

/-- R41: a surface is in WET exactly while the latch its wet_line names is set (`latch`), and UNUSED exactly while disabled. -/
def SurfaceRec.WetAgrees (r : SurfaceRec) (latch : Bool) : Prop :=
  if r.cfg.enabled then r.run.state ≠ .unused ∧ (r.run.state = .wet ↔ latch = true) else r.run.state = .unused

theorem State.wetLaw_iff (s : State) : s.WetLaw ↔ ∀ i : Fin 16, (s.surfaces[i]).WetAgrees (s.latchOf (s.surfaces[i]).cfg) :=
  Iff.rfl

theorem rawLevel_ofMargin (c : SurfaceCfg) (m : Int) : (rawLevel c m).ofMargin = true := by
  unfold rawLevel
  split_ifs <;> rfl

theorem RiskState.ofMargin_iff (st : RiskState) : st.ofMargin = true ↔ st ≠ .unused ∧ st ≠ .wet ∧ st ≠ .unknown := by
  cases st <;> simp [RiskState.ofMargin]

theorem candidate_ofMargin {st : RiskState} (h : st.ofMargin = true) (c : SurfaceCfg) (m : Int) :
    (candidate c st m).ofMargin = true := by
  unfold candidate RiskState.lower
  split_ifs
  · exact rawLevel_ofMargin _ _
  · exact h
  · exact rawLevel_ofMargin _ _

theorem RiskState.SameSide.refl (st : RiskState) : st.SameSide st := ⟨Iff.rfl, Iff.rfl⟩

/-- No state but WET and UNUSED is on their side. -/
theorem RiskState.SameSide.of_neither {st st' : RiskState} (h : st ≠ .wet ∧ st ≠ .unused) (h' : st' ≠ .wet ∧ st' ≠ .unused) :
    st.SameSide st' := ⟨iff_of_false h'.1 h.1, iff_of_false h'.2 h.2⟩

theorem RiskState.ofMargin_neither {st : RiskState} (h : st.ofMargin = true) : st ≠ .wet ∧ st ≠ .unused :=
  have ⟨hused, hwet, _⟩ := st.ofMargin_iff.1 h
  ⟨hwet, hused⟩

/-- R38 to R40, R42: a live margin neither takes a surface into WET or UNUSED nor out of them. -/
theorem SurfaceRun.judge_sameSide (c : SurfaceCfg) (r : SurfaceRun) (m : Int) : r.state.SameSide (r.judge c m).state := by
  by_cases hmargin : r.state.ofMargin = true
  · have judged : (r.judge c m).state.ofMargin = true := by
      rw [SurfaceRun.judge_ofMargin hmargin]
      split_ifs
      · exact hmargin
      · exact candidate_ofMargin hmargin c m
      · exact hmargin
      · exact candidate_ofMargin hmargin c m
      · exact hmargin
    exact .of_neither (RiskState.ofMargin_neither hmargin) (RiskState.ofMargin_neither judged)
  · unfold SurfaceRun.judge
    split
    next => exact .refl _
    next => exact .refl _
    next h =>
      exact .of_neither (by simp [h]) (RiskState.ofMargin_neither (rawLevel_ofMargin c m))
    next hwet hused hknown => exact (hmargin (r.state.ofMargin_iff.2 ⟨hused, hwet, hknown⟩)).elim

theorem offerTrend_state (num : SweepNo) (i : Fin 16) (c : SurfaceCfg) (r : SurfaceRun) :
    (offerTrend num i c r).1.state = r.state := by rw [offerTrend_eq]

/-- R24: the end of a surface's data leaves WET and UNUSED alone. -/
theorem RiskState.afterDataEnd_sameSide (st : RiskState) : st.SameSide st.afterDataEnd := by
  cases st <;> simp [RiskState.SameSide, RiskState.afterDataEnd]

theorem evalMissing_sameSide (num : SweepNo) (i : Fin 16) (c : SurfaceCfg) (r : SurfaceRun) :
    r.state.SameSide (evalMissing num i c r).1.state := by
  unfold evalMissing
  split
  · split
    · exact .refl _
    · exact r.state.afterDataEnd_sameSide
  · exact r.state.afterDataEnd_sameSide

/-- R19: an evaluation neither takes a surface into WET or UNUSED nor out of them. -/
theorem evalSurface_sameSide (num : SweepNo) (points : Vector PointRec 24) (i : Fin 16) (r : SurfaceRec) :
    r.run.state.SameSide (evalSurface num points i r).1.run.state := by
  unfold evalSurface
  split
  · dsimp only
    split
    next v _ =>
      rw [evalLive, offerTrend_state]
      exact SurfaceRun.judge_sameSide r.cfg { r.run with values := some v, live := true, heldAge := 0 } v.margin
    next => exact evalMissing_sameSide _ _ _ _
  · exact .refl _

/-- R43: a surface that leaves WET goes neither to WET nor to UNUSED. -/
theorem SurfaceRun.stateLeavingWet_neither (c : SurfaceCfg) (r : SurfaceRun) :
    r.stateLeavingWet c ≠ .wet ∧ r.stateLeavingWet c ≠ .unused := by
  unfold SurfaceRun.stateLeavingWet
  split
  · exact RiskState.ofMargin_neither (rawLevel_ofMargin _ _)
  · exact ⟨RiskState.noConfusion, RiskState.noConfusion⟩

section
variable {c : SurfaceCfg} {r r' : SurfaceRec} {latch new : Bool}

theorem SurfaceRec.wetAgrees_of_enabled (h : r.cfg.enabled = true) :
    r.WetAgrees latch ↔ r.run.state ≠ .unused ∧ (r.run.state = .wet ↔ latch = true) := by
  rw [SurfaceRec.WetAgrees, if_pos h]

theorem SurfaceRec.wetAgrees_of_disabled (h : r.cfg.enabled = false) : r.WetAgrees latch ↔ r.run.state = .unused := by
  rw [SurfaceRec.WetAgrees, if_neg (by simp [h])]

theorem SurfaceRec.WetAgrees.sameSide (h : r.WetAgrees latch) (hcfg : r'.cfg = r.cfg)
    (hside : r.run.state.SameSide r'.run.state) : r'.WetAgrees latch := by
  obtain ⟨hwet, hused⟩ := hside
  rw [SurfaceRec.WetAgrees] at h ⊢
  rwa [hcfg, hwet, Ne, hused]

/-- R26, R30, R31: a surface whose runtime part starts afresh agrees with its latch. -/
theorem SurfaceRec.wetAgrees_cleared (c : SurfaceCfg) (latch : Bool) :
    (SurfaceRec.mk c (.cleared (if c.enabled then (if latch then .wet else .unknown) else .unused))).WetAgrees latch := by
  unfold SurfaceRec.WetAgrees
  cases hc : c.enabled <;> cases latch <;> simp [SurfaceRun.cleared]

/-- R30: a surface at power-on agrees with a clear latch. -/
theorem SurfaceRec.wetAgrees_fresh (c : SurfaceCfg) : (SurfaceRec.fresh c).WetAgrees false :=
  SurfaceRec.wetAgrees_cleared c false

/-- R25 to R29: an adopted surface agrees with the latch its new wet_line names. -/
theorem SurfaceRec.WetAgrees.adopt (h : r.WetAgrees latch) (hsame : c = r.cfg → new = latch) :
    (adoptSurface c new r).1.WetAgrees new := by
  by_cases hcfg : c = r.cfg
  · rw [adoptSurface, if_pos hcfg, hsame hcfg]
    exact h
  rw [adoptSurface, if_neg hcfg]
  by_cases henabled : c.enabled = r.cfg.enabled
  · rw [if_neg (not_not.2 henabled)]
    cases hon : c.enabled with
    | false =>
      rw [if_pos rfl, SurfaceRec.wetAgrees_of_disabled hon]
      exact (SurfaceRec.wetAgrees_of_disabled (henabled.symm.trans hon)).1 h
    | true =>
      rw [if_neg Bool.true_eq_false.mp]
      obtain ⟨hused, -⟩ := (SurfaceRec.wetAgrees_of_enabled (henabled.symm.trans hon)).1 h
      obtain ⟨hwet', hused'⟩ := r.run.stateLeavingWet_neither c
      split
      · simpa only [hon, if_true] using SurfaceRec.wetAgrees_cleared c new
      · rw [SurfaceRec.wetAgrees_of_enabled hon]
        simp only [SurfaceRun.restartCounting, adoptKeptState_eq]
        split_ifs with hnew hstay
        · simp [hnew]
        · simp [hnew, hstay, hused]
        · simp [hnew, hwet', hused']
  · rw [if_pos henabled]
    exact SurfaceRec.wetAgrees_cleared c new

section
variable {l : Fin 8}

/-- R41: a latch that sets. -/
theorem SurfaceRec.WetAgrees.latchSets (h : r.WetAgrees latch) :
    (r.latchSets l).WetAgrees (if r.cfg.wetLine = some l then true else latch) := by
  unfold SurfaceRec.latchSets
  by_cases hline : r.cfg.wetLine = some l
  · cases hon : r.cfg.enabled with
    | true => simp [SurfaceRec.WetAgrees, hline, hon]
    | false => simpa [SurfaceRec.WetAgrees, hline, hon] using h
  · simpa [hline] using h

/-- R43: a latch that clears. -/
theorem SurfaceRec.WetAgrees.latchClears (h : r.WetAgrees latch) (hset : r.cfg.wetLine = some l → latch = true) :
    (r.latchClears l).WetAgrees (if r.cfg.wetLine = some l then false else latch) := by
  obtain ⟨hwet', hused'⟩ := r.run.stateLeavingWet_neither r.cfg
  unfold SurfaceRec.latchClears
  by_cases hline : r.cfg.wetLine = some l
  · cases hon : r.cfg.enabled with
    | true =>
      obtain ⟨-, hwet⟩ := (SurfaceRec.wetAgrees_of_enabled hon).1 h
      simp [SurfaceRec.WetAgrees, hline, hon, hwet.2 (hset hline), hwet', hused']
    | false =>
      have hused := (SurfaceRec.wetAgrees_of_disabled hon).1 h
      simp [SurfaceRec.WetAgrees, hon, hused]
  · simpa [hline] using h

end

end

/-! ### Line by line (R112, R113, R117) -/

/-- R117: a line at rest has no debounce timer, no debounced level and no latch. -/
def WetLine.AtRest (w : WetLine) : Prop := w.timer = none ∧ w.debounced = none ∧ w.latch = false

theorem State.tapeLaw_iff (s : State) : s.TapeLaw ↔ ∀ l : Fin 8, s.lineEnabled l = false → (s.wet[l]).AtRest := Iff.rfl

theorem WetLine.switched_atRest (w : WetLine) (ends : Nat) : (w.switched false ends).AtRest := ⟨rfl, rfl, rfl⟩

section
variable {s : State} (l : Fin 8) {w : WetLine}

/-- R112: a line that is enabled, or comes to rest, keeps the law. -/
theorem State.TapeLaw.setWet (h : s.TapeLaw) (hrest : s.lineEnabled l = false → w.AtRest) : (s.setWet l w).TapeLaw := by
  intro m hm
  rw [State.setWet_wet, getElem_set_line]
  split
  next e => exact hrest (e ▸ hm)
  next => exact h m hm

/-- R41: only a change of a latch touches the law of the surfaces. -/
theorem State.WetLaw.setWet (h : s.WetLaw) (hlatch : w.latch = (s.wet[l]).latch) : (s.setWet l w).WetLaw := by
  intro i
  have named : (s.setWet l w).latchOf (s.surfaces[i]).cfg = s.latchOf (s.surfaces[i]).cfg := by
    rw [State.latchOf_setWet]
    split
    next hline => rw [State.latchOf, hline, hlatch]
    next => rfl
  have agrees := s.wetLaw_iff.1 h i
  rw [← named] at agrees
  exact agrees

end

section
variable {s t : State}

theorem State.TapeLaw.frame (h : s.TapeLaw) (hw : t.watched = s.watched) : t.TapeLaw := by
  have hwet : t.wet = s.wet := congrArg Watched.wet hw
  have hcfg : t.store.written.wet = s.store.written.wet := congrArg Watched.wetCfg hw
  rw [State.tapeLaw_iff] at h ⊢
  simpa only [State.lineEnabled, hwet, hcfg] using h

theorem State.WetLaw.frame (h : s.WetLaw) (hw : t.watched = s.watched) : t.WetLaw := by
  have hwet : t.wet = s.wet := congrArg Watched.wet hw
  have hsurfaces : t.surfaces = s.surfaces := congrArg Watched.surfaces hw
  rw [State.wetLaw_iff] at h ⊢
  simpa only [State.latchOf, hwet, hsurfaces] using h

end

/-! ### The events -/

section
variable {s : State}

/-- R41, R43: a latch event keeps the law when each surface agrees with the latches as they now are. -/
theorem State.WetLaw.latchEvent {f : SurfaceRec → SurfaceRec} (hcfg : ∀ r, (f r).cfg = r.cfg)
    (hf : ∀ i : Fin 16, (f s.surfaces[i]).WetAgrees (s.latchOf (s.surfaces[i]).cfg)) : (s.latchEvent f).WetLaw := by
  rw [State.wetLaw_iff]
  intro i
  obtain ⟨-, -, -, -, -, -, -, -, hwet, -, -, hsurfaces⟩ := s.latchEvent_keeps f
  have named (c : SurfaceCfg) : (s.latchEvent f).latchOf c = s.latchOf c := by rw [State.latchOf, State.latchOf, hwet]
  have moved : (s.latchEvent f).surfaces[i] = f s.surfaces[i] := by simp [hsurfaces]
  rw [moved, named, hcfg]
  exact hf i

theorem State.TapeLaw.latchEvent (h : s.TapeLaw) (f : SurfaceRec → SurfaceRec) : (s.latchEvent f).TapeLaw := by
  simpa only [State.TapeLaw, State.lineEnabled, State.latchEvent_keeps] using h

theorem State.WetLaw.evaluate (h : s.WetLaw) : s.evaluateSurfaces.WetLaw := by
  rw [State.wetLaw_iff]
  intro i
  rw [State.evaluateSurfaces_surfaces, evalSurface_cfg, State.latchOf, State.evaluateSurfaces_wet]
  exact SurfaceRec.WetAgrees.sameSide (h i) (evalSurface_cfg _ _ _ _) (evalSurface_sameSide _ _ _ _)

theorem State.WetLaw.adopt (h : s.WetLaw) : s.adoptSurfaces.WetLaw := by
  rw [State.wetLaw_iff]
  intro i
  obtain ⟨hcfg, -⟩ := adoptSurface_adopts s.store.written.surfaces[i] (s.latchOf s.store.written.surfaces[i]) s.surfaces[i]
  have named (c : SurfaceCfg) : s.adoptSurfaces.latchOf c = s.latchOf c := by
    simp only [State.latchOf, State.adoptSurfaces_keeps]
  rw [State.adoptSurfaces_surfaces, named, hcfg]
  exact SurfaceRec.WetAgrees.adopt (h i) fun e => e ▸ rfl

/-- R115: the clearing of a latch. -/
theorem State.WetLaw.clearLatch (h : s.WetLaw) (l : Fin 8) : (s.clearLatch l).WetLaw := by
  unfold State.clearLatch
  split
  next hset =>
    refine State.WetLaw.latchEvent (fun r => (SurfaceRec.latchClears_keeps l r).1) fun i => ?_
    rw [State.latchOf_setWet]
    refine SurfaceRec.WetAgrees.latchClears (h i) fun hline => ?_
    rwa [State.latchOf, hline]
  next => exact h

theorem State.TapeLaw.clearLatch (h : s.TapeLaw) (l : Fin 8) : (s.clearLatch l).TapeLaw := by
  unfold State.clearLatch
  split
  · refine State.TapeLaw.latchEvent (h.setWet l fun hoff => ?_) _
    obtain ⟨htimer, hlevel, -⟩ := h l hoff
    exact ⟨htimer, hlevel, rfl⟩
  · exact h

/-- R112, R113: at a debounce expiry the latch is set anew, or stays as it is. -/
theorem State.WetLaw.debounceExpires (h : s.WetLaw) (l : Fin 8) : (s.debounceExpires l).WetLaw := by
  unfold State.debounceExpires
  dsimp only
  split
  next hsame =>
    refine h.setWet l ?_
    have level : (s.wet[l]).debounced = (s.wet[l]).raw := hsame
    simp [-Fin.getElem_fin, WetLine.debounce, level]
  next =>
    split
    next hset =>
      simp only [Bool.and_eq_true] at hset
      obtain ⟨hnew, -⟩ := hset
      refine State.WetLaw.latchEvent (fun r => (SurfaceRec.latchSets_keeps l r).1) fun i => ?_
      have named := s.latchOf_setWet l (s.wet[l]).debounce (s.surfaces[i]).cfg
      rw [hnew] at named
      exact named ▸ SurfaceRec.WetAgrees.latchSets (h i)
    next hkept =>
      refine State.WetLaw.setWet l h ?_
      cases hlatch : (s.wet[l]).latch <;> simp_all [-Fin.getElem_fin, WetLine.debounce]

/-- R112: the timer of a disabled line does not run. -/
theorem State.TapeLaw.debounceExpires (h : s.TapeLaw) {l : Fin 8} (htimer : (s.wet[l]).timer ≠ none) :
    (s.debounceExpires l).TapeLaw := by
  have debounced : (s.setWet l (s.wet[l]).debounce).TapeLaw := h.setWet l fun hoff => (htimer (h l hoff).1).elim
  unfold State.debounceExpires
  dsimp only
  split
  · exact debounced
  · split
    · exact State.TapeLaw.latchEvent (s := (s.setWet l (s.wet[l]).debounce).offer _) debounced _
    · exact debounced

/-- R117: the change of a line's enabled value. -/
theorem State.WetLaw.enabledChanged (h : s.WetLaw) (l : Fin 8) : (s.enabledChanged l).WetLaw := by
  unfold State.enabledChanged
  split
  · exact h.setWet l rfl
  · exact (h.setWet l (w := { s.wet[l] with timer := none, debounced := none }) rfl).clearLatch l

/-- R118, R168: a written enabled value is acted on at once. -/
theorem State.TapeLaw.stored (h : s.TapeLaw) (store : Store) :
    (State.actOnLines { s with store := store } s.store.written.wet.enabled).TapeLaw := by
  obtain ⟨wet, hstate, hwet⟩ := State.actOnLines_eq { s with store := store } s.store.written.wet.enabled
  have hstore := (State.latchesClear_same { s with store := store }
    (fun l => State.latchLost { s with store := store } l s.store.written.wet.enabled) (List.finRange 8)).store
  rw [hstate, State.tapeLaw_iff]
  intro l hoff
  have hoff : State.lineEnabled { s with store := store } l = false := by
    rw [← hoff, State.lineEnabled, State.lineEnabled]
    exact congrArg (fun t : Store => t.written.wet.enabled[l]) hstore.symm
  have line := hwet l
  rw [hoff] at line
  rw [show ({ State.latchesClear _ _ _ with wet := wet } : State).wet[l] = wet[l] from rfl, line]
  split
  next hwas => exact h l hwas
  next => exact WetLine.switched_atRest _ _

/-- R112: a raw level change. -/
theorem State.WetLaw.rawChange (h : s.WetLaw) (l : Fin 8) (v : WetLevel) : (s.rawChange l v).WetLaw := by
  have raw : (s.setWet l { s.wet[l] with raw := some v }).WetLaw := h.setWet l rfl
  unfold State.rawChange
  dsimp only
  split
  · exact raw.setWet l rfl
  · exact raw

theorem State.TapeLaw.rawChange (h : s.TapeLaw) (l : Fin 8) (v : WetLevel) : (s.rawChange l v).TapeLaw := by
  have raw : (s.setWet l { s.wet[l] with raw := some v }).TapeLaw := h.setWet l fun hoff => h l hoff
  unfold State.rawChange
  dsimp only
  split
  next hon => exact raw.setWet l fun hoff => absurd (hon.symm.trans hoff) Bool.noConfusion
  next => exact raw

/-- R31, R120: RESTART leaves the lines alone, and the surfaces agree with them. -/
theorem State.restartBlocks_wetLaw (s : State) : s.restartBlocks.WetLaw := by
  rw [State.wetLaw_iff]
  intro i
  have restarted : s.restartBlocks.surfaces[i] = s.restartSurface s.surfaces[i] := by simp [State.restartBlocks]
  have named (c : SurfaceCfg) : s.restartBlocks.latchOf c = s.latchOf c := by
    rw [State.latchOf, State.latchOf, State.restartBlocks_wet]
  rw [restarted, named]
  generalize s.surfaces[i] = r
  exact SurfaceRec.wetAgrees_cleared r.cfg (s.latchOf r.cfg)

end

/-- R30, R111: surfaces and lines as they stand at power-on. -/
theorem State.wetLaw_of_fresh {s : State} (hlatch : ∀ l : Fin 8, (s.wet[l]).latch = false)
    (hfresh : ∀ i : Fin 16, ∃ c, s.surfaces[i] = .fresh c) : s.WetLaw := by
  rw [State.wetLaw_iff]
  intro i
  obtain ⟨c, hc⟩ := hfresh i
  have named : s.latchOf (SurfaceRec.fresh c).cfg = false := by
    unfold State.latchOf
    split
    · rfl
    · exact hlatch _
  rw [hc, named]
  exact SurfaceRec.wetAgrees_fresh c

section
variable (s : State)

theorem State.startBlocks_wetLaw (cause : Nat) (pins : StartPins) (good : Option Image) :
    (s.startBlocks cause pins good).WetLaw :=
  State.wetLaw_of_fresh (fun l => by simp [State.startBlocks, startWet, WetLine.classified, WetLine.fresh])
    fun i => ⟨_, by simp only [State.startBlocks, Fin.getElem_fin, Vector.getElem_ofFn]; rfl⟩

theorem State.startBlocks_tapeLaw (cause : Nat) (pins : StartPins) (good : Option Image) :
    (s.startBlocks cause pins good).TapeLaw := by
  rw [State.tapeLaw_iff]
  intro l hoff
  have hoff : (good.getD .factory).wet.enabled[l] = false := hoff
  have line : (s.startBlocks cause pins good).wet[l] = startWet (good.getD .factory).wet pins.sense s.now l := by
    simp [State.startBlocks]
  rw [line, startWet, hoff]
  exact ⟨rfl, rfl, rfl⟩

theorem State.losePower_wetLaw : s.losePower.WetLaw :=
  State.wetLaw_of_fresh (fun l => by simp [State.losePower, WetLine.fresh])
    fun i => ⟨_, by simp only [State.losePower, State.startBlocks, Fin.getElem_fin, Vector.getElem_ofFn]; rfl⟩

theorem State.losePower_tapeLaw : s.losePower.TapeLaw := by
  rw [State.tapeLaw_iff]
  intro l _
  have line : s.losePower.wet[l] = .fresh := by simp [State.losePower]
  rw [line]
  exact ⟨rfl, rfl, rfl⟩

end

/-- R41, R112, R113, R117: which surfaces are in WET, and what a disabled line holds. -/
structure State.LatchLaws (s : State) : Prop where
  surfaces : s.WetLaw
  lines : s.TapeLaw

/-- R41, R43, R112, R113, R117: the events at the surfaces and the wet lines keep both laws. -/
theorem latchLaws_keptByEvents : KeptByEvents State.LatchLaws where
  frame h hw := ⟨h.surfaces.frame hw, h.lines.frame hw⟩
  evaluated {s} h := ⟨h.surfaces.evaluate, fun l => by
    simpa only [State.lineEnabled, State.evaluateSurfaces_store, State.evaluateSurfaces_wet] using h.lines l⟩
  adopted h := ⟨h.surfaces.adopt, fun l => by
    simpa only [State.lineEnabled, State.adoptSurfaces_keeps] using h.lines l⟩
  rawChanged l v h := ⟨h.surfaces.rawChange l v, h.lines.rawChange l v⟩
  debounced l htimer h := ⟨h.surfaces.debounceExpires l, h.lines.debounceExpires htimer⟩
  latchCleared l h := ⟨h.surfaces.clearLatch l, h.lines.clearLatch l⟩
  stored {s} store h :=
    ⟨State.actOnLines_induct (fun _ l hu => hu.enabledChanged l) (s := { s with store := store }) h.surfaces _,
      h.lines.stored store⟩
  restarted {s} h := ⟨s.restartBlocks_wetLaw, fun l => by
    simpa only [State.lineEnabled, State.restartBlocks_store, State.restartBlocks_wet] using h.lines l⟩
  started s cause pins good := ⟨s.startBlocks_wetLaw cause pins good, s.startBlocks_tapeLaw cause pins good⟩
  lost s := ⟨s.losePower_wetLaw, s.losePower_tapeLaw⟩

/-- Settles O54: every event keeps both laws, and so does every step. -/
theorem wetAndTapeLawsAreKept : Obligations.WetAndTapeLawsAreKept := by
  intro s t hwet htape hstep
  obtain ⟨surfaces, lines⟩ := latchLaws_keptByEvents.step ⟨hwet, htape⟩ hstep
  exact ⟨surfaces, lines⟩

end Sys2Proof.Machine
end

section
/-! Latches cleared one after the other: the surfaces, their notices, the ranking list and the output lines (R43, R45, R46, R54,
R143). -/

namespace Sys2Proof.Machine

/-! ### Surfaces that leave WET (R43) -/

/-- R43: a surface after it left WET. -/
def SurfaceRec.leavesWet (r : SurfaceRec) : SurfaceRec :=
  { r with run := { r.run with state := r.run.stateLeavingWet r.cfg, riseRun := 0, fallRun := 0 } }

theorem surfaceTable_ext {a b : Vector SurfaceRec 16} (h : ∀ i : Fin 16, a[i] = b[i]) : a = b :=
  Vector.ext fun i hi => h ⟨i, hi⟩

section
variable (sf : Vector SurfaceRec 16) (off : Fin 8 → Bool) (l : Fin 8) (i : Fin 16)

theorem leftWet_getElem : (leftWet sf off)[i] =
    if (sf[i]).run.state = .wet ∧ ∃ l : Fin 8, off l = true ∧ (sf[i]).cfg.wetLine = some l then (sf[i]).leavesWet
    else sf[i] := by
  rw [leftWet, Fin.getElem_fin, Vector.getElem_ofFn]
  rfl

/-- R43: one line's latch clears. -/
theorem leftWet_line : leftWet sf (fun m => m = l) = Vector.ofFn fun i => (sf[i]).latchClears l := by
  refine surfaceTable_ext fun i => ?_
  rw [leftWet_getElem]
  simp [SurfaceRec.latchClears, SurfaceRec.leavesWet]

variable {sf off l i}

theorem leftWet_of_stays (h : ¬((sf[i]).run.state = .wet ∧ ∃ l : Fin 8, off l = true ∧ (sf[i]).cfg.wetLine = some l)) :
    (leftWet sf off)[i] = sf[i] := by
  rw [leftWet_getElem, if_neg h]

theorem leftWet_line_of_bound (hwet : (sf[i]).run.state = .wet) (hline : (sf[i]).cfg.wetLine = some l) :
    (leftWet sf fun m => m = l)[i] = (sf[i]).leavesWet := by
  rw [leftWet_getElem, if_pos ⟨hwet, l, by simpa using hline⟩]

theorem leftWet_line_of_other (h : ¬((sf[i]).run.state = .wet ∧ (sf[i]).cfg.wetLine = some l)) :
    (leftWet sf fun m => m = l)[i] = sf[i] :=
  leftWet_of_stays fun ⟨hwet, _, hm, hline⟩ => h ⟨hwet, of_decide_eq_true hm ▸ hline⟩

theorem leavesWet_state_ne (r : SurfaceRec) : r.leavesWet.run.state ≠ .wet := (r.run.stateLeavingWet_neither r.cfg).1

/-- R43: whether a surface is in WET on line `l` does not depend on the latches cleared before. -/
theorem leftWet_bound_iff (hoff : off l = false) :
    ((leftWet sf off)[i]).run.state = .wet ∧ ((leftWet sf off)[i]).cfg.wetLine = some l
      ↔ (sf[i]).run.state = .wet ∧ (sf[i]).cfg.wetLine = some l := by
  by_cases h : (sf[i]).run.state = .wet ∧ ∃ l : Fin 8, off l = true ∧ (sf[i]).cfg.wetLine = some l
  · rw [leftWet_getElem, if_pos h]
    obtain ⟨-, m, hm, hline⟩ := h
    refine iff_of_false (fun hl => leavesWet_state_ne _ hl.1) fun hl => ?_
    rw [Option.some.inj (hline.symm.trans hl.2), hoff] at hm
    cases hm
  · rw [leftWet_of_stays h]

/-- R43: a surface bound to line `l` is as it was before the other latches cleared. -/
theorem leftWet_of_bound (hoff : off l = false) (hline : (sf[i]).cfg.wetLine = some l) : (leftWet sf off)[i] = sf[i] :=
  leftWet_of_stays fun ⟨_, m, hm, hm'⟩ => by
    rw [Option.some.inj (hm'.symm.trans hline), hoff] at hm
    cases hm

variable (sf off l)

/-- R43: latches cleared one after the other. -/
theorem leftWet_leftWet : leftWet (leftWet sf off) (fun m => m = l) = leftWet sf fun m => off m || decide (m = l) := by
  refine surfaceTable_ext fun k => ?_
  by_cases hleft : (sf[k]).run.state = .wet ∧ ∃ m : Fin 8, off m = true ∧ (sf[k]).cfg.wetLine = some m
  · obtain ⟨hwet, m, hm, hline⟩ := hleft
    have before : (leftWet sf off)[k] = (sf[k]).leavesWet := by rw [leftWet_getElem, if_pos ⟨hwet, m, hm, hline⟩]
    rw [leftWet_line_of_other (by rw [before]; exact fun h => leavesWet_state_ne _ h.1), before, leftWet_getElem,
      if_pos ⟨hwet, m, by simp [hm], hline⟩]
  · have before := leftWet_of_stays hleft
    by_cases hbound : (sf[k]).run.state = .wet ∧ (sf[k]).cfg.wetLine = some l
    · obtain ⟨hwet, hline⟩ := hbound
      rw [leftWet_line_of_bound (by rw [before]; exact hwet) (by rw [before]; exact hline), before, leftWet_getElem,
        if_pos ⟨hwet, l, by simp, hline⟩]
    · rw [leftWet_line_of_other (by rw [before]; exact hbound), before, leftWet_of_stays]
      rintro ⟨hwet, m, hm, hline⟩
      obtain hm | rfl : off m = true ∨ m = l := by simpa using hm
      · exact hleft ⟨hwet, m, hm, hline⟩
      · exact hbound ⟨hwet, hline⟩

/-- R46: the clearing of line `l`'s latch changes a state. -/
def LeavesWet : Prop := ∃ i : Fin 16, (sf[i]).run.state = .wet ∧ (sf[i]).cfg.wetLine = some l

theorem leavesWet_iff_state : LeavesWet sf l ↔ ∃ i : Fin 16, (sf[i]).run.state ≠ ((leftWet sf fun m => m = l)[i]).run.state := by
  refine exists_congr fun i => ?_
  by_cases h : (sf[i]).run.state = .wet ∧ (sf[i]).cfg.wetLine = some l
  · refine iff_of_true h ?_
    rw [leftWet_line_of_bound h.1 h.2, h.1]
    exact (leavesWet_state_ne _).symm
  · refine iff_of_false h ?_
    rw [leftWet_line_of_other h]
    exact not_not.2 rfl

theorem leavesWet_iff_ne : LeavesWet sf l ↔ (leftWet sf fun m => m = l) ≠ sf := by
  rw [leavesWet_iff_state]
  constructor
  · rintro ⟨i, hi⟩ e
    exact hi (by rw [e])
  · intro hne
    by_contra hsame
    refine hne (surfaceTable_ext fun i => leftWet_line_of_other fun hbound => hsame ?_)
    exact (leavesWet_iff_state sf l).1 ⟨i, hbound⟩

variable {sf off l}

theorem leavesWet_of_other (hoff : off l = false) : LeavesWet (leftWet sf off) l ↔ LeavesWet sf l := by
  simp only [LeavesWet, leftWet_bound_iff hoff]

/-- R45: the notices of one latch cleared do not depend on the latches cleared before. -/
theorem stateNotices_of_other (num : SweepNo) (hoff : off l = false) :
    stateNotices num (leftWet sf off) (leftWet (leftWet sf off) fun m => m = l)
      = stateNotices num sf (leftWet sf fun m => m = l) := by
  refine List.flatMap_congr fun i _ => ?_
  by_cases hbound : (sf[i]).run.state = .wet ∧ (sf[i]).cfg.wetLine = some l
  · obtain ⟨hwet, hline⟩ := hbound
    have before := leftWet_of_bound hoff hline
    rw [leftWet_line_of_bound (by rw [before]; exact hwet) (by rw [before]; exact hline), before,
      leftWet_line_of_bound hwet hline]
  · rw [leftWet_line_of_other (by rwa [leftWet_bound_iff hoff]), leftWet_line_of_other hbound, if_pos rfl, if_pos rfl]

end

/-! ### The ranking list (R54) -/

theorem Ranking.Follows.refl (a : Ranking) (sf : Vector SurfaceRec 16) : a.Follows a sf sf fun _ => false :=
  ⟨rfl, by simp⟩

/-- R54: two revisions, of which only one moves a surface. -/
theorem Ranking.Follows.trans {a b c : Ranking} {x y z : Vector SurfaceRec 16} (h : a.Follows b x y fun _ => false)
    (k : b.Follows c y z fun _ => false)
    (honce : ∀ i : Fin 16, (x[i]).run.state = (y[i]).run.state ∨ (y[i]).run.state = (z[i]).run.state) :
    a.Follows c x z fun _ => false := by
  obtain ⟨hsweep, hentries⟩ := h
  obtain ⟨ksweep, kentries⟩ := k
  refine ⟨ksweep.trans hsweep, ?_⟩
  rw [kentries, hentries, List.filterMap_filterMap]
  refine List.filterMap_congr fun e _ => ?_
  obtain hxy | hyz := honce e.surface
  · simp [-Fin.getElem_fin, hxy]
  · by_cases hxy : (x[e.surface]).run.state = (y[e.surface]).run.state
    · simp [-Fin.getElem_fin, hxy]
    · rw [← hyz]
      simp only [Bool.false_eq_true, if_false, if_neg hxy]
      split
      · rfl
      · simp [-Fin.getElem_fin, hyz]

/-! ### Latch events (R41, R43) -/

theorem anyStateChange_iff (old new : Vector SurfaceRec 16) :
    anyStateChange old new = true ↔ ∃ i : Fin 16, (old[i]).run.state ≠ (new[i]).run.state := by simp [anyStateChange]

section
variable (s : State) (f : SurfaceRec → SurfaceRec)

theorem State.latchEvent_surfaces : (s.latchEvent f).surfaces = Vector.ofFn fun i => f s.surfaces[i] := by
  simp only [State.latchEvent_keeps]

theorem State.latchEvent_notices : (s.latchEvent f).notices =
    (stateNotices s.sweep.number s.surfaces (s.latchEvent f).surfaces).foldl NoticeQueue.arrive s.notices := by
  have revised := s.reviseSurfaces_notices (Vector.ofFn fun i => f s.surfaces[i]) fun _ => false
  rw [State.latchEvent_surfaces, ← revised]
  obtain e | e := s.latchEvent_cases f
  · rw [e, State.evalOutputs_notices]
  · rw [e]

theorem State.latchEvent_follows :
    s.ranking.Follows (s.latchEvent f).ranking s.surfaces (s.latchEvent f).surfaces fun _ => false := by
  have revised := s.reviseSurfaces_follows (Vector.ofFn fun i => f s.surfaces[i]) fun _ => false
  rw [State.latchEvent_surfaces]
  obtain e | e := s.latchEvent_cases f
  · rwa [e, State.evalOutputs_ranking]
  · rwa [e]

theorem State.latchEvent_outputs : (s.latchEvent f).outputs =
    if ∃ i : Fin 16, (s.surfaces[i]).run.state ≠ ((s.latchEvent f).surfaces[i]).run.state then
      actOn s.store.written.outputs (s.latchEvent f).surfaces s.now s.outputs
    else s.outputs := by
  rw [State.latchEvent_surfaces, ← if_congr (anyStateChange_iff _ _) rfl rfl, State.latchEvent]
  split
  · rw [State.evalOutputs_outputs]
    simp only [State.reviseSurfaces_surfaces, State.reviseSurfaces_store, State.reviseSurfaces_now,
      State.reviseSurfaces_outputs]
  · exact State.reviseSurfaces_outputs _ _ _

end

/-! ### Line after line (R43) -/

/-- R45: the notices the clearing of line `l`'s latch offers. -/
def State.noticesLeaving (s : State) (off : Fin 8 → Bool) (l : Fin 8) : List Notice :=
  if off l = true then stateNotices s.sweep.number s.surfaces (leftWet s.surfaces fun m => m = l) else []

/-- R143: the output lines after the latch of line `l` cleared, behind those before it. -/
def State.outputsLeaving (s : State) (off : Fin 8 → Bool) (o : Vector OutLine 2) (l : Fin 8) : Vector OutLine 2 :=
  if off l = true ∧ leftWet s.surfaces (fun m => m = l) ≠ s.surfaces then
    actOn s.store.written.outputs (leftWet s.surfaces fun m => off m && decide (m ≤ l)) s.now o
  else o

/-- R43: `u` is `s` after the latches of those of the first `n` lines cleared that are in `off`. -/
structure State.ClearedTo (s : State) (off : Fin 8 → Bool) (n : Nat) (u : State) : Prop where
  same : s.SameButSurfaces u
  surfaces : u.surfaces = leftWet s.surfaces fun m => off m && decide (m.val < n)
  notices : u.notices = (((List.finRange 8).take n).flatMap (s.noticesLeaving off)).foldl NoticeQueue.arrive s.notices
  ranking : s.ranking.Follows u.ranking s.surfaces u.surfaces fun _ => false
  outputs : u.outputs = ((List.finRange 8).take n).foldl (s.outputsLeaving off) s.outputs

theorem leftWet_none (sf : Vector SurfaceRec 16) {off : Fin 8 → Bool} (h : ∀ l, off l = false) : leftWet sf off = sf := by
  refine surfaceTable_ext fun i => leftWet_of_stays ?_
  rintro ⟨-, l, hl, -⟩
  exact Bool.noConfusion ((h l).symm.trans hl)

section
variable {s u : State} {off : Fin 8 → Bool} {n : Nat}

theorem State.clearedTo_zero : s.ClearedTo off 0 s where
  same := Eq.refl s
  surfaces := (leftWet_none _ fun l => by simp).symm
  notices := rfl
  ranking := .refl _ _
  outputs := rfl

/-- The lines before the next one, and the next one. -/
theorem take_succ_finRange (hn : n < 8) : (List.finRange 8).take (n + 1) = (List.finRange 8).take n ++ [⟨n, hn⟩] := by
  rw [List.take_add_one, List.getElem?_eq_getElem (by simpa using hn)]
  simp

/-- The next line's latch stays. -/
theorem State.ClearedTo.skip (h : s.ClearedTo off n u) (hn : n < 8) (hoff : off ⟨n, hn⟩ = false) :
    s.ClearedTo off (n + 1) u where
  same := h.same
  surfaces := by
    rw [h.surfaces]
    congr
    funext m
    by_cases hm : m = ⟨n, hn⟩
    · simp [hm, hoff]
    · have hlt : m.val < n + 1 ↔ m.val < n := by
        have : m.val ≠ n := fun e => hm (Fin.ext e)
        omega
      simp only [hlt]
  notices := by simp [take_succ_finRange hn, h.notices, State.noticesLeaving, hoff]
  ranking := h.ranking
  outputs := by simp [take_succ_finRange hn, h.outputs, State.outputsLeaving, hoff]

/-- The next line's latch clears. -/
theorem State.ClearedTo.clear (h : s.ClearedTo off n u) (hn : n < 8) (hoff : off ⟨n, hn⟩ = true) :
    s.ClearedTo off (n + 1) (u.latchEvent (SurfaceRec.latchClears ⟨n, hn⟩)) := by
  let l : Fin 8 := ⟨n, hn⟩
  let before : Fin 8 → Bool := fun m => off m && decide (m.val < n)
  have hbefore : before l = false := by simp [before, l]
  have table : u.surfaces = leftWet s.surfaces before := h.surfaces
  have moved : (u.latchEvent (SurfaceRec.latchClears l)).surfaces = leftWet u.surfaces fun m => m = l := by
    rw [State.latchEvent_surfaces, leftWet_line]
  have upTo (m : Fin 8) : (off m && decide (m.val < n) || decide (m = l)) = (off m && decide (m ≤ l)) := by
    by_cases hm : m = l
    · simp [hm, l, hoff]
    · have hle : m ≤ l ↔ m.val < n := by
        have : m.val ≠ n := fun e => hm (Fin.ext e)
        change m.val ≤ n ↔ m.val < n
        omega
      simp [hm, hle]
  have together : leftWet u.surfaces (fun m => m = l) = leftWet s.surfaces fun m => off m && decide (m ≤ l) := by
    rw [table, leftWet_leftWet]
    simp only [before, upTo]
  have next (m : Fin 8) : decide (m ≤ l) = decide (m.val < n + 1) := by simp [Fin.le_def, l]
  refine ⟨h.same.trans (u.latchEvent_same _), ?_, ?_, ?_, ?_⟩
  · rw [moved, together]
    simp only [next]
  · rw [State.latchEvent_notices, moved, h.same.sweep, h.notices, table, stateNotices_of_other _ hbefore,
      take_succ_finRange hn, List.flatMap_append, List.foldl_append]
    simp [State.noticesLeaving, hoff, l]
  · refine h.ranking.trans (u.latchEvent_follows _) fun i => ?_
    rw [moved]
    by_cases hbound : (s.surfaces[i]).run.state = .wet ∧ (s.surfaces[i]).cfg.wetLine = some l
    · have stayed := leftWet_of_bound (sf := s.surfaces) hbefore hbound.2
      exact .inl (by rw [table, stayed])
    · have stays := mt (leftWet_bound_iff (sf := s.surfaces) hbefore).1 hbound
      rw [← table] at stays
      exact .inr (by rw [leftWet_line_of_other stays])
  · have changed : (∃ i : Fin 16, (u.surfaces[i]).run.state ≠ ((leftWet u.surfaces fun m => m = l)[i]).run.state)
        ↔ off l = true ∧ leftWet s.surfaces (fun m => m = l) ≠ s.surfaces := by
      rw [← leavesWet_iff_state, table, leavesWet_of_other hbefore, leavesWet_iff_ne, and_iff_right hoff]
    rw [State.latchEvent_outputs, moved, if_congr changed rfl rfl, together, h.same.store, h.same.now, h.outputs,
      take_succ_finRange hn, List.foldl_append]
    rfl

variable (s off)

theorem State.latchesClear_clearedTo (hn : n ≤ 8) : s.ClearedTo off n (s.latchesClear off ((List.finRange 8).take n)) := by
  induction n with
  | zero => exact State.clearedTo_zero
  | succ n ih =>
    have cleared := ih (by omega)
    rw [State.latchesClear, take_succ_finRange hn, List.foldl_append, List.foldl_cons, List.foldl_nil]
    cases hoff : off ⟨n, hn⟩ with
    | true => exact cleared.clear hn hoff
    | false => exact cleared.skip hn hoff

/-- R43, R45, R46, R54, R143: what the latches cleared one after the other come to. -/
theorem State.latchesClear_latchesCleared : s.LatchesCleared (s.latchesClear off (List.finRange 8)) off s.store.written.outputs
    (s.latchesClear off (List.finRange 8)).outputs := by
  have cleared := s.latchesClear_clearedTo off (Nat.le_refl 8)
  have all : (List.finRange 8).take 8 = List.finRange 8 := rfl
  rw [all] at cleared
  refine ⟨?_, ?_, cleared.ranking, ?_⟩
  · simpa using cleared.surfaces
  · exact all ▸ cleared.notices
  · exact all ▸ cleared.outputs

/-- R43: no latch clears. -/
theorem State.latchesClear_of_none (h : ∀ l, off l = false) (ls : List (Fin 8)) : s.latchesClear off ls = s := by
  induction ls with
  | nil => rfl
  | cons l ls ih =>
    rw [State.latchesClear, List.foldl_cons, h l]
    exact ih

/-- R43: one latch clears. -/
theorem State.latchesClear_line (l : Fin 8) {ls : List (Fin 8)} (hnodup : ls.Nodup) :
    s.latchesClear (fun m => m = l) ls = if l ∈ ls then s.latchEvent (SurfaceRec.latchClears l) else s := by
  induction ls generalizing s with
  | nil => rfl
  | cons m ls ih =>
    obtain ⟨hm, hnodup⟩ := List.nodup_cons.1 hnodup
    rw [State.latchesClear, List.foldl_cons]
    by_cases h : m = l
    · subst h
      rw [if_pos (decide_eq_true rfl), if_pos List.mem_cons_self]
      exact (ih _ hnodup).trans (if_neg hm)
    · rw [if_neg (by simpa using h)]
      refine (ih s hnodup).trans (if_congr ?_ rfl rfl)
      simp [Ne.symm h]

end

end Sys2Proof.Machine
end

section
/-! WET_ACK and WETLINE_WRITE, and what acting on the lines of a configuration comes to (R43, R115, R117, R118, R168). -/

namespace Sys2Proof.Machine

/-! ### WET_ACK (R115) -/

section
variable (s : State) (l : Fin 8)

/-- R115: the line itself loses its latch alone. -/
theorem State.clearLatch_line : (s.clearLatch l).wet[l] = { s.wet[l] with latch := false } := by
  cases hlatch : (s.wet[l]).latch with
  | true =>
    rw [State.clearLatch_of_set s l hlatch]
    simp
  | false =>
    rw [State.clearLatch_of_clear s l hlatch, ← hlatch]

theorem wetAckRequest_stillWet (h : (s.wet[l]).debounced = some .wet) :
    wetAckRequest [BitVec.ofNat 8 l] s = s.refuse .stillWet := by
  simp only [Fin.getElem_fin] at h
  simp [wetAckRequest, index_mod_byte l, l.isLt.not_ge, h]

theorem wetAckRequest_accepted (h : (s.wet[l]).debounced ≠ some .wet) : wetAckRequest [BitVec.ofNat 8 l] s =
    (s.clearLatch l).accept [BitVec.ofNat 8 l, BitVec.ofNat 8 (wetLevelCode (s.wet[l]).debounced), 0] := by
  have line := s.clearLatch_line l
  simp only [Fin.getElem_fin] at h line
  simp [wetAckRequest, u8, index_mod_byte l, l.isLt.not_ge, h, line, boolCode]

/-- R41, R43: a latch that is set clears: the wet line, and what the surfaces make of it. -/
theorem State.clearLatch_latchesCleared (h : (s.wet[l]).latch = true) :
    s.clearLatch l = { s with
      wet := s.wet.set l { s.wet[l] with latch := false }, surfaces := (s.clearLatch l).surfaces
      ranking := (s.clearLatch l).ranking, notices := (s.clearLatch l).notices, outputs := (s.clearLatch l).outputs }
    ∧ s.LatchesCleared (s.clearLatch l) (fun m => m = l) s.store.written.outputs (s.clearLatch l).outputs := by
  have event := s.latchesClear_line l (List.nodup_finRange 8)
  rw [if_pos (List.mem_finRange l)] at event
  have cleared := s.latchesClear_latchesCleared fun m => m = l
  rw [event] at cleared
  have same := s.latchEvent_same (SurfaceRec.latchClears l)
  rw [State.clearLatch_of_set s l h]
  refine ⟨?_, cleared⟩
  generalize s.latchEvent (SurfaceRec.latchClears l) = u at same
  rw [same.eq]

end

/-- Settles O32: the latch cleared is one line's, and the surfaces bound to it leave WET. -/
theorem wetAckClearsTheLatch : Obligations.WetAckClearsTheLatch := by
  intro l s htakes
  have answered (hdry : (s.wet[l]).debounced ≠ some .wet) : exec (.wetAck [BitVec.ofNat 8 l]) s =
      .next ((s.clearLatch l).postReply 0x26
        (Answer.mk .ok [BitVec.ofNat 8 l, BitVec.ofNat 8 (wetLevelCode (s.wet[l]).debounced), 0])) := by
    refine congrArg Host.Outcome.next ((State.answer_of_takes htakes _ _).trans ?_)
    rw [wetAckRequest_accepted s l hdry]
    rfl
  refine ⟨fun hwet => ?_, fun hdry hclear => ?_, fun hdry hset => ?_⟩
  · exact congrArg Host.Outcome.next (State.answer_of_refuse htakes _ (wetAckRequest_stillWet s l hwet))
  · rw [answered hdry, State.clearLatch_of_clear s l hclear]
  · obtain ⟨frame, cleared⟩ := s.clearLatch_latchesCleared l hset
    refine ⟨s.clearLatch l, answered hdry, frame, cleared, fun i => ?_⟩
    obtain ⟨surfaces, -⟩ := cleared
    have left := leftWet_getElem s.surfaces (fun m => m = l) i
    simp only [decide_eq_true_eq, exists_eq_left] at left
    rw [surfaces, left]
    rfl

/-! ### Configurations that act as they are written (R117, R118, R168) -/

section
variable (s : State) (store : Store)

/-- R117: the latches a written configuration clears. -/
def State.latchesLost (l : Fin 8) : Bool :=
  s.store.written.wet.enabled[l] && !store.written.wet.enabled[l] && (s.wet[l]).latch

/-- R118, R168: the state after the store is replaced and the lines it enables or disables are acted on. -/
def State.storedAndActedOn : State := State.actOnLines { s with store := store } s.store.written.wet.enabled

theorem State.storedAndActedOn_eq : ∃ wet : Vector WetLine 8,
    s.storedAndActedOn store =
      { State.latchesClear { s with store := store } (s.latchesLost store) (List.finRange 8) with wet := wet }
    ∧ ∀ l : Fin 8, wet[l] =
        if store.written.wet.enabled[l] = s.store.written.wet.enabled[l] then s.wet[l]
        else if store.written.wet.enabled[l] = true then
          { s.wet[l] with timer := some (s.now + store.written.wet.debounce * 400000) }
        else { s.wet[l] with timer := none, debounced := none, latch := false } := by
  obtain ⟨wet, hstate, hwet⟩ := State.actOnLines_eq { s with store := store } s.store.written.wet.enabled
  refine ⟨wet, hstate, fun l => (hwet l).trans ?_⟩
  exact if_congr eq_comm rfl rfl

/-- R118, R168: what acting on the lines leaves alone. -/
theorem State.storedAndActedOn_frame : s.storedAndActedOn store = { s with
    store := store, wet := (s.storedAndActedOn store).wet, surfaces := (s.storedAndActedOn store).surfaces
    ranking := (s.storedAndActedOn store).ranking, notices := (s.storedAndActedOn store).notices
    outputs := (s.storedAndActedOn store).outputs } := by
  obtain ⟨wet, hstate, -⟩ := s.storedAndActedOn_eq store
  have same := State.latchesClear_same { s with store := store } (s.latchesLost store) (List.finRange 8)
  rw [hstate]
  generalize State.latchesClear { s with store := store } (s.latchesLost store) (List.finRange 8) = u at same
  rw [same.eq]

theorem State.storedAndActedOn_latchesCleared : s.LatchesCleared (s.storedAndActedOn store) (s.latchesLost store)
    store.written.outputs (s.storedAndActedOn store).outputs := by
  obtain ⟨wet, hstate, -⟩ := s.storedAndActedOn_eq store
  rw [hstate]
  exact State.latchesClear_latchesCleared { s with store := store } (s.latchesLost store)

/-- R43: with no latch lost, the lines alone change. -/
theorem State.storedAndActedOn_of_none (h : ∀ l, s.latchesLost store l = false) :
    (s.storedAndActedOn store).surfaces = s.surfaces ∧ (s.storedAndActedOn store).ranking = s.ranking
      ∧ (s.storedAndActedOn store).notices = s.notices ∧ (s.storedAndActedOn store).outputs = s.outputs := by
  obtain ⟨wet, hstate, -⟩ := s.storedAndActedOn_eq store
  rw [hstate, State.latchesClear_of_none _ _ h]
  exact ⟨rfl, rfl, rfl, rfl⟩

end

/-! ### WETLINE_WRITE (R118) -/

section
variable {p : List Byte}

/-- The first bytes of a payload, one by one. -/
theorem take_eq_map_byteAt {n : Nat} (h : n ≤ p.length) :
    p.take n = (List.finRange n).map fun i : Fin n => BitVec.ofNat 8 (byteAt p i) := by
  refine List.ext_getElem (by simpa using h) fun i hi _ => ?_
  have hlt : i < p.length := by
    rw [List.length_take] at hi
    omega
  simp [byteAt, hlt]

/-- R118: the record of the configuration stored. -/
theorem wetCfgRecord_limit (hlen : p.length = 10) (hcodes : ∀ i < 8, byteAt p i ≤ 1) :
    wetCfgRecord (wetCfgAt p).limit = p.take 8 ++ u16 (limitNat 5 300 (u16At p 8)) := by
  have flag (l : Fin 8) : boolCode (wetCfgAt p).limit.enabled[l] = byteAt p l := by
    have := hcodes l l.isLt
    simp only [WetCfg.limit, wetCfgAt, Fin.getElem_fin, Vector.getElem_ofFn, boolCode, decide_eq_true_eq]
    split <;> omega
  rw [wetCfgRecord, take_eq_map_byteAt (by omega), List.map_eq_flatMap]
  simp only [flag]
  rfl

/-- R118: the store with a wet-line configuration written. -/
def Store.writeWet (t : Store) (c : WetCfg) : Store := { t with written := { t.written with wet := c }, dirty := true }

/-- R118: the checks of an accepted WETLINE_WRITE pass. -/
theorem wetlineWriteRequest_accepted {s : State} (hsave : s.store.saving = none) (hlen : p.length = 10)
    (hcodes : ∀ i < 8, byteAt p i ≤ 1) : wetlineWriteRequest p s =
      (s.storedAndActedOn (s.store.writeWet (wetCfgAt p).limit),
        Answer.mk (if limitNat 5 300 (u16At p 8) = u16At p 8 then .ok else .okAdjusted)
          (p.take 8 ++ u16 (limitNat 5 300 (u16At p 8)))) := by
  have codes : ((List.range 8).all fun i => isBoolCode (byteAt p i)) = true := by
    simpa [isBoolCode] using hcodes
  have limited : (wetCfgAt p).limit = wetCfgAt p ↔ limitNat 5 300 (u16At p 8) = u16At p 8 := by
    simp [WetCfg.limit, wetCfgAt]
  rw [wetlineWriteRequest, if_neg (not_not.2 hlen), State.isSaving_eq_false hsave, if_neg Bool.false_ne_true, if_pos codes]
  dsimp only
  rw [writeStatus_eq, ite_not, if_congr limited rfl rfl, wetCfgRecord_limit hlen hcodes]
  rfl

end

/-- Settles O33: the configuration is stored, and acted on line by line. -/
theorem wetlineWriteActsAtOnce : Obligations.WetlineWriteActsAtOnce := by
  intro p s htakes hsave hlen hcodes
  let store := s.store.writeWet (wetCfgAt p).limit
  have frame := s.storedAndActedOn_frame store
  have stored : (s.storedAndActedOn store).store = store := congrArg State.store frame
  have enabled (l : Fin 8) : store.written.wet.enabled[l] = decide (byteAt p l = 1) := by
    simp [store, Store.writeWet, WetCfg.limit, wetCfgAt]
  have lost : s.latchesLost store =
      fun l : Fin 8 => s.store.written.wet.enabled[l] && decide (byteAt p l = 0) && (s.wet[l]).latch := by
    funext l
    have off : (!decide (byteAt p l = 1)) = decide (byteAt p l = 0) := by
      have := hcodes l l.isLt
      rw [← decide_not, decide_eq_decide]
      omega
    rw [State.latchesLost, enabled, off]
  obtain ⟨wet, hstate, hwet⟩ := s.storedAndActedOn_eq store
  refine ⟨s.storedAndActedOn store, ?_, stored, ?_, ?_, fun l => ?_⟩
  · refine congrArg Host.Outcome.next ((State.answer_of_takes htakes _ _).trans ?_)
    rw [wetlineWriteRequest_accepted hsave hlen hcodes]
  · rw [stored]
    exact frame
  · rw [← lost]
    exact s.storedAndActedOn_latchesCleared store
  · have line := hwet l
    rw [enabled] at line
    simp only [decide_eq_true_eq] at line
    rw [hstate]
    exact line

end Sys2Proof.Machine
end

section
/-! SAVE, its end, and LOAD (R137, R166 to R168). -/

namespace Sys2Proof.Machine

/-! ### Output lines act on a change of demand alone (R143) -/

section
variable (l : OutLine) (c : OutputCfg) (demand : Bool) (now : Nat)

theorem OutLine.demandAppears_heldDemand : (l.demandAppears c now).state.heldDemand = true := by
  unfold OutLine.demandAppears
  split
  next => split <;> rfl
  next => rfl
  next hon => rw [hon]; rfl
  next hheld => rw [hheld]; rfl

theorem OutLine.demandLost_heldDemand : (l.demandLost c now).state.heldDemand = false := by
  unfold OutLine.demandLost
  split
  next => split <;> rfl
  next => rfl
  next hoff => rw [hoff]; rfl
  next hheld => rw [hheld]; rfl

/-- R143 to R145: a line holds the demand it last acted on. -/
theorem OutLine.act_heldDemand : (l.act c demand now).state.heldDemand = demand := by
  unfold OutLine.act
  split
  next hsame => exact hsame.symm
  next =>
    cases demand with
    | true => exact l.demandAppears_heldDemand c now
    | false => exact l.demandLost_heldDemand c now

theorem OutLine.act_act : (l.act c demand now).act c demand now = l.act c demand now :=
  if_pos (l.act_heldDemand c demand now).symm

/-- R143: a demand evaluated once more on the same states moves nothing. -/
theorem State.evalOutputs_evalOutputs (s : State) : s.evalOutputs.evalOutputs = s.evalOutputs := by
  have outputs : s.evalOutputs.evalOutputs.outputs = s.evalOutputs.outputs := by
    simp only [State.evalOutputs_outputs, State.evalOutputs_store, State.evalOutputs_surfaces, State.evalOutputs_now, actOn]
    simp [OutLine.act_act]
  exact congrArg (fun o => { s with outputs := o }) outputs

end

/-! ### SAVE and LOAD (R166 to R168) -/

section
variable (s : State) (i : Image)

/-- R168: the store with an image loaded. -/
def Store.load (t : Store) (i : Image) : Store := { t with written := i, dirty := false }

/-- R168: LOAD acts on the lines, then on the outputs, and leaves its interval pending. -/
theorem State.loadImage_eq : s.loadImage i =
    { (s.storedAndActedOn (s.store.load i)).evalOutputs with
      sweep := { (s.storedAndActedOn (s.store.load i)).sweep with pendingIv := some i.interval } } :=
  congrArg (fun u : State => { u with sweep := { u.sweep with pendingIv := some i.interval } })
    (State.evalOutputs_evalOutputs (s.storedAndActedOn (s.store.load i)))

variable {s i}

theorem saveRequest_accepted (hsave : s.store.saving = none) :
    saveRequest [] s = State.accept { s with store := { s.store with saving := some s.store.written } } [] := by
  simp [saveRequest, State.isSaving_eq_false hsave]

theorem loadRequest_badState (hsave : s.store.saving = none) (hsaved : s.store.saved = none) :
    loadRequest [] s = s.refuse .badState := by
  simp [loadRequest, State.isSaving_eq_false hsave, hsaved]

theorem loadRequest_accepted (hsave : s.store.saving = none) {crc : BitVec 16}
    (hsaved : s.store.saved = some (SavedImage.mk i crc)) : loadRequest [] s = (s.loadImage i).accept [] := by
  simp [loadRequest, State.isSaving_eq_false hsave, hsaved]

/-- R167: the end of a SAVE. -/
theorem execSaveComplete_of_saving {copy : Image} (hpower : s.power = .running) (hsaving : s.store.saving = some copy)
    (verified : Bool) : exec (.saveComplete verified) s = .next (s.saveEnds copy verified) := by
  change execSaveComplete verified s = _
  rw [execSaveComplete, hpower, hsaving]

end

/-- R168: LOAD takes back the saved image. -/
theorem State.loadImage_loads (s : State) (i : Image) :
    s.loadImage i = { s with
      store := { s.store with written := i, dirty := false }
      sweep := { s.sweep with pendingIv := some i.interval }
      wet := (s.loadImage i).wet, surfaces := (s.loadImage i).surfaces, ranking := (s.loadImage i).ranking
      notices := (s.loadImage i).notices, outputs := (s.loadImage i).outputs }
    ∧ (s.loadImage i).outputs =
        actOn i.outputs (s.loadImage i).surfaces s.now (s.storedAndActedOn (s.store.load i)).outputs := by
  have frame := s.storedAndActedOn_frame (s.store.load i)
  rw [s.loadImage_eq i]
  generalize s.storedAndActedOn (s.store.load i) = u at frame
  rw [frame]
  exact ⟨rfl, rfl⟩

/-- Settles O49: the end of a SAVE keeps the copy or nothing; LOAD stores the saved image and acts on what it changes. -/
theorem saveAndLoad : Obligations.SaveAndLoad := by
  refine ⟨fun s htakes hsave => ⟨?_, fun hsaved => ?_, fun i crc hsaved => ?_⟩, ?_⟩
  · refine congrArg Host.Outcome.next ((State.answer_of_takes htakes _ _).trans ?_)
    rw [saveRequest_accepted hsave]
    rfl
  · exact congrArg Host.Outcome.next (State.answer_of_refuse htakes _ (loadRequest_badState hsave hsaved))
  · obtain ⟨frame, outputs⟩ := s.loadImage_loads i
    have acted := s.loadImage_eq i
    refine ⟨s.loadImage i, ?_, frame, fun l => ?_, ⟨_, ?_, outputs⟩, fun hkept => ?_⟩
    · refine congrArg Host.Outcome.next ((State.answer_of_takes htakes _ _).trans ?_)
      rw [loadRequest_accepted hsave hsaved]
      rfl
    · obtain ⟨wet, hstate, hwet⟩ := s.storedAndActedOn_eq (s.store.load i)
      rw [acted, hstate]
      exact hwet l
    · have cleared := s.storedAndActedOn_latchesCleared (s.store.load i)
      rw [acted]
      exact cleared
    · have kept (l : Fin 8) : s.latchesLost (s.store.load i) l = false := by
        have hline := hkept l
        cases henabled : i.wet.enabled[l] with
        | true => simp [-Fin.getElem_fin, State.latchesLost, Store.load, henabled]
        | false => simp [-Fin.getElem_fin, State.latchesLost, hline henabled]
      obtain ⟨surfaces, ranking, notices, outs⟩ := s.storedAndActedOn_of_none (s.store.load i) kept
      have table : (s.loadImage i).surfaces = s.surfaces := by rw [acted]; exact surfaces
      refine ⟨table, ?_, ?_, fun o => ?_⟩
      · rw [acted]
        exact ranking
      · rw [acted]
        exact notices
      · rw [outputs, outs, table, actOn, Fin.getElem_fin, Vector.getElem_ofFn]
  · rintro copy m s hpower hsaving rfl
    exact ⟨execSaveComplete_of_saving hpower hsaving true, execSaveComplete_of_saving hpower hsaving false⟩

end Sys2Proof.Machine
end

section
/-! The events of a wet line's own level and timer: the raw level change and the debounce expiry (R41, R111 to R113, R116). -/

namespace Sys2Proof.Machine

/-- R112, R113: a line after its debounce expired, its new latch in one condition. -/
theorem WetLine.debounce_eq (w : WetLine) : w.debounce =
    { w with timer := none, debounced := w.raw, latch := w.latch || decide (w.debounced ≠ w.raw ∧ w.raw = some .wet) } := by
  simp [WetLine.debounce, Bool.decide_and]

/-- R113: without a change of debounced level the latch stays. -/
theorem WetLine.debounce_latch_of_same {w : WetLine} (h : w.debounced = w.raw) : w.debounce.latch = w.latch := by
  simp [WetLine.debounce, h]

section
variable (s : State) (l : Fin 8)

/-- R111, R112: what a raw level change of a running part does. -/
theorem State.rawChange_eq (v : WetLevel) : s.rawChange l v = { s with
    wet := s.wet.set l
      (if s.store.written.wet.enabled[l] = true then
        { s.wet[l] with raw := some v, timer := some (s.now + s.store.written.wet.debounce * 400000) }
      else { s.wet[l] with raw := some v }) } := by
  unfold State.rawChange State.lineEnabled
  dsimp only
  split
  · simp [State.startDebounce, State.setWet, Config.ticksPerTenth]
  · rfl

/-- R116: the state after the WETLINE notice of a debounce expiry at line `l`. -/
def State.wetOffered : State :=
  s.offer [wetNotice s.sweep.number l (s.wet[l]).debounced (s.wet[l]).debounce]

/-- R41, R113: what a debounce expiry makes of everything but the wet line itself. -/
def State.debounceSeen : State :=
  if (s.wet[l]).debounced = (s.wet[l]).raw then s
  else if (s.wet[l]).debounce.latch = (s.wet[l]).latch then s.wetOffered l
  else (s.wetOffered l).latchEvent (SurfaceRec.latchSets l)

/-- R113: a latch does not clear at a debounce expiry. -/
theorem WetLine.debounce_latch_set (w : WetLine) : (w.debounce.latch && !w.latch) = true ↔ w.debounce.latch ≠ w.latch := by
  cases hlatch : w.latch <;> simp [WetLine.debounce, hlatch]

theorem State.debounceExpires_eq : s.debounceExpires l = { s.debounceSeen l with wet := s.wet.set l (s.wet[l]).debounce } := by
  have level : (s.wet[l]).debounce.debounced = (s.wet[l]).raw := rfl
  unfold State.debounceExpires State.debounceSeen
  dsimp only
  rw [level, if_congr (WetLine.debounce_latch_set _) rfl rfl, ite_not]
  split
  · rfl
  · split
    · rfl
    · exact (s.wetOffered l).latchEvent_of_wet _ _

variable {s l}

theorem State.debounceSeen_of_same (h : (s.wet[l]).debounced = (s.wet[l]).raw) : s.debounceSeen l = s := if_pos h

theorem State.debounceSeen_of_kept (h : (s.wet[l]).debounced ≠ (s.wet[l]).raw)
    (hlatch : (s.wet[l]).debounce.latch = (s.wet[l]).latch) : s.debounceSeen l = s.wetOffered l :=
  (if_neg h).trans (if_pos hlatch)

theorem State.debounceSeen_of_set (hlatch : (s.wet[l]).debounce.latch ≠ (s.wet[l]).latch) :
    s.debounceSeen l = (s.wetOffered l).latchEvent (SurfaceRec.latchSets l) :=
  (if_neg fun h => hlatch (WetLine.debounce_latch_of_same h)).trans (if_neg hlatch)

variable (s l)

/-- Where no latch is set, the surfaces, the ranking list and the output lines stay. -/
theorem State.debounceSeen_of_latch (hlatch : (s.wet[l]).debounce.latch = (s.wet[l]).latch) :
    (s.debounceSeen l).surfaces = s.surfaces ∧ (s.debounceSeen l).ranking = s.ranking
      ∧ (s.debounceSeen l).outputs = s.outputs := by
  by_cases h : (s.wet[l]).debounced = (s.wet[l]).raw
  · rw [State.debounceSeen_of_same h]
    exact ⟨rfl, rfl, rfl⟩
  · rw [State.debounceSeen_of_kept h hlatch]
    exact ⟨rfl, rfl, rfl⟩

theorem State.debounceSeen_same : s.SameButSurfaces (s.debounceSeen l) := by
  have offered : s.SameButSurfaces (s.wetOffered l) := rfl
  unfold State.debounceSeen
  split
  · rfl
  · split
    · exact offered
    · exact offered.trans ((s.wetOffered l).latchEvent_same _)

/-- R45, R116: the WETLINE notice, and the SURFACE notices behind it. -/
theorem State.debounceSeen_notices (h : (s.wet[l]).debounced ≠ (s.wet[l]).raw) : (s.debounceSeen l).notices =
    (wetNotice s.sweep.number l (s.wet[l]).debounced (s.wet[l]).debounce
      :: stateNotices s.sweep.number s.surfaces (s.debounceSeen l).surfaces).foldl NoticeQueue.arrive s.notices := by
  by_cases hlatch : (s.wet[l]).debounce.latch = (s.wet[l]).latch
  · have none : stateNotices s.sweep.number s.surfaces s.surfaces = [] := by simp [stateNotices]
    obtain ⟨surfaces, -⟩ := s.debounceSeen_of_latch l hlatch
    rw [surfaces, none, State.debounceSeen_of_kept h hlatch]
    rfl
  · rw [State.debounceSeen_of_set hlatch, State.latchEvent_notices]
    rfl

theorem State.debounceSeen_follows :
    s.ranking.Follows (s.debounceSeen l).ranking s.surfaces (s.debounceSeen l).surfaces fun _ => false := by
  by_cases hlatch : (s.wet[l]).debounce.latch = (s.wet[l]).latch
  · obtain ⟨surfaces, ranking, -⟩ := s.debounceSeen_of_latch l hlatch
    rw [surfaces, ranking]
    exact .refl _ _
  · rw [State.debounceSeen_of_set hlatch]
    exact (s.wetOffered l).latchEvent_follows _

theorem State.debounceSeen_outputs : (s.debounceSeen l).outputs =
    if ∃ i : Fin 16, (s.surfaces[i]).run.state ≠ ((s.debounceSeen l).surfaces[i]).run.state then
      actOn s.store.written.outputs (s.debounceSeen l).surfaces s.now s.outputs
    else s.outputs := by
  by_cases hlatch : (s.wet[l]).debounce.latch = (s.wet[l]).latch
  · obtain ⟨surfaces, -, outputs⟩ := s.debounceSeen_of_latch l hlatch
    rw [surfaces, outputs, if_neg fun ⟨_, h⟩ => h rfl]
  · rw [State.debounceSeen_of_set hlatch]
    exact (s.wetOffered l).latchEvent_outputs _

/-- R41: the surfaces a newly set latch moves. -/
theorem State.debounceSeen_surfaces (hlatch : (s.wet[l]).debounce.latch ≠ (s.wet[l]).latch) (i : Fin 16) :
    (s.debounceSeen l).surfaces[i] =
      if (s.surfaces[i]).cfg.enabled = true ∧ (s.surfaces[i]).cfg.wetLine = some l then
        { s.surfaces[i] with run := { (s.surfaces[i]).run with state := .wet, riseRun := 0, fallRun := 0 } }
      else s.surfaces[i] := by
  have table : (s.wetOffered l).surfaces = s.surfaces := rfl
  rw [State.debounceSeen_of_set hlatch, State.latchEvent_surfaces, table]
  simp [SurfaceRec.latchSets]

end

theorem execRawLevelChange_of_change {s : State} {l : Fin 8} {ohms : Nat} (hpower : s.power = .running)
    (hraw : (s.wet[l]).raw ≠ some (classify ohms)) :
    exec (.rawLevelChange l ohms) s = .next (s.rawChange l (classify ohms)) :=
  if_pos (Bool.and_eq_true_iff.2 ⟨decide_eq_true hpower, decide_eq_true hraw⟩)

theorem execDebounceExpiry_of_timer {s : State} {l : Fin 8} {e : Nat} (hpower : s.power = .running)
    (htimer : (s.wet[l]).timer = some e) : exec (.debounceExpiry l) s = .next ((s.elapseTo e).debounceExpires l) := by
  change execDebounceExpiry l s = _
  rw [execDebounceExpiry, hpower, htimer]

/-- Settles O31: a raw level change starts the debounce of an enabled line, and the expiry of a debounce sets at most the
line's latch, which the surfaces bound to it see. -/
theorem wetLineEvents : Obligations.WetLineEvents := by
  refine ⟨?_, fun l e s hpower htimer => ?_⟩
  · intro l ohms v s hpower hraw hv
    have classified : classify ohms = v := hv.symm
    rw [execRawLevelChange_of_change hpower (classified ▸ hraw), classified, State.rawChange_eq]
  · have now : (s.elapseTo e).now = max s.now e := by
      change s.now + (e - s.now) = max s.now e
      omega
    have line : ((s.elapseTo e).debounceExpires l).wet = s.wet.set l (s.wet[l]).debounce := by
      rw [State.debounceExpires_eq]
      rfl
    have latch : (((s.elapseTo e).debounceExpires l).wet[l]).latch = (s.wet[l]).debounce.latch := by simp [line]
    refine ⟨(s.elapseTo e).debounceExpires l, execDebounceExpiry_of_timer hpower htimer, ?_, ?_, fun hsame => ?_,
      fun hchanged => ?_, ?_, ?_, fun hkept => ?_, fun hset => ?_⟩
    · rw [line, WetLine.debounce_eq]
    · have same := (s.elapseTo e).debounceSeen_same l
      rw [State.debounceExpires_eq, ← now]
      generalize (s.elapseTo e).debounceSeen l = u at same
      rw [same.eq]
      rfl
    · rw [State.debounceExpires_eq, State.debounceSeen_of_same (s := s.elapseTo e) hsame]
      exact ⟨rfl, rfl, rfl, rfl⟩
    · rw [latch, State.debounceExpires_eq]
      exact (s.elapseTo e).debounceSeen_notices l hchanged
    · rw [State.debounceExpires_eq]
      exact (s.elapseTo e).debounceSeen_follows l
    · have nowAfter : ((s.elapseTo e).debounceExpires l).now = (s.elapseTo e).now := by
        rw [State.debounceExpires_eq]
        exact ((s.elapseTo e).debounceSeen_same l).now
      rw [nowAfter, State.debounceExpires_eq]
      exact (s.elapseTo e).debounceSeen_outputs l
    · obtain ⟨surfaces, -, outputs⟩ := (s.elapseTo e).debounceSeen_of_latch l (latch.symm.trans hkept)
      rw [State.debounceExpires_eq]
      exact ⟨surfaces, outputs⟩
    · rw [State.debounceExpires_eq]
      exact (s.elapseTo e).debounceSeen_surfaces l fun h => hset (latch.trans h)

end Sys2Proof.Machine
end

section
/-! The accepted POINT_WRITE (R75, R76), and the global settings (R78, R94, R110, R163). -/

namespace Sys2Proof.Machine

/-- R33, R158: nothing of a POINT_WRITE is limited when its three fields are stored as they are written. -/
theorem pointCfgAt_limit_eq_iff (k : PointKind) (p : List Byte) :
    (pointCfgAt k p).limit = pointCfgAt k p ↔
      (pointCfgAt k p).limit.cDry = u16At p 2 ∧ (pointCfgAt k p).limit.cWet = u16At p 4
        ∧ (pointCfgAt k p).limit.tOffset = s16At p 6 := by
  simp [PointCfg.limit, pointCfgAt]

/-- R33, R158: nothing of a GLOBAL_WRITE is limited when every field but the divisors is stored as it is written. -/
theorem globalCfgAt_limit_eq_iff (p : List Byte) :
    (globalCfgAt p).limit = globalCfgAt p ↔
      (globalCfgAt p).limit.faultCount = byteAt p 0 ∧ (globalCfgAt p).limit.window = u16At p 4
        ∧ (globalCfgAt p).limit.satCount = byteAt p 6 ∧ (globalCfgAt p).limit.maxPurges = byteAt p 7
        ∧ (globalCfgAt p).limit.heaterDuty = byteAt p 8 ∧ (globalCfgAt p).limit.purgeTime = u16At p 9
        ∧ (globalCfgAt p).limit.recoveryTime = u16At p 11 := by
  simp [GlobalCfg.limit, globalCfgAt]

theorem GlobalCfg.divisorsOk_iff (g : GlobalCfg) : g.divisorsOk = true ↔ g.nF ∈ [16, 64, 256] ∧ g.nD ∈ [1, 4, 16] := by
  simp [GlobalCfg.divisorsOk, or_assoc]

/-- Settles O16: the checks of R75 pass, and what is stored is the payload's configuration limited. -/
theorem pointWriteIsStored : Obligations.PointWriteIsStored := by
  intro p k cfg s htakes hsave hlen hindex hkind hcfg hspan
  obtain rfl : cfg = (pointCfgAt k p).limit := hcfg
  have stored : pointWriteRequest p s =
      (s.writePoint (Fin.ofNat 24 (byteAt p 0)) (pointCfgAt k p).limit,
        Answer.mk (writeStatus ((pointCfgAt k p).limit ≠ pointCfgAt k p))
          (pointCfgRecord (Fin.ofNat 24 (byteAt p 0)) (pointCfgAt k p).limit)) := by
    simp [pointWriteRequest, hlen, State.isSaving_eq_false hsave, hindex.not_ge, hkind, hspan.not_gt]
  change Host.Outcome.next (s.answer 0x10 (pointWriteRequest p)) = _
  rw [State.answer_of_takes htakes, stored, writeStatus_eq, ite_not]
  simp only [pointCfgAt_limit_eq_iff]
  rfl

section
variable {p : List Byte} {s : State}

theorem globalWriteRequest_badLength (h : p.length ≠ 13) : globalWriteRequest p s = s.refuse .badLength := by
  simp [globalWriteRequest, h]

theorem globalWriteRequest_busy (hlen : p.length = 13) (hsave : s.store.saving.isSome = true) :
    globalWriteRequest p s = s.refuse .busy := by
  simp [globalWriteRequest, hlen, State.isSaving, hsave]

theorem globalWriteRequest_badValue (hlen : p.length = 13) (hsave : s.store.saving = none)
    (h : (globalCfgAt p).divisorsOk = false) : globalWriteRequest p s = s.refuse .badValue := by
  simp [globalWriteRequest, hlen, State.isSaving_eq_false hsave, h]

theorem globalWriteRequest_stored (hlen : p.length = 13) (hsave : s.store.saving = none)
    (h : (globalCfgAt p).divisorsOk = true) :
    globalWriteRequest p s =
      (s.writeImage { s.store.written with globals := (globalCfgAt p).limit },
        Answer.mk (writeStatus ((globalCfgAt p).limit ≠ globalCfgAt p)) (globalRecord (globalCfgAt p).limit)) := by
  simp [globalWriteRequest, hlen, State.isSaving_eq_false hsave, h]

end

/-- Settles O21: the checks of GLOBAL_WRITE in their order, and GLOBAL_READ. -/
theorem globalSettingsRequests : Obligations.GlobalSettingsRequests := by
  intro p g s htakes hg
  obtain rfl : g = (globalCfgAt p).limit := hg
  refine ⟨fun hlen => ?_, fun hlen hsave => ?_, fun hlen hsave hdiv => ?_, fun hlen hsave hF hD => ?_, ?_⟩
  · exact congrArg _ (State.answer_of_refuse htakes _ (globalWriteRequest_badLength hlen))
  · exact congrArg _ (State.answer_of_refuse htakes _ (globalWriteRequest_busy hlen hsave))
  · refine congrArg _ (State.answer_of_refuse htakes _ (globalWriteRequest_badValue hlen hsave ?_))
    exact Bool.eq_false_iff.2 fun h => hdiv.elim (absurd ((globalCfgAt p).divisorsOk_iff.1 h).1)
      (absurd ((globalCfgAt p).divisorsOk_iff.1 h).2)
  · change Host.Outcome.next (s.answer 0x14 (globalWriteRequest p)) = _
    rw [State.answer_of_takes htakes,
      globalWriteRequest_stored hlen hsave ((globalCfgAt p).divisorsOk_iff.2 ⟨hF, hD⟩), writeStatus_eq, ite_not]
    simp only [globalCfgAt_limit_eq_iff]
    rfl
  · by_cases hlen : p.length = 0
    · rw [if_pos hlen]
      exact congrArg _ (State.answer_of_accept htakes _ (by simp [globalReadRequest, hlen]))
    · rw [if_neg hlen]
      exact congrArg _ (State.answer_of_refuse htakes _ (by simp [globalReadRequest, hlen]))

end Sys2Proof.Machine
end

section
/-! The jobs a capture block has, waiting or held (R83, R88, R89, R91): what giving, ending and withdrawing make of them. -/

namespace Sys2Proof.Machine

/-! ### Jobs that wait or are held (R88) -/

/-- R88: a job waits in the queue or is held by a unit. -/
def Capture.HasJob (c : Capture) (j : Job) : Prop := j ∈ c.queue ∨ ∃ k : Fin 4, (c.units[k]).job? = some j

theorem CaptureUnit.holdsPort_iff {u : CaptureUnit} {p : Fin 24} :
    u.holdsPort p = true ↔ ∃ j, u.job? = some j ∧ j.port = p := by
  unfold CaptureUnit.holdsPort
  cases u.job? <;> simp

theorem CaptureUnit.job?_eq_none_iff {u : CaptureUnit} : u.job? = none ↔ u = .idle := by
  cases u <;> simp [CaptureUnit.job?]

section
variable {c : Capture} {p : Fin 24} {j : Job}

theorem Capture.outstanding_iff : c.outstanding p = true ↔ ∃ j, c.HasJob j ∧ j.port = p := by
  simp only [Capture.outstanding, Capture.HasJob, Bool.or_eq_true, List.any_eq_true, decide_eq_true_eq,
    CaptureUnit.holdsPort_iff, List.mem_finRange, true_and, or_and_right, exists_or]
  exact or_congr_right ⟨fun ⟨k, i, hk, hp⟩ => ⟨i, ⟨k, hk⟩, hp⟩, fun ⟨i, ⟨k, hk⟩, hp⟩ => ⟨k, i, hk, hp⟩⟩

theorem Capture.outstanding_eq_false_iff : c.outstanding p = false ↔ ∀ j, c.HasJob j → j.port ≠ p := by
  rw [← Bool.not_eq_true, Capture.outstanding_iff]
  simp

theorem Capture.allEnded_iff : c.allEnded = true ↔ ∀ j, ¬c.HasJob j := by
  simp only [Capture.allEnded, Capture.HasJob, Bool.and_eq_true, List.isEmpty_iff, List.all_eq_true, List.mem_finRange,
    forall_true_left, decide_eq_true_eq, not_or, not_exists, List.eq_nil_iff_forall_not_mem, forall_and,
    Option.eq_none_iff_forall_ne_some]
  exact and_congr_right fun _ => forall_comm

theorem Capture.othersLeft_iff : c.OthersLeft p ↔ ∃ j, c.HasJob j ∧ j.port ≠ p := by
  simp only [Capture.OthersLeft, Capture.HasJob, or_and_right, exists_or]
  exact or_congr_right ⟨fun ⟨k, i, hk, hp⟩ => ⟨i, ⟨k, hk⟩, hp⟩, fun ⟨i, ⟨k, hk⟩, hp⟩ => ⟨k, i, hk, hp⟩⟩

/-- Capture blocks with the same jobs have the same points outstanding. -/
theorem Capture.outstanding_congr {d : Capture} (h : ∀ j, d.HasJob j ↔ c.HasJob j) : d.outstanding = c.outstanding := by
  funext p
  rw [Bool.eq_iff_iff, Capture.outstanding_iff, Capture.outstanding_iff]
  simp only [h]

theorem job?_set_iff {us : Vector CaptureUnit 4} {k : Fin 4} {u : CaptureUnit} :
    (∃ m : Fin 4, ((us.set k u)[m]).job? = some j) ↔ u.job? = some j ∨ ∃ m : Fin 4, m ≠ k ∧ (us[m]).job? = some j := by
  constructor
  · rintro ⟨m, hm⟩
    by_cases hk : m = k
    · subst hk
      exact .inl (by simpa using hm)
    · have : (k : Nat) ≠ m := fun e => hk (Fin.ext e.symm)
      exact .inr ⟨m, hk, by simpa [this] using hm⟩
  · rintro (hu | ⟨m, hk, hm⟩)
    · exact ⟨k, by simpa using hu⟩
    · have : (k : Nat) ≠ m := fun e => hk (Fin.ext e.symm)
      exact ⟨m, by simpa [this] using hm⟩

/-- R84: a unit whose job stays its job changes no other. -/
theorem Capture.setUnit_hasJob {k : Fin 4} {u : CaptureUnit} (h : u.job? = (c.units[k]).job?) :
    ({ c with units := c.units.set k u } : Capture).HasJob j ↔ c.HasJob j := by
  refine or_congr_right (job?_set_iff.trans ?_)
  rw [h]
  constructor
  · rintro (hk | ⟨m, -, hm⟩)
    · exact ⟨k, hk⟩
    · exact ⟨m, hm⟩
  · rintro ⟨m, hm⟩
    by_cases hk : m = k
    · exact .inl (hk ▸ hm)
    · exact .inr ⟨m, hk, hm⟩

/-! ### Giving (R83) -/

theorem Capture.giveOne_hasJob {now window : Nat} {k : Fin 4} : (c.giveOne now window k).HasJob j ↔ c.HasJob j := by
  unfold Capture.giveOne
  split
  next i rest hidle hqueue =>
    have held : (∃ m : Fin 4, (c.units[m]).job? = some j) ↔ ∃ m : Fin 4, m ≠ k ∧ (c.units[m]).job? = some j := by
      refine exists_congr fun m => ⟨fun hm => ⟨?_, hm⟩, And.right⟩
      rintro rfl
      rw [hidle] at hm
      cases hm
    unfold Capture.HasJob
    rw [job?_set_iff, held, hqueue, List.mem_cons]
    have given : (CaptureUnit.armed i now (now + window * Config.ticksPerMs)).job? = some j ↔ j = i := by
      simp [CaptureUnit.job?, eq_comm]
    rw [given]
    tauto
  next => exact .rfl

theorem State.giveJobs_hasJob {s : State} : s.giveJobs.capture.HasJob j ↔ s.capture.HasJob j := by
  rw [State.giveJobs_capture]
  exact List.foldlRecOn (motive := fun d : Capture => d.HasJob j ↔ s.capture.HasJob j) _ _ .rfl fun _ hd _ _ =>
    Capture.giveOne_hasJob.trans hd

theorem State.giveJobs_outstanding (s : State) : s.giveJobs.capture.outstanding = s.capture.outstanding :=
  Capture.outstanding_congr fun _ => State.giveJobs_hasJob

/-! ### Time and withdrawal (R84, R91) -/

theorem CaptureUnit.count_job? (level : PinLine → Fin 24 → PinLevel) (n : Nat) (u : CaptureUnit) :
    (u.count level n).job? = u.job? := by
  cases u <;> rfl

theorem State.elapse_unit (s : State) (n : Nat) (k : Fin 4) :
    (s.elapse n).capture.units[k] = (s.capture.units[k]).count s.capture.level n := by
  simp [State.elapse]

theorem State.elapse_hasJob {s : State} {n : Nat} : (s.elapse n).capture.HasJob j ↔ s.capture.HasJob j := by
  simp only [Capture.HasJob, State.elapse_queue, State.elapse_unit, CaptureUnit.count_job?]

theorem State.elapse_outstanding (s : State) (n : Nat) : (s.elapse n).capture.outstanding = s.capture.outstanding :=
  Capture.outstanding_congr fun _ => State.elapse_hasJob

theorem Capture.withdraw_unit (c : Capture) (p : Fin 24) (k : Fin 4) :
    (c.withdraw p).units[k] = if (c.units[k]).holdsPort p then .idle else c.units[k] := by
  simp [Capture.withdraw]

theorem CaptureUnit.withdrawn_job? (u : CaptureUnit) :
    (if u.holdsPort p then CaptureUnit.idle else u).job? = some j ↔ u.job? = some j ∧ j.port ≠ p := by
  split
  next h =>
    obtain ⟨i, hi, hport⟩ := CaptureUnit.holdsPort_iff.1 h
    refine iff_of_false (by simp [CaptureUnit.job?]) fun ⟨hj, hp⟩ => hp ?_
    rw [hi] at hj
    exact Option.some.inj hj ▸ hport
  next h => exact ⟨fun hj => ⟨hj, fun hp => h (CaptureUnit.holdsPort_iff.2 ⟨j, hj, hp⟩)⟩, And.left⟩

/-- R91: a withdrawal takes the jobs of its port, and no other. -/
theorem Capture.withdraw_hasJob : (c.withdraw p).HasJob j ↔ c.HasJob j ∧ j.port ≠ p := by
  unfold Capture.HasJob
  simp only [Capture.withdraw_unit, CaptureUnit.withdrawn_job?, exists_and_right, or_and_right]
  exact or_congr_left (by simp [Capture.withdraw])

theorem Capture.withdraw_outstanding (c : Capture) (p q : Fin 24) :
    (c.withdraw p).outstanding q = if q = p then false else c.outstanding q := by
  split
  next h =>
    subst h
    exact Capture.outstanding_eq_false_iff.2 fun j hj => (Capture.withdraw_hasJob.1 hj).2
  next h =>
    rw [Bool.eq_iff_iff, Capture.outstanding_iff, Capture.outstanding_iff]
    refine exists_congr fun j => ⟨fun ⟨hj, hp⟩ => ⟨(Capture.withdraw_hasJob.1 hj).1, hp⟩, fun ⟨hj, hp⟩ => ?_⟩
    exact ⟨Capture.withdraw_hasJob.2 ⟨hj, fun e => h (hp.symm.trans e)⟩, hp⟩

end

/-! ### The end of a job (R88) -/

/-- R88: the job `j` of unit `k` has ended: the unit is IDLE and the outcome handed on. -/
def State.handOn (s : State) (k : Fin 4) (j : Job) (o : JobOutcome) : State :=
  { s with capture := { s.capture with
      units := s.capture.units.set k .idle
      outcomes := s.capture.outcomes ++ [EndedJob.mk j.port j.line o] } }

/-- R88: what the end of a job is, up to the arbiter's next turn: the point is converted when it was its last job. -/
def State.jobEnded (s : State) (k : Fin 4) (j : Job) (o : JobOutcome) : State :=
  if (s.handOn k j o).capture.outstanding j.port then s.handOn k j o else (s.handOn k j o).convert j.port

theorem State.endJob_eq (s : State) (k : Fin 4) (j : Job) (o : JobOutcome) : s.endJob k j o = (s.jobEnded k j o).settle := rfl

section
variable {s : State} {k : Fin 4} {j i : Job} {o : JobOutcome}

theorem State.handOn_hasJob : (s.handOn k j o).capture.HasJob i ↔
    i ∈ s.capture.queue ∨ ∃ m : Fin 4, m ≠ k ∧ (s.capture.units[m]).job? = some i := by
  refine or_congr_right (job?_set_iff.trans ?_)
  simp [CaptureUnit.job?]

/-- R88: the end of a unit's job leaves every other point what it has outstanding. -/
theorem State.handOn_outstanding (h : (s.capture.units[k]).job? = some j) {p : Fin 24} (hp : p ≠ j.port) :
    (s.handOn k j o).capture.outstanding p = s.capture.outstanding p := by
  rw [Bool.eq_iff_iff, Capture.outstanding_iff, Capture.outstanding_iff]
  refine exists_congr fun i => and_congr_left fun hi => ?_
  rw [State.handOn_hasJob]
  refine or_congr_right ⟨fun ⟨m, _, hm⟩ => ⟨m, hm⟩, fun ⟨m, hm⟩ => ⟨m, ?_, hm⟩⟩
  rintro rfl
  rw [h] at hm
  cases hm
  exact hp hi.symm

end

end Sys2Proof.Machine
end

section
/-! The law of the purge controller, point by point (R59, R69, R97 to R101): what each event of the points, the purges and the
capture jobs makes of it. -/

namespace Sys2Proof.Machine

/-! ### The law at one point -/

/-- R59, R69, R97 to R101: what the purge controller holds for a point agrees with its record: whether it waits in the queue,
holds a grant, runs its recovery timer, and has a capture job. -/
structure PointRec.Agrees (r : PointRec) (waits granted : Prop) (recovers busy : Bool) : Prop where
  waits : waits ↔ r.run.phase = .waiting
  heats : granted ↔ r.run.phase = .heating
  recovers : recovers = true ↔ r.run.phase = .recovering
  kind : r.run.phase ≠ .none → r.cfg.kind = .air
  reads : r.run.phase = .waiting ∨ r.run.phase = .heating ∨ r.run.phase = .recovering → r.run.readings.isAir = true
  good : r.cfg.kind = .air → r.run.health.goodOrHolding = true → r.run.readings.isAir = true
  frozen : r.run.frozen.isSome = true ↔ r.run.phase = .heating ∨ r.run.phase = .recovering
  free : r.run.phase = .heating ∨ r.run.phase = .recovering → busy = false

/-- What the laws of the purge controller and of the point records speak of. -/
structure PurgeSide where
  points     : Vector PointRec 24
  granted    : List (Fin 24)
  queue      : List PurgeEntry
  recovering : Fin 24 → Bool
  busy       : Fin 24 → Bool

/-- These data of a state. -/
def State.purgeSide (s : State) : PurgeSide :=
  { points := s.points, granted := s.purge.grants.map Grant.point, queue := s.purge.queue
    recovering := fun p => (s.purge.recovery[p]).isSome, busy := s.capture.outstanding }

/-- The law but for its last clause: a grant may stand free while a point waits. -/
structure PurgeSide.Open (d : PurgeSide) : Prop where
  few : d.granted.length ≤ 2
  granted : d.granted.Nodup
  queue : (d.queue.map PurgeEntry.point).Nodup
  agrees : ∀ p : Fin 24,
    (d.points[p]).Agrees (p ∈ d.queue.map PurgeEntry.point) (p ∈ d.granted) (d.recovering p) (d.busy p)

theorem State.purgeLaw_iff (s : State) :
    s.PurgeLaw ↔ s.purgeSide.Open ∧ (s.purge.queue ≠ [] → s.purge.grants.length = 2) := by
  constructor
  · rintro ⟨⟨hfew, hgrants, hqueue, hfull, harbiter⟩, hphase⟩
    refine ⟨⟨by simpa [State.purgeSide] using hfew, hgrants, hqueue, fun p => ?_⟩, hfull⟩
    obtain ⟨hwaits, hheats, hrecovers⟩ := harbiter p
    obtain ⟨hkind, hreads, hgood, hfrozen, hfree⟩ := hphase p
    exact ⟨hwaits, hheats, hrecovers, hkind, hreads, hgood, hfrozen, hfree⟩
  · rintro ⟨⟨hfew, hgrants, hqueue, hagrees⟩, hfull⟩
    exact ⟨⟨by simpa [State.purgeSide] using hfew, hgrants, hqueue, hfull,
        fun p => ⟨(hagrees p).waits, (hagrees p).heats, (hagrees p).recovers⟩⟩,
      fun p => ⟨(hagrees p).kind, (hagrees p).reads, (hagrees p).good, (hagrees p).frozen, (hagrees p).free⟩⟩

theorem State.PurgeLaw.isOpen {s : State} (h : s.PurgeLaw) : s.purgeSide.Open := (s.purgeLaw_iff.1 h).1

theorem State.PurgeLaw.full {s : State} (h : s.PurgeLaw) : s.purge.queue ≠ [] → s.purge.grants.length = 2 :=
  (s.purgeLaw_iff.1 h).2

/-- The law speaks of these data alone. -/
theorem State.PurgeLaw.frame {s t : State} (h : s.PurgeLaw) (hside : t.purgeSide = s.purgeSide) : t.PurgeLaw := by
  have hqueue : t.purge.queue = s.purge.queue := congrArg PurgeSide.queue hside
  have hgrants : t.purge.grants.map Grant.point = s.purge.grants.map Grant.point := congrArg PurgeSide.granted hside
  have hlength : t.purge.grants.length = s.purge.grants.length := by simpa using congrArg List.length hgrants
  refine t.purgeLaw_iff.2 ⟨hside ▸ h.isOpen, ?_⟩
  rw [hqueue, hlength]
  exact h.full

/-- An event at one point keeps the law open when the data of every other point stay, or lose a capture job. -/
theorem PurgeSide.Open.at {d e : PurgeSide} (h : d.Open) (p : Fin 24) (few : e.granted.length ≤ 2)
    (granted : e.granted.Nodup) (queue : (e.queue.map PurgeEntry.point).Nodup)
    (others : ∀ q : Fin 24, q ≠ p → e.points[q] = d.points[q] ∧ (q ∈ e.queue.map PurgeEntry.point ↔ q ∈ d.queue.map PurgeEntry.point)
      ∧ (q ∈ e.granted ↔ q ∈ d.granted) ∧ e.recovering q = d.recovering q ∧ (d.busy q = false → e.busy q = false))
    (own : (e.points[p]).Agrees (p ∈ e.queue.map PurgeEntry.point) (p ∈ e.granted) (e.recovering p) (e.busy p)) : e.Open := by
  refine ⟨few, granted, queue, fun q => ?_⟩
  by_cases hq : q = p
  · exact hq ▸ own
  · obtain ⟨hpoint, hwaits, hheats, hrecovers, hbusy⟩ := others q hq
    obtain ⟨waits, heats, recovers, kind, reads, good, frozen, free⟩ := h.agrees q
    rw [hpoint]
    exact ⟨hwaits.trans waits, hheats.trans heats, hrecovers ▸ recovers, kind, reads, good, frozen, fun hf => hbusy (free hf)⟩

/-! ### The record at its own events -/

@[simp] theorem Readings.isAir_addHeld (r : Readings) : r.addHeld.isAir = r.isAir := by cases r <;> rfl

theorem Readings.isSome_freeze (r : Readings) : r.freeze.isSome = r.isAir := by cases r <;> rfl

section
variable {r : PointRec} {queued held : Prop} {timed busy : Bool}

/-- R99: a waiting point is granted. -/
theorem PointRec.Agrees.granted (h : r.Agrees queued held timed busy) (hwaits : queued) (o : PurgeOrigin) :
    (r.granted o).Agrees False True timed false := by
  have phase := h.waits.1 hwaits
  have air := h.reads (.inl phase)
  have recovers := h.recovers
  constructor <;> simp_all [PointRec.granted, PointRun.granted, Readings.isSome_freeze, h.kind]

/-- R96, R106: a point that has AIR readings enters WAITING. -/
theorem PointRec.Agrees.enterWaiting (h : r.Agrees queued held timed busy) {new : PointRun}
    (hphase : r.run.phase = .none ∨ r.run.phase = .soaked) (hnew : new.phase = .waiting) (hfrozen : new.frozen = r.run.frozen)
    (hair : new.readings.isAir = true) (hkind : r.cfg.kind = .air) :
    ({ r with run := new } : PointRec).Agrees True held timed busy := by
  have heats := h.heats
  have recovers := h.recovers
  have frozen := h.frozen
  obtain e | e := hphase <;> constructor <;> simp_all

/-- R63 to R65: a conversion of a point outside HEATING and RECOVERING, which leaves the purge queue as it was or takes a point
that leaves WAITING off it. -/
theorem PointRec.Agrees.converted (h : r.Agrees queued held timed busy) {new : PointRun} {queued' : Prop}
    (hold : r.run.phase ≠ .heating ∧ r.run.phase ≠ .recovering) (hnew : new.phase ≠ .heating ∧ new.phase ≠ .recovering)
    (hwaits : queued' ↔ new.phase = .waiting)
    (hfrozen : new.frozen = r.run.frozen) (hkind : new.phase ≠ .none → r.cfg.kind = .air)
    (hreads : new.phase = .waiting → new.readings.isAir = true)
    (hgood : r.cfg.kind = .air → new.health.goodOrHolding = true → new.readings.isAir = true) :
    ({ r with run := new } : PointRec).Agrees queued' held timed busy := by
  have heats := h.heats
  have recovers := h.recovers
  have frozen := h.frozen
  constructor <;> simp_all

/-- R103: a heated point recovers. -/
theorem PointRec.Agrees.recovering (h : r.Agrees queued held timed busy) (hgranted : held) :
    ({ r with run := { r.run with phase := .recovering } } : PointRec).Agrees queued False true busy := by
  have phase := h.heats.1 hgranted
  have waits := h.waits
  have kind := h.kind
  have reads := h.reads
  have good := h.good
  have frozen := h.frozen
  have free := h.free
  constructor <;> simp_all

/-- R104: a point has recovered. -/
theorem PointRec.Agrees.recovered (h : r.Agrees queued held timed busy) (hrecovers : timed = true) :
    ({ r with run := r.run.recovered } : PointRec).Agrees queued held false busy := by
  have phase := h.recovers.1 hrecovers
  have waits := h.waits
  have heats := h.heats
  have good := h.good
  constructor <;> simp_all [PointRun.recovered]

/-- R72, R73: a point that starts afresh. -/
theorem PointRec.fresh_agrees (c : PointCfg) (busy : Bool) : (PointRec.fresh c).Agrees False False false busy := by
  constructor <;> simp [PointRec.fresh, PointRun.fresh]
  cases c.kind <;> simp [PointKind.startHealth, Health.goodOrHolding]

end

end Sys2Proof.Machine
end

section
/-! The events of the points, the purges and the capture jobs keep the law of the purge controller (R63 to R65, R71, R81, R96, R99,
R100, R103, R104, R106, R108). -/

namespace Sys2Proof.Machine

section
variable {s t : State} {p : Fin 24}

/-! ### Grants (R99, R100) -/

theorem PurgeSide.Open.phase_of_queued {d : PurgeSide} (h : d.Open) {e : PurgeEntry} (he : e ∈ d.queue) :
    (d.points[e.point]).run.phase = .waiting :=
  (h.agrees e.point).waits.1 (List.mem_map_of_mem he)

theorem getElem_set_self {points : Vector PointRec 24} {r : PointRec} : (points.set p r)[p] = r := by simp

theorem getElem_set_of_ne {points : Vector PointRec 24} {r : PointRec} {q : Fin 24} (h : q ≠ p) :
    (points.set p r)[q] = points[q] := by
  have : (p : Nat) ≠ q := fun e => h (Fin.ext e.symm)
  simp [this]

/-- R99: the data once the head entry `e` of the queue is granted, `rest` being the entries behind it. -/
def PurgeSide.grant (d : PurgeSide) (e : PurgeEntry) (rest : List PurgeEntry) : PurgeSide :=
  { points := d.points.set e.point ((d.points[e.point]).granted e.origin), granted := d.granted ++ [e.point], queue := rest
    recovering := d.recovering, busy := fun q => if q = e.point then false else d.busy q }

theorem State.grant_purgeSide (s : State) (e : PurgeEntry) (rest : List PurgeEntry) :
    (State.grant { s with purge := { s.purge with queue := rest } } e).1.purgeSide = s.purgeSide.grant e rest := by
  have busy : (s.capture.withdraw e.point).outstanding = fun q => if q = e.point then false else s.capture.outstanding q :=
    funext fun q => Capture.withdraw_outstanding _ _ _
  have granted : (s.purge.grants ++ [s.grantFor e]).map Grant.point = s.purge.grants.map Grant.point ++ [e.point] := by
    simp [State.grantFor, Grant.start]
  simp only [PurgeSide.grant, State.purgeSide, ← busy, ← granted]
  rfl

/-- R99: a grant to the head of the queue keeps the law open. -/
theorem PurgeSide.Open.grant {d : PurgeSide} (h : d.Open) {e : PurgeEntry} {rest : List PurgeEntry}
    (hqueue : d.queue = e :: rest) (hfree : d.granted.length < 2) : (d.grant e rest).Open := by
  obtain ⟨hhead, hrest⟩ : e.point ∉ rest.map PurgeEntry.point ∧ (rest.map PurgeEntry.point).Nodup := by
    have := h.queue
    rw [hqueue, List.map_cons] at this
    exact List.nodup_cons.1 this
  have own := h.agrees e.point
  have hqueued : e.point ∈ d.queue.map PurgeEntry.point := by simp [hqueue]
  have hfresh : e.point ∉ d.granted := fun hmem => by
    have := own.waits.1 hqueued
    rw [own.heats.1 hmem] at this
    cases this
  refine h.at e.point ?_ ?_ hrest (fun q hq => ⟨getElem_set_of_ne hq, ?_, ?_, rfl, ?_⟩) ?_
  · simpa [PurgeSide.grant] using hfree
  · simpa [PurgeSide.grant] using h.granted.concat hfresh
  · simp [PurgeSide.grant, hqueue, hq]
  · simp [PurgeSide.grant, hq]
  · simp [PurgeSide.grant, hq]
  · simpa [PurgeSide.grant, hhead] using own.granted hqueued e.origin

theorem State.serveOne_open (h : s.purgeSide.Open) : s.serveOne.1.purgeSide.Open := by
  obtain ⟨e, rest, hqueue, hfree, heq⟩ | ⟨-, heq⟩ := s.serveOne_cases <;> rw [heq]
  · rw [State.grant_purgeSide]
    exact h.grant hqueue (by simpa [State.purgeSide] using hfree)
  · exact h

/-- R99, R100: after serving, no grant stands free while a point waits. -/
theorem State.serve_purgeLaw (h : s.purgeSide.Open) : s.serve.1.PurgeLaw := by
  have opened : s.serve.1.purgeSide.Open := State.serveOne_open (State.serveOne_open h)
  refine (State.purgeLaw_iff _).2 ⟨opened, fun hne => ?_⟩
  have serves := s.serve_serves h.queue
  have few : s.serve.1.purge.grants.length ≤ 2 := by simpa [State.purgeSide] using opened.few
  have left := congrArg List.length (List.append_cancel_left (serves.head.symm.trans (List.take_append_drop _ _).symm))
  have grants := congrArg List.length serves.grants
  have waits := List.length_pos_iff.2 hne
  simp only [List.length_append, List.length_map, List.length_take, List.length_drop] at left grants
  omega

/-! ### A point's runtime part recorded (R63 to R65, R96, R106) -/

/-- The data with the runtime part of `p` and the purge queue replaced. -/
def PurgeSide.record (d : PurgeSide) (p : Fin 24) (run : PointRun) (queue : List PurgeEntry) : PurgeSide :=
  { d with points := d.points.set p { d.points[p] with run := run }, queue := queue }

section
variable {d : PurgeSide} {run : PointRun}

/-- A point that enters WAITING joins the queue. -/
theorem PurgeSide.Open.arrive (h : d.Open)
    (hphase : (d.points[p]).run.phase = .none ∨ (d.points[p]).run.phase = .soaked) (hrun : run.phase = .waiting)
    (hfrozen : run.frozen = (d.points[p]).run.frozen) (hair : run.readings.isAir = true)
    (hkind : (d.points[p]).cfg.kind = .air) (o : PurgeOrigin) :
    (d.record p run (d.queue ++ [{ point := p, origin := o }])).Open := by
  have own := h.agrees p
  have unqueued : p ∉ d.queue.map PurgeEntry.point := fun hmem => by
    rw [own.waits.1 hmem] at hphase
    simp at hphase
  refine h.at p h.few h.granted ?_ (fun q hq => ⟨getElem_set_of_ne hq, ?_, .rfl, rfl, id⟩) ?_
  · simpa [PurgeSide.record] using h.queue.concat unqueued
  · simp [PurgeSide.record, hq]
  · simpa [PurgeSide.record] using own.enterWaiting hphase hrun hfrozen hair hkind

/-- A converted point stays out of HEATING and RECOVERING; one that leaves WAITING leaves the queue. -/
theorem PurgeSide.Open.convert (h : d.Open)
    (hold : (d.points[p]).run.phase ≠ .heating ∧ (d.points[p]).run.phase ≠ .recovering)
    (hphase : run.phase = (d.points[p]).run.phase
      ∨ (run.phase = .none ∨ run.phase = .soaked) ∧ ((d.points[p]).run.phase = .waiting → run.phase = .none))
    (hfrozen : run.frozen = (d.points[p]).run.frozen) (hkind : run.phase ≠ .none → (d.points[p]).cfg.kind = .air)
    (hreads : run.phase = .waiting → run.readings.isAir = true)
    (hgood : (d.points[p]).cfg.kind = .air → run.health.goodOrHolding = true → run.readings.isAir = true) :
    (d.record p run
      (if (d.points[p]).run.phase = .waiting ∧ run.phase = .none then d.queue.filter fun e => e.point ≠ p
        else d.queue)).Open := by
  have own := h.agrees p
  refine h.at p h.few h.granted ?_ (fun q hq => ⟨getElem_set_of_ne hq, ?_, .rfl, rfl, id⟩) ?_
  · unfold PurgeSide.record
    dsimp only
    split
    · exact h.queue.sublist (List.filter_sublist.map _)
    · exact h.queue
  · unfold PurgeSide.record
    dsimp only
    split
    · simp only [List.mem_map, List.mem_filter, decide_eq_true_eq]
      exact exists_congr fun e => ⟨fun ⟨⟨he, _⟩, hq⟩ => ⟨he, hq⟩, fun ⟨he, heq⟩ => ⟨⟨he, heq ▸ hq⟩, heq⟩⟩
    · rfl
  · have waits : p ∈ (if (d.points[p]).run.phase = .waiting ∧ run.phase = .none then d.queue.filter fun e => e.point ≠ p
        else d.queue).map PurgeEntry.point ↔ run.phase = .waiting := by
      split
      next hleft => simp [hleft]
      next hleft =>
        rw [show p ∈ d.queue.map PurgeEntry.point ↔ _ from own.waits]
        constructor
        · intro hw
          obtain e | ⟨e | e, himp⟩ := hphase
          · exact e.trans hw
          · exact absurd ⟨hw, e⟩ hleft
          · rw [himp hw] at e
            cases e
        · intro hw
          obtain e | ⟨e | e, -⟩ := hphase
          · exact e.symm.trans hw
          · rw [e] at hw
            cases hw
          · rw [e] at hw
            cases hw
    have outside : run.phase ≠ .heating ∧ run.phase ≠ .recovering := by
      obtain e | ⟨e | e, -⟩ := hphase <;> rw [e]
      · exact hold
      · decide
      · decide
    simpa [PurgeSide.record] using own.converted hold outside waits hfrozen hkind hreads hgood

/-- A point that keeps its phase, or moves between NONE and SOAKED, leaves the queue as it is. -/
theorem PurgeSide.Open.reading (h : d.Open)
    (hold : (d.points[p]).run.phase ≠ .heating ∧ (d.points[p]).run.phase ≠ .recovering)
    (hphase : run.phase = (d.points[p]).run.phase
      ∨ ((d.points[p]).run.phase = .none ∨ (d.points[p]).run.phase = .soaked) ∧ (run.phase = .none ∨ run.phase = .soaked))
    (hfrozen : run.frozen = (d.points[p]).run.frozen) (hkind : run.phase ≠ .none → (d.points[p]).cfg.kind = .air)
    (hreads : run.phase = .waiting → run.readings.isAir = true)
    (hgood : (d.points[p]).cfg.kind = .air → run.health.goodOrHolding = true → run.readings.isAir = true) :
    (d.record p run d.queue).Open := by
  have stays : ¬((d.points[p]).run.phase = .waiting ∧ run.phase = .none) := by
    rintro ⟨hw, hn⟩
    rw [hw, hn] at hphase
    revert hphase
    decide
  have kept := h.convert (p := p) (run := run) hold
    (hphase.imp_right fun ⟨ho, hr⟩ => ⟨hr, fun hw => absurd (hw ▸ ho) (by decide)⟩) hfrozen hkind hreads hgood
  rwa [if_neg stays] at kept

end

end

end Sys2Proof.Machine
end

section
/-! The conversion of a point, case by case (R60 to R65, R95), and the law of the purge controller at the events of the blocks. -/

namespace Sys2Proof.Machine

/-! ### Conversions case by case (R60, R63, R64) -/

theorem kind_of_conversionOf_surface {c : PointCfg} {f d : Option JobOutcome} {t : Int}
    (h : conversionOf c f d = some (.surface t)) : c.kind = .surface := by
  unfold conversionOf at h
  split at h
  · cases h
  · assumption
  · split at h
    · cases h
    · cases h
    · split at h <;> cases h
    · cases h

theorem kind_of_conversionOf_air {c : PointCfg} {f d : Option JobOutcome} {raw t : Int}
    (h : conversionOf c f d = some (.air raw t)) : c.kind = .air := by
  unfold conversionOf at h
  split at h
  · cases h
  · split at h <;> cases h
  · assumption

/-- R64, R65: what a failed conversion keeps. A point that enters FAULT leaves WAITING and SOAKED for NONE. -/
theorem PointRun.failed_keeps (r : PointRun) (w : WorkGlobals) (num : SweepNo) (cause : FailCause) :
    ((r.failed w num cause).phase = r.phase
        ∨ (r.failed w num cause).phase = .none ∧ (r.phase = .waiting ∨ r.phase = .soaked))
      ∧ (r.failed w num cause).frozen = r.frozen ∧ (r.failed w num cause).readings.isAir = r.readings.isAir
      ∧ ((r.failed w num cause).health.goodOrHolding = true → r.health.goodOrHolding = true) := by
  have fault : (r.enterFault.phase = r.phase ∨ r.enterFault.phase = .none ∧ (r.phase = .waiting ∨ r.phase = .soaked))
      ∧ r.enterFault.frozen = r.frozen ∧ r.enterFault.readings.isAir = r.readings.isAir
      ∧ (r.enterFault.health.goodOrHolding = true → r.health.goodOrHolding = true) := by
    refine ⟨?_, rfl, Readings.isAir_addHeld _, fun h => by cases h⟩
    unfold PointRun.enterFault
    cases r.phase <;> simp
  unfold PointRun.failed
  dsimp only
  split
  · exact ⟨.inl rfl, rfl, rfl, id⟩
  · exact ⟨.inl rfl, rfl, rfl, id⟩
  · split
    · exact fault
    · exact ⟨.inl rfl, rfl, rfl, id⟩
  next hoff hfault hnew =>
    split
    · exact fault
    · refine ⟨.inl rfl, rfl, Readings.isAir_addHeld _, fun _ => ?_⟩
      cases hr : r.health <;> simp_all [Health.goodOrHolding]

/-- R95: the saturation step keeps the phase, moves it between NONE and SOAKED, or arrives from NONE at WAITING. -/
theorem satStep_phase (w : WorkGlobals) (r : PointRun) (rh : Nat) :
    (satStep w r rh).2 = true ∧ r.phase = .none ∧ (satStep w r rh).1.phase = .waiting
      ∨ (satStep w r rh).2 = false ∧ ((satStep w r rh).1.phase = r.phase
          ∨ (r.phase = .none ∨ r.phase = .soaked) ∧ ((satStep w r rh).1.phase = .none ∨ (satStep w r rh).1.phase = .soaked)) := by
  unfold satStep
  cases hphase : r.phase <;> dsimp only <;> repeat' split
  all_goals simp_all

section
variable {s : State} {p : Fin 24}

/-- R60: what the outcomes handed on for a point come to. -/
def State.conversion (s : State) (p : Fin 24) : Option Conversion :=
  conversionOf (s.points[p]).cfg (s.capture.outcomeOf p .f) (s.capture.outcomeOf p .d)

/-- R88: the outcomes of a point are taken off the list. -/
def State.consumed (s : State) (p : Fin 24) : State := { s with capture := s.capture.consume p }

/-- R107: the outcomes of a point that failed are taken off the list, and its entry off the purge queue when it leaves WAITING
for `new`. -/
def State.consumedFailed (s : State) (p : Fin 24) (new : PointRun) : State :=
  { s.consumed p with purge := { s.purge with
      queue :=
        if (s.points[p]).run.phase = .waiting ∧ new.phase = .none then s.purge.queue.filter fun e => e.point ≠ p
        else s.purge.queue } }

theorem State.convert_of_none (h : s.conversion p = none) : s.convert p = s.consumed p := by
  unfold State.conversion at h
  simp only [State.convert, h]
  rfl

theorem State.convert_of_failed {cause : FailCause} (h : s.conversion p = some (.failed cause)) {new : PointRun}
    (hnew : new = (s.points[p]).run.failed s.work s.sweep.number cause) :
    s.convert p = (s.consumedFailed p new).recordPoint p new := by
  unfold State.conversion at h
  subst hnew
  simp only [State.convert, h, State.consumedFailed, Bool.and_eq_true, decide_eq_true_eq]
  split <;> rfl

theorem State.convert_of_surface {t : Int} (h : s.conversion p = some (.surface t)) :
    s.convert p = (s.consumed p).recordPoint p ((s.points[p]).run.madeGood s.sweep.number (.surface t {})) := by
  unfold State.conversion at h
  simp only [State.convert, h]
  rfl

theorem State.convert_of_air {raw t : Int} (h : s.conversion p = some (.air raw t)) {g : PointRun × Bool}
    (hg : g = (s.points[p]).run.goodAir s.work s.sweep.number raw t) :
    s.convert p = if g.2 = true then ((s.consumed p).recordPoint p g.1).arrivePurge p .auto
      else (s.consumed p).recordPoint p g.1 := by
  unfold State.conversion at h
  subst hg
  simp only [State.convert, h]
  rfl

end

/-- R96, R106: the purge queue with an entry for `p` at its tail, not yet served. -/
def State.queued (s : State) (p : Fin 24) (o : PurgeOrigin) : State :=
  { s with purge := { s.purge with queue := s.purge.queue ++ [{ point := p, origin := o }] } }

theorem State.arrivePurge_eq (s : State) (p : Fin 24) (o : PurgeOrigin) :
    s.arrivePurge p o = (s.queued p o).serve.1.offer (bySubject (s.queued p o).serve.2) := rfl

/-! ### The law at the end of a job (R63 to R65, R88, R95, R99) -/

section
variable {s : State} {p : Fin 24}

/-- R96, R106: a point outside the purges enters WAITING and joins the queue. -/
theorem State.PurgeLaw.queued {u : State} {run : PointRun} (h : s.PurgeLaw)
    (hu : u.purgeSide = s.purgeSide.record p run s.purge.queue)
    (hphase : (s.points[p]).run.phase = .none ∨ (s.points[p]).run.phase = .soaked) (hrun : run.phase = .waiting)
    (hfrozen : run.frozen = (s.points[p]).run.frozen) (hair : run.readings.isAir = true)
    (hkind : (s.points[p]).cfg.kind = .air) (o : PurgeOrigin) : (u.queued p o).purgeSide.Open := by
  have queue : u.purge.queue = s.purge.queue := congrArg PurgeSide.queue hu
  have side : (u.queued p o).purgeSide = { u.purgeSide with queue := u.purge.queue ++ [{ point := p, origin := o }] } := rfl
  rw [side, hu, queue]
  exact h.isOpen.arrive hphase hrun hfrozen hair hkind o

/-- R99: an arrival serves the queue. -/
theorem State.PurgeLaw.arrivePurge {o : PurgeOrigin} (h : (s.queued p o).purgeSide.Open) : (s.arrivePurge p o).PurgeLaw :=
  (State.serve_purgeLaw h).frame rfl

theorem State.PurgeLaw.of_open {t : State} (h : s.PurgeLaw) (ht : t.purgeSide.Open)
    (hqueue : t.purge.queue ≠ [] → s.purge.queue ≠ []) (hgrants : t.purge.grants = s.purge.grants) : t.PurgeLaw :=
  t.purgeLaw_iff.2 ⟨ht, fun hne => hgrants ▸ h.full (hqueue hne)⟩

/-- R63 to R65, R95: the conversion of a point that is neither heated nor recovering. -/
theorem State.PurgeLaw.convert (h : s.PurgeLaw)
    (hold : (s.points[p]).run.phase ≠ .heating ∧ (s.points[p]).run.phase ≠ .recovering) : (s.convert p).PurgeLaw := by
  have opened := h.isOpen
  have own : (s.points[p]).Agrees _ _ _ _ := opened.agrees p
  cases hconv : s.conversion p with
  | none =>
    rw [State.convert_of_none hconv]
    exact h.frame rfl
  | some c =>
    cases c with
    | failed cause =>
      have keeps := (s.points[p]).run.failed_keeps s.work s.sweep.number cause
      rw [State.convert_of_failed hconv rfl]
      generalize (s.points[p]).run.failed s.work s.sweep.number cause = new at keeps ⊢
      obtain ⟨hphase, hfrozen, hair, hgood⟩ := keeps
      have moved : new.phase = (s.points[p]).run.phase
          ∨ (new.phase = .none ∨ new.phase = .soaked) ∧ ((s.points[p]).run.phase = .waiting → new.phase = .none) :=
        hphase.imp_right fun ⟨hn, _⟩ => ⟨.inl hn, fun _ => hn⟩
      have stays (hn : new.phase ≠ .none) : new.phase = (s.points[p]).run.phase := hphase.resolve_right fun ⟨hn', _⟩ => hn hn'
      refine h.of_open (opened.convert (p := p) (run := new) hold moved hfrozen ?_ ?_ ?_) ?_ rfl
      · exact fun hn => own.kind (stays hn ▸ hn)
      · intro hw
        exact hair.trans (own.reads (.inl ((stays (by rw [hw]; decide)).symm.trans hw)))
      · exact fun hk hg => hair.trans (own.good hk (hgood hg))
      · intro hne hnil
        refine hne ?_
        show (if _ then _ else _) = _
        rw [hnil]
        simp
    | surface t =>
      have hkind := kind_of_conversionOf_surface hconv
      have unphased : (s.points[p]).run.phase = .none := by
        by_contra hn
        rw [own.kind hn] at hkind
        cases hkind
      rw [State.convert_of_surface hconv]
      exact h.of_open (opened.reading (p := p) (run := (s.points[p]).run.madeGood s.sweep.number (.surface t {})) hold
        (.inl rfl) rfl own.kind (fun hw => by cases unphased.symm.trans hw) (fun hk => by cases hkind.symm.trans hk)) id rfl
    | air raw t =>
      have hkind := kind_of_conversionOf_air hconv
      have step := satStep_phase s.work (s.points[p]).run (measuredRh raw)
      have frozen := (satStep_keeps s.work (s.points[p]).run (measuredRh raw)).2
      rw [State.convert_of_air hconv rfl]
      split
      next harrives =>
        obtain ⟨-, hnone, hwaiting⟩ | ⟨hstays, -⟩ := step
        · exact State.PurgeLaw.arrivePurge (h.queued (run := ((s.points[p]).run.goodAir s.work s.sweep.number raw t).1) rfl
            (.inl hnone) hwaiting frozen rfl hkind .auto)
        · cases harrives.symm.trans hstays
      next harrives =>
        obtain ⟨harrived, -⟩ | ⟨-, hphase⟩ := step
        · exact absurd harrived harrives
        · exact h.of_open (opened.reading (p := p) (run := ((s.points[p]).run.goodAir s.work s.sweep.number raw t).1) hold
            hphase frozen (fun _ => hkind) (fun _ => rfl) (fun _ _ => rfl)) id rfl

/-- R88: while a point's job is outstanding it is neither heated nor recovering. -/
theorem State.PurgeLaw.unheated (h : s.PurgeLaw) (hp : s.capture.outstanding p = true) :
    (s.points[p]).run.phase ≠ .heating ∧ (s.points[p]).run.phase ≠ .recovering := by
  have free := (h.isOpen.agrees p).free
  refine ⟨fun e => ?_, fun e => ?_⟩
  · exact absurd (hp.symm.trans (free (.inl e))) (by decide)
  · exact absurd (hp.symm.trans (free (.inr e))) (by decide)

theorem Capture.outstanding_of_unit {c : Capture} {k : Fin 4} {j : Job} (h : (c.units[k]).job? = some j) :
    c.outstanding j.port = true :=
  Capture.outstanding_iff.2 ⟨j, .inr ⟨k, h⟩, rfl⟩

/-- R88: the end of a job leaves the law; the point may be free of jobs now. -/
theorem State.PurgeLaw.handOn (h : s.PurgeLaw) {k : Fin 4} {j : Job} (hj : (s.capture.units[k]).job? = some j)
    (o : JobOutcome) : (s.handOn k j o).PurgeLaw := by
  have unheated := h.unheated (Capture.outstanding_of_unit hj)
  refine h.of_open (h.isOpen.at j.port h.isOpen.few h.isOpen.granted h.isOpen.queue
    (fun q hq => ⟨rfl, .rfl, .rfl, rfl, fun hb => (State.handOn_outstanding hj hq).trans hb⟩) ?_) id rfl
  have own : (s.points[j.port]).Agrees _ _ _ _ := h.isOpen.agrees j.port
  exact { own with free := fun hf => (hf.elim unheated.1 unheated.2).elim }

theorem State.PurgeLaw.jobEnded (h : s.PurgeLaw) {k : Fin 4} {j : Job} (hj : (s.capture.units[k]).job? = some j)
    (o : JobOutcome) : (s.jobEnded k j o).PurgeLaw := by
  unfold State.jobEnded
  split
  · exact h.handOn hj o
  · exact (h.handOn hj o).convert (h.unheated (Capture.outstanding_of_unit hj))

/-! ### The law at the other events -/

/-- R96, R99, R106: an accepted PURGE. -/
theorem State.PurgeLaw.purgeArrives (h : s.PurgeLaw) (hp : (s.points[p]).purgeable = true) :
    ((s.recordPoint p { (s.points[p]).run with phase := .waiting, satRun := 0 }).arrivePurge p .manual).PurgeLaw := by
  have own : (s.points[p]).Agrees _ _ _ _ := h.isOpen.agrees p
  simp only [PointRec.purgeable, Bool.and_eq_true, Bool.or_eq_true, decide_eq_true_eq] at hp
  obtain ⟨⟨hkind, hgood⟩, hphase⟩ := hp
  exact State.PurgeLaw.arrivePurge (h.queued (run := { (s.points[p]).run with phase := .waiting, satRun := 0 }) rfl hphase
    rfl rfl (own.good hkind hgood) hkind .manual)

end

end Sys2Proof.Machine
end

section
/-! The law of the purge controller at the timers, the adoption, the building of the job queue, RESTART and the starts (R71, R81, R103,
R104, R108, R109). -/

namespace Sys2Proof.Machine

section
variable {s : State} {p : Fin 24}

/-! ### Timers (R103, R104) -/

/-- R103: the purge of a point has ended: its grant is released and its recovery timer runs; the queue is not yet served. -/
def State.purgeEnded (s : State) (p : Fin 24) : State :=
  let ends := s.now + s.store.written.globals.recoveryTime * Config.ticksPerSecond
  { s.setRun p { (s.points[p]).run with phase := .recovering } with
    purge := { s.purge.release p with recovery := s.purge.recovery.set p (some ends) } }

theorem State.purgeExpires_eq (s : State) (p : Fin 24) : s.purgeExpires p =
    ((s.purgeEnded p).serve.1.offer
      (bySubject (pointNotice s.sweep.number p (s.points[p]).run { (s.points[p]).run with phase := .recovering }
        ++ (s.purgeEnded p).serve.2))).settle := rfl

theorem Purge.mem_of_grantOf {u : Purge} {g : Grant} (h : u.grantOf p = some g) : g ∈ u.grants ∧ g.point = p :=
  ⟨List.mem_of_find?_eq_some h, by simpa using List.find?_some h⟩

theorem State.recovering_set (s : State) (p q : Fin 24) (t : Option Nat) :
    ((s.purge.recovery.set p t)[q]).isSome = if q = p then t.isSome else (s.purge.recovery[q]).isSome := by
  split
  next h => subst h; simp
  next h =>
    have : (p : Nat) ≠ q := fun e => h (Fin.ext e.symm)
    simp [this]

/-- R103: the end of a purge frees its grant. -/
theorem State.PurgeLaw.purgeEnded (h : s.PurgeLaw) {g : Grant} (hg : s.purge.grantOf p = some g) :
    (s.purgeEnded p).purgeSide.Open := by
  obtain ⟨hmem, rfl⟩ := Purge.mem_of_grantOf hg
  have own : (s.points[g.point]).Agrees _ _ _ _ := h.isOpen.agrees g.point
  have granted : (s.purgeEnded g.point).purgeSide.granted = s.purgeSide.granted.filter fun q => q ≠ g.point := by
    simp only [State.purgeSide, State.purgeEnded, Purge.release, List.filter_map]
    rfl
  have recovering (q : Fin 24) : (s.purgeEnded g.point).purgeSide.recovering q = if q = g.point then true else s.purgeSide.recovering q :=
    s.recovering_set g.point q _
  refine h.isOpen.at g.point ?_ ?_ h.isOpen.queue (fun q hq => ⟨getElem_set_of_ne hq, .rfl, ?_, ?_, id⟩) ?_
  · rw [granted]
    exact (List.length_filter_le _ _).trans h.isOpen.few
  · rw [granted]
    exact h.isOpen.granted.filter _
  · rw [granted, List.mem_filter]
    exact and_iff_left (by simpa using hq)
  · rw [recovering, if_neg hq]
  · have unheld : g.point ∈ (s.purgeEnded g.point).purgeSide.granted ↔ False := by simp [granted]
    have timed : (s.purgeEnded g.point).purgeSide.recovering g.point = true := by rw [recovering, if_pos rfl]
    have point : (s.purgeEnded g.point).purgeSide.points[g.point] = _ := getElem_set_self
    rw [unheld, timed, point]
    exact own.recovering (List.mem_map_of_mem hmem)

/-- R83, R89: settling leaves the data of the law alone. -/
theorem State.settle_purgeSide (s : State) : s.settle.purgeSide = s.purgeSide := by
  have busy : s.settle.capture.outstanding = s.capture.outstanding := by
    obtain ⟨e, -⟩ | ⟨e, -⟩ := s.settle_cases <;> simp only [e, State.completeSweep_keeps, State.giveJobs_outstanding]
  simp only [State.purgeSide, State.settle_keeps, busy]

theorem State.PurgeLaw.settle (h : s.PurgeLaw) : s.settle.PurgeLaw := h.frame s.settle_purgeSide

theorem State.PurgeLaw.purgeExpires (h : s.PurgeLaw) {g : Grant} (hg : s.purge.grantOf p = some g) :
    (s.purgeExpires p).PurgeLaw := by
  rw [State.purgeExpires_eq]
  exact State.PurgeLaw.settle ((State.serve_purgeLaw (h.purgeEnded hg)).frame rfl)

/-- R104: the end of a recovery. -/
theorem State.PurgeLaw.recoveryExpires (h : s.PurgeLaw) {t : Nat} (ht : s.purge.recovery[p] = some t) :
    (s.recoveryExpires p).PurgeLaw := by
  have own : (s.points[p]).Agrees _ _ _ _ := h.isOpen.agrees p
  have recovering (q : Fin 24) : (s.recoveryExpires p).purgeSide.recovering q = if q = p then false else _ :=
    s.recovering_set p q none
  refine h.of_open (h.isOpen.at p h.isOpen.few h.isOpen.granted h.isOpen.queue
    (fun q hq => ⟨getElem_set_of_ne hq, .rfl, .rfl, ?_, id⟩) ?_) id rfl
  · rw [recovering, if_neg hq]
    rfl
  · have timed : (s.recoveryExpires p).purgeSide.recovering p = false := by rw [recovering, if_pos rfl]
    have point : (s.recoveryExpires p).purgeSide.points[p] = _ := getElem_set_self
    rw [timed, point]
    exact own.recovered (congrArg Option.isSome ht)

/-! ### Sweep starts (R71, R81, R108) -/

/-- R71, R108: a point that starts afresh has its purge cancelled, and every other keeps its own. -/
theorem State.PurgeLaw.pointsRevised (h : s.PurgeLaw) : s.pointsRevised.purgeSide.Open := by
  have granted : s.pointsRevised.purgeSide.granted = s.purgeSide.granted.filter fun q => !s.pointChanged q := by
    simp only [State.purgeSide, State.pointsRevised_purge, Purge.abort, List.filter_map]
    rfl
  have queue : s.pointsRevised.purgeSide.queue = s.purgeSide.queue.filter fun e => !s.pointChanged e.point := by
    simp only [State.purgeSide, State.pointsRevised_purge, Purge.abort]
  refine ⟨?_, ?_, ?_, fun p => ?_⟩
  · rw [granted]
    exact (List.length_filter_le _ _).trans h.isOpen.few
  · rw [granted]
    exact h.isOpen.granted.filter _
  · rw [queue]
    exact h.isOpen.queue.sublist (List.filter_sublist.map _)
  have own : (s.points[p]).Agrees _ _ _ _ := h.isOpen.agrees p
  have point : s.pointsRevised.purgeSide.points[p] = _ := s.pointsRevised_point p
  have waits : p ∈ s.pointsRevised.purgeSide.queue.map PurgeEntry.point ↔
      p ∈ s.purgeSide.queue.map PurgeEntry.point ∧ s.pointChanged p = false := by
    simp only [queue, List.mem_map, List.mem_filter, Bool.not_eq_true']
    exact ⟨fun ⟨e, ⟨he, hc⟩, hp⟩ => ⟨⟨e, he, hp⟩, hp ▸ hc⟩, fun ⟨⟨e, he, hp⟩, hc⟩ => ⟨e, ⟨he, hp ▸ hc⟩, hp⟩⟩
  have heats : p ∈ s.pointsRevised.purgeSide.granted ↔ p ∈ s.purgeSide.granted ∧ s.pointChanged p = false := by
    simp [granted]
  have recovers : s.pointsRevised.purgeSide.recovering p = if s.pointChanged p then false else s.purgeSide.recovering p := by
    simp only [State.purgeSide, State.pointsRevised_purge, Purge.abort, Fin.getElem_fin, Vector.getElem_ofFn]
    split <;> rfl
  have busy : s.pointsRevised.purgeSide.busy p = s.purgeSide.busy p := by
    simp only [State.purgeSide, State.pointsRevised_capture]
  rw [point, waits, heats, recovers, busy]
  by_cases hsame : s.store.written.points[p] = (s.points[p]).cfg
  · have unchanged : s.pointChanged p = false := by simpa [State.pointChanged] using hsame
    rw [PointRec.adopt_of_eq hsame, unchanged, eq_self, and_true, and_true]
    exact own
  · have changed : s.pointChanged p = true := by simpa [State.pointChanged] using hsame
    rw [PointRec.adopt_of_ne hsame, changed]
    simpa using PointRec.fresh_agrees s.store.written.points[p] (s.purgeSide.busy p)

theorem State.PurgeLaw.adoptPoints (h : s.PurgeLaw) : s.adoptPoints.PurgeLaw := by
  rw [State.adoptPoints_eq]
  exact (State.serve_purgeLaw h.pointsRevised).frame rfl

/-- R81: the jobs of a point name it; a heated or recovering AIR point has none. -/
theorem port_of_mem_jobsOf {w : WorkGlobals} {q : Fin 24} {r : PointRec} {j : Job} (hj : j ∈ jobsOf w q r) :
    j.port = q ∧ ¬(r.run.phase = .heating ∨ r.run.phase = .recovering) ∨ r.cfg.kind ≠ .air ∧ j.port = q := by
  rw [jobsOf_eq] at hj
  split at hj
  · cases hj
  next hk => exact .inr ⟨by rw [hk]; decide, by rw [List.mem_singleton.1 hj]⟩
  · split at hj
    · cases hj
    next hphase =>
      simp only [List.mem_cons, List.not_mem_nil, or_false] at hj
      exact .inl ⟨by obtain rfl | rfl := hj <;> rfl, hphase⟩

/-- R81: the walk over the points gives no job to one that is heated or recovers. -/
theorem State.PurgeLaw.buildJobs (h : s.PurgeLaw) : s.buildJobs.PurgeLaw := by
  refine h.of_open ⟨h.isOpen.few, h.isOpen.granted, h.isOpen.queue, fun p => ?_⟩ id rfl
  have own : (s.points[p]).Agrees _ _ _ _ := h.isOpen.agrees p
  refine { own with free := fun hf => Capture.outstanding_eq_false_iff.2 fun j hj => ?_ }
  obtain hj | ⟨k, hk⟩ := hj
  · obtain ⟨q, -, hq⟩ := List.mem_flatMap.1 hj
    rintro rfl
    obtain ⟨rfl, hphase⟩ | ⟨hkind, rfl⟩ := port_of_mem_jobsOf hq
    · exact hphase hf
    · exact hkind (own.kind (by obtain e | e := hf <;> rw [show (s.points[j.port]).run.phase = _ from e] <;> decide))
  · exact Capture.outstanding_eq_false_iff.1 (own.free hf) j (.inr ⟨k, hk⟩)

/-! ### RESTART and the starts (R74, R109, R169) -/

/-- Every point starts afresh, and the purge controller with them. -/
theorem State.purgeLaw_of_fresh (hpoints : ∀ p : Fin 24, s.points[p] = .fresh (s.points[p]).cfg)
    (hpurge : s.purge = .fresh) : s.PurgeLaw := by
  have opened : s.purgeSide.Open := by
    refine ⟨?_, ?_, ?_, fun p => ?_⟩
    · simp [State.purgeSide, hpurge, Purge.fresh]
    · simp [State.purgeSide, hpurge, Purge.fresh]
    · simp [State.purgeSide, hpurge, Purge.fresh]
    · have fresh := PointRec.fresh_agrees (s.points[p]).cfg (s.purgeSide.busy p)
      rw [← hpoints p] at fresh
      simpa [State.purgeSide, hpurge, Purge.fresh] using fresh
  exact s.purgeLaw_iff.2 ⟨opened, fun hne => absurd (by rw [hpurge]; rfl) hne⟩

theorem State.restartBlocks_purgeLaw (s : State) : s.restartBlocks.PurgeLaw :=
  State.purgeLaw_of_fresh (fun p => by simp [State.restartBlocks, PointRec.fresh]) s.restartBlocks_purge

theorem State.startBlocks_purgeLaw (s : State) (cause : Nat) (pins : StartPins) (good : Option Image) :
    (s.startBlocks cause pins good).PurgeLaw :=
  State.purgeLaw_of_fresh (fun p => by simp [State.startBlocks, PointRec.fresh]) rfl

theorem State.losePower_purgeLaw (s : State) : s.losePower.PurgeLaw :=
  State.purgeLaw_of_fresh (fun p => by simp [State.losePower, State.startBlocks, PointRec.fresh]) rfl

end

end Sys2Proof.Machine
end

section
/-! The ranges of the point records (Tables 4-2 and 4-5) at each event of the points and the purges (R59, R63 to R67, R95, R97, R99). -/

namespace Sys2Proof.Machine

/-! ### The record at its own events -/

@[simp] theorem Readings.isSurface_addHeld (r : Readings) : r.addHeld.isSurface = r.isSurface := by cases r <;> rfl

@[simp] theorem Readings.allHeld_addHeld (r : Readings) : r.addHeld.allHeld = true := by cases r <;> rfl

@[simp] theorem Readings.addHeld_eq_absent_iff (r : Readings) : r.addHeld = .absent ↔ r = .absent := by
  cases r <;> simp [Readings.addHeld]

section
variable {r : PointRec} {w : WorkGlobals} {num : SweepNo}

/-- R99: a waiting point is granted; the purges of AUTO entries are counted. -/
theorem PointRec.InRange.granted (h : r.InRange) (hphase : r.run.phase ≠ .none) {o : PurgeOrigin}
    (hcount : o = .auto → r.run.purgeCount < 5) : (r.granted o).InRange := by
  obtain ⟨hfail, hsat, hpurges, hoff, habsent, hreads, -, hnone, hlast⟩ := h
  have good : r.run.health.goodOrHolding = true := by
    by_contra hbad
    exact hphase (hnone (by simpa using hbad))
  refine ⟨hfail, hsat, ?_, hoff, fun he => ?_, fun hg => ?_, fun _ => Readings.allHeld_addHeld _, fun hbad => ?_, ?_⟩
  · cases o with
    | auto => exact hcount rfl
    | manual => exact hpurges
  · change r.run.health = .off ∨ r.run.health = .new at he
    obtain e | e := he <;> rw [e] at good <;> cases good
  · simpa [PointRec.granted, PointRun.granted] using hreads hg
  · exact absurd (good.symm.trans hbad) (by decide)
  · simpa [PointRec.granted, PointRun.granted] using hlast

/-- R65: entry to FAULT of a point that is neither heated nor recovering. -/
theorem PointRec.InRange.enterFault (h : r.InRange) (hhealth : r.run.health ≠ .off)
    (hphase : r.run.phase ≠ .heating ∧ r.run.phase ≠ .recovering) (failure : Option (FailCause × SweepNo)) :
    ({ r with run := PointRun.enterFault { r.run with lastFailure := failure } } : PointRec).InRange := by
  obtain ⟨-, -, -, hoff, -, -, -, -, hlast⟩ := h
  refine ⟨Nat.zero_le _, Nat.zero_le _, Nat.zero_le _, ?_, fun he => by simp [PointRun.enterFault] at he,
    fun hg => by simp [PointRun.enterFault, Health.goodOrHolding] at hg, fun _ => Readings.allHeld_addHeld _, fun _ => ?_, ?_⟩
  · exact iff_of_false (by simp [PointRun.enterFault]) fun hk => hhealth (hoff.2 hk)
  · unfold PointRun.enterFault
    cases hp : r.run.phase <;> simp_all
  · simpa [PointRun.enterFault] using hlast

/-- R64, R65: a failed conversion adds no purge. -/
theorem PointRun.failed_purgeCount_le (r : PointRun) (w : WorkGlobals) (num : SweepNo) (cause : FailCause) :
    (r.failed w num cause).purgeCount ≤ r.purgeCount := by
  unfold PointRun.failed
  dsimp only
  repeat' split
  · exact le_rfl
  · exact le_rfl
  · exact Nat.zero_le _
  · exact le_rfl
  · exact Nat.zero_le _
  · exact le_rfl

/-- R64, Table 4-4: a failed conversion of a point that is neither heated nor recovering. -/
theorem PointRec.InRange.failed (h : r.InRange) (hw : w.faultCount ≤ 8)
    (hphase : r.run.phase ≠ .heating ∧ r.run.phase ≠ .recovering) (cause : FailCause) :
    ({ r with run := r.run.failed w num cause } : PointRec).InRange := by
  have fault := fun hne => h.enterFault hne hphase (some (cause, num))
  obtain ⟨hfail, hsat, hpurges, hoff, habsent, hreads, hheld, hnone, hlast⟩ := h
  unfold PointRun.failed
  dsimp only
  split
  · exact ⟨hfail, hsat, hpurges, hoff, habsent, hreads, hheld, hnone, hlast⟩
  · exact ⟨hfail, hsat, hpurges, hoff, habsent, hreads, hheld, hnone, hlast⟩
  next hnew =>
    split
    · exact fault (by rw [hnew]; decide)
    · exact ⟨by show r.run.failRun + 1 ≤ 7; omega, hsat, hpurges, hoff, habsent, hreads, hheld, hnone, hlast⟩
  next hnotOff hnotFault hnotNew =>
    have good : r.run.health.goodOrHolding = true := by
      cases hr : r.run.health <;> simp_all [Health.goodOrHolding]
    split
    · exact fault hnotOff
    · refine ⟨by show r.run.failRun + 1 ≤ 7; omega, hsat, hpurges, ?_, fun he => by simp at he, fun _ => ?_,
        fun _ => Readings.allHeld_addHeld _, fun hbad => by simp [Health.goodOrHolding] at hbad, ?_⟩
      · exact iff_of_false (by simp) fun hk => hnotOff (hoff.2 hk)
      · simpa using hreads good
      · simpa using hlast

/-- R95: the saturation step keeps its counters in range, and a point that arrives has had fewer purges than allowed. -/
theorem satStep_inRange (hsat : w.satCount ≤ 10) (hmax : w.maxPurges ≤ 5) {run : PointRun} (hrun : run.satRun ≤ 10)
    (hcount : run.purgeCount ≤ 5) (rh : Nat) :
    (satStep w run rh).1.satRun ≤ 10 ∧ (satStep w run rh).1.purgeCount ≤ run.purgeCount
      ∧ ((satStep w run rh).2 = true → (satStep w run rh).1.purgeCount < 5) := by
  unfold satStep
  cases run.phase <;> dsimp only <;> repeat' split
  all_goals simp_all <;> omega

/-- R63: a good conversion. -/
theorem PointRec.inRange_madeGood (hkind : r.cfg.kind ≠ .off) {run : PointRun} (hsat : run.satRun ≤ 10)
    (hcount : run.purgeCount ≤ 5) {rd : Readings} (hrd : if r.cfg.kind = .air then rd.isAir = true else rd.isSurface = true) :
    ({ r with run := run.madeGood num rd } : PointRec).InRange := by
  refine ⟨Nat.zero_le _, hsat, hcount, ?_, fun he => by simp [PointRun.madeGood] at he, fun _ => hrd,
    fun he => by simp [PointRun.madeGood] at he, fun hbad => by simp [PointRun.madeGood, Health.goodOrHolding] at hbad, ?_⟩
  · exact iff_of_false (by simp [PointRun.madeGood]) hkind
  · have present : rd ≠ .absent := by
      rintro rfl
      split at hrd <;> cases hrd
    simpa [PointRun.madeGood] using present

theorem PointRec.InRange.rephase (h : r.InRange) {phase : Phase} {satRun : Nat} (hsat : satRun ≤ 10) {frozen : Option Frozen}
    (hphase : phase ≠ .none → r.run.health.goodOrHolding = true) :
    ({ r with run := { r.run with phase := phase, satRun := satRun, frozen := frozen } } : PointRec).InRange := by
  obtain ⟨hfail, -, hpurges, hoff, habsent, hreads, hheld, -, hlast⟩ := h
  refine ⟨hfail, hsat, hpurges, hoff, habsent, hreads, hheld, fun hbad => ?_, hlast⟩
  by_contra hne
  exact absurd ((hphase hne).symm.trans hbad) (by decide)

theorem PointRec.fresh_inRange (c : PointCfg) : (PointRec.fresh c).InRange := by
  unfold PointRec.fresh PointRun.fresh PointRec.InRange
  cases c.kind <;> simp [PointKind.startHealth, Health.goodOrHolding]

end

/-! ### The law at the events of the blocks -/

/-- The ranges of every point record, and those of the points that wait for an AUTO purge. -/
def PurgeSide.InRange (d : PurgeSide) : Prop :=
  (∀ p : Fin 24, (d.points[p]).InRange) ∧ ∀ e ∈ d.queue, e.origin = .auto → (d.points[e.point]).run.purgeCount < 5

theorem State.pointLaw_iff (s : State) : s.PointLaw ↔ s.purgeSide.InRange := Iff.rfl

/-- An event at one point keeps the ranges. -/
theorem PurgeSide.InRange.at {d e : PurgeSide} (h : d.InRange) (p : Fin 24)
    (others : ∀ q : Fin 24, q ≠ p → e.points[q] = d.points[q]) (queue : ∀ x ∈ e.queue, x.point ≠ p → x ∈ d.queue)
    (own : (e.points[p]).InRange) (count : ∀ x ∈ e.queue, x.point = p → x.origin = .auto → (e.points[p]).run.purgeCount < 5) :
    e.InRange := by
  refine ⟨fun q => ?_, fun x hx ho => ?_⟩
  · by_cases hq : q = p
    · exact hq ▸ own
    · rw [others q hq]
      exact h.1 q
  · by_cases hp : x.point = p
    · subst hp
      exact count x hx rfl ho
    · rw [others _ hp]
      exact h.2 x (queue x hx hp) ho

/-- R99: a grant to the head of the queue. -/
theorem PurgeSide.InRange.grant {d : PurgeSide} (h : d.InRange) (hopen : d.Open) {e : PurgeEntry} {rest : List PurgeEntry}
    (hqueue : d.queue = e :: rest) : (d.grant e rest).InRange := by
  have head : e ∈ d.queue := hqueue ▸ List.mem_cons_self
  have phase : (d.points[e.point]).run.phase ≠ .none := by
    rw [hopen.phase_of_queued head]
    decide
  have unqueued : e.point ∉ rest.map PurgeEntry.point := by
    have := hopen.queue
    rw [hqueue, List.map_cons] at this
    exact (List.nodup_cons.1 this).1
  refine h.at e.point (fun q hq => getElem_set_of_ne hq) (fun x hx _ => hqueue ▸ List.mem_cons_of_mem e hx) ?_ fun x hx hp => ?_
  · have point : (d.grant e rest).points[e.point] = (d.points[e.point]).granted e.origin := getElem_set_self
    rw [point]
    exact (h.1 e.point).granted phase (h.2 e head)
  · exact absurd (hp ▸ List.mem_map_of_mem hx) unqueued

section
variable {s : State} {p : Fin 24}

theorem State.serveOne_inRange (hopen : s.purgeSide.Open) (h : s.purgeSide.InRange) : s.serveOne.1.purgeSide.InRange := by
  obtain ⟨e, rest, hqueue, -, heq⟩ | ⟨-, heq⟩ := s.serveOne_cases <;> rw [heq]
  · rw [State.grant_purgeSide]
    exact h.grant hopen hqueue
  · exact h

theorem State.serve_inRange (hopen : s.purgeSide.Open) (h : s.purgeSide.InRange) : s.serve.1.purgeSide.InRange :=
  State.serveOne_inRange (State.serveOne_open hopen) (State.serveOne_inRange hopen h)

theorem State.arrivePurge_inRange {o : PurgeOrigin} (hopen : (s.queued p o).purgeSide.Open)
    (h : (s.queued p o).purgeSide.InRange) : (s.arrivePurge p o).purgeSide.InRange := State.serve_inRange hopen h

/-- The runtime part of `p` is replaced, and its entries, if any are left, were in the queue. -/
theorem PurgeSide.InRange.record {d : PurgeSide} (h : d.InRange) {run : PointRun} {queue : List PurgeEntry}
    (hqueue : ∀ e ∈ queue, e ∈ d.queue) (own : ({ d.points[p] with run := run } : PointRec).InRange)
    (hcount : run.purgeCount ≤ (d.points[p]).run.purgeCount) : (d.record p run queue).InRange := by
  have point : (d.record p run queue).points[p] = { d.points[p] with run := run } := getElem_set_self
  refine h.at p (fun q hq => getElem_set_of_ne hq) (fun x hx _ => hqueue x hx) (point ▸ own) fun x hx hp ho => ?_
  rw [point]
  subst hp
  exact hcount.trans_lt (h.2 x (hqueue x hx) ho)

/-- The runtime part of `p` is replaced, and an entry for it stands at the tail of the queue. -/
theorem PurgeSide.InRange.arrive {d : PurgeSide} (h : d.InRange) {run : PointRun} {o : PurgeOrigin}
    (hunqueued : ∀ e ∈ d.queue, e.point ≠ p) (own : ({ d.points[p] with run := run } : PointRec).InRange)
    (hcount : o = .auto → run.purgeCount < 5) : (d.record p run (d.queue ++ [{ point := p, origin := o }])).InRange := by
  have point : (d.record p run (d.queue ++ [{ point := p, origin := o }])).points[p] = { d.points[p] with run := run } :=
    getElem_set_self
  refine h.at p (fun q hq => getElem_set_of_ne hq) (fun x hx hp => ?_) (point ▸ own) fun x hx hp ho => ?_
  · obtain hx | hx := List.mem_append.1 hx
    · exact hx
    · exact absurd (List.mem_singleton.1 hx ▸ rfl) hp
  · rw [point]
    obtain hx | hx := List.mem_append.1 hx
    · exact absurd hp (hunqueued x hx)
    · obtain rfl := List.mem_singleton.1 hx
      exact hcount ho

theorem PurgeSide.Open.unqueued {d : PurgeSide} (h : d.Open)
    (hphase : (d.points[p]).run.phase = .none ∨ (d.points[p]).run.phase = .soaked) : ∀ e ∈ d.queue, e.point ≠ p := by
  rintro e he rfl
  rw [h.phase_of_queued he] at hphase
  simp at hphase

/-- R63 to R65, R95: the conversion of a point that is neither heated nor recovering. -/
theorem State.convert_inRange (hlaw : s.PurgeLaw) (hw : s.work.Valid) (h : s.purgeSide.InRange)
    (hold : (s.points[p]).run.phase ≠ .heating ∧ (s.points[p]).run.phase ≠ .recovering) :
    (s.convert p).purgeSide.InRange := by
  have own : (s.points[p]).InRange := h.1 p
  obtain ⟨⟨-, hfault⟩, -, -, -, ⟨-, hsat⟩, -, hmax⟩ := hw
  obtain ⟨-, hrun, hcount, -⟩ := id own
  cases hconv : s.conversion p with
  | none =>
    rw [State.convert_of_none hconv]
    exact h
  | some c =>
    cases c with
    | failed cause =>
      rw [State.convert_of_failed hconv rfl]
      refine h.record (p := p) (fun e he => ?_) (own.failed hfault hold cause) (PointRun.failed_purgeCount_le _ _ _ _)
      change e ∈ (if _ then _ else _) at he
      split at he
      · exact List.mem_of_mem_filter he
      · exact he
    | surface t =>
      have hkind := kind_of_conversionOf_surface hconv
      rw [State.convert_of_surface hconv]
      refine h.record (p := p) (fun _ => id) (PointRec.inRange_madeGood ?_ hrun hcount ?_) le_rfl
      · exact fun hoff => by cases hkind.symm.trans hoff
      · have surface : ¬(s.points[p]).cfg.kind = .air := by rw [hkind]; decide
        exact (if_neg surface).mpr rfl
    | air raw t =>
      have hkind := kind_of_conversionOf_air hconv
      have step := satStep_phase s.work (s.points[p]).run (measuredRh raw)
      have ranges := satStep_inRange hsat hmax hrun hcount (measuredRh raw)
      have frozen := (satStep_keeps s.work (s.points[p]).run (measuredRh raw)).2
      obtain ⟨hsat', hcount', harrived⟩ := ranges
      have recorded : ({ s.points[p] with run := ((s.points[p]).run.goodAir s.work s.sweep.number raw t).1 } : PointRec).InRange :=
        PointRec.inRange_madeGood (fun hoff => by cases hkind.symm.trans hoff) hsat' (hcount'.trans hcount) (if_pos hkind ▸ rfl)
      rw [State.convert_of_air hconv rfl]
      split
      next harrives =>
        obtain ⟨-, hnone, hwaiting⟩ | ⟨hstays, -⟩ := step
        · refine State.arrivePurge_inRange ?_ (h.arrive (p := p) (hlaw.isOpen.unqueued (.inl hnone)) recorded fun _ => harrived harrives)
          exact hlaw.queued (run := ((s.points[p]).run.goodAir s.work s.sweep.number raw t).1) rfl (.inl hnone) hwaiting frozen
            rfl hkind .auto
        · cases harrives.symm.trans hstays
      next => exact h.record (p := p) (fun _ => id) recorded hcount'

theorem State.jobEnded_inRange (hlaw : s.PurgeLaw) (hw : s.work.Valid) (h : s.purgeSide.InRange) {k : Fin 4} {j : Job}
    (hj : (s.capture.units[k]).job? = some j) (o : JobOutcome) : (s.jobEnded k j o).purgeSide.InRange := by
  unfold State.jobEnded
  split
  · exact h
  · exact State.convert_inRange (s := s.handOn k j o) (hlaw.handOn hj o) hw h (hlaw.unheated (Capture.outstanding_of_unit hj))

/-- R106: an accepted PURGE. -/
theorem State.purgeArrives_inRange (hlaw : s.PurgeLaw) (h : s.purgeSide.InRange) (hp : (s.points[p]).purgeable = true) :
    ((s.recordPoint p { (s.points[p]).run with phase := .waiting, satRun := 0 }).arrivePurge p .manual).purgeSide.InRange := by
  have own : (s.points[p]).InRange := h.1 p
  have agrees : (s.points[p]).Agrees _ _ _ _ := hlaw.isOpen.agrees p
  simp only [PointRec.purgeable, Bool.and_eq_true, Bool.or_eq_true, decide_eq_true_eq] at hp
  obtain ⟨⟨hkind, hgood⟩, hphase⟩ := hp
  refine State.arrivePurge_inRange ?_ (h.arrive (p := p) (hlaw.isOpen.unqueued hphase)
    (own.rephase (Nat.zero_le _) fun _ => hgood) fun ho => by cases ho)
  exact hlaw.queued (run := { (s.points[p]).run with phase := .waiting, satRun := 0 }) rfl hphase rfl rfl
    (agrees.good hkind hgood) hkind .manual

/-- R103: a heated point stays in range when its purge ends. -/
theorem State.purgeEnded_inRange (hlaw : s.PurgeLaw) (h : s.purgeSide.InRange) {g : Grant} (hg : s.purge.grantOf p = some g) :
    (s.purgeEnded p).purgeSide.InRange := by
  have own : (s.points[p]).InRange := h.1 p
  have agrees : (s.points[p]).Agrees _ _ _ _ := hlaw.isOpen.agrees p
  obtain ⟨-, hrun, -, -, -, -, -, hnone, -⟩ := id own
  obtain ⟨hmem, rfl⟩ := Purge.mem_of_grantOf hg
  have heating := agrees.heats.1 (List.mem_map_of_mem hmem)
  refine h.record (p := g.point) (fun _ => id) (own.rephase hrun fun _ => ?_) le_rfl
  by_contra hbad
  rw [hnone (by simpa using hbad)] at heating
  cases heating

theorem State.purgeExpires_inRange (hlaw : s.PurgeLaw) (h : s.purgeSide.InRange) {g : Grant}
    (hg : s.purge.grantOf p = some g) : (s.purgeExpires p).purgeSide.InRange := by
  rw [State.purgeExpires_eq, State.settle_purgeSide]
  exact State.serve_inRange (hlaw.purgeEnded hg) (State.purgeEnded_inRange hlaw h hg)

/-- R104: the end of a recovery. -/
theorem State.recoveryExpires_inRange (h : s.purgeSide.InRange) : (s.recoveryExpires p).purgeSide.InRange := by
  have own : (s.points[p]).InRange := h.1 p
  obtain ⟨-, hrun, -⟩ := id own
  exact h.record (p := p) (fun _ => id) (own.rephase hrun fun hne => absurd rfl hne) le_rfl

/-- R71, R108: points adopted afresh start in range, and leave the queue. -/
theorem State.adoptPoints_inRange (hlaw : s.PurgeLaw) (h : s.purgeSide.InRange) : s.adoptPoints.purgeSide.InRange := by
  rw [State.adoptPoints_eq]
  refine State.serve_inRange hlaw.pointsRevised ⟨fun p => ?_, fun e he ho => ?_⟩
  · rw [show s.pointsRevised.purgeSide.points[p] = _ from s.pointsRevised_point p]
    unfold PointRec.adopt
    split
    · exact h.1 p
    · exact PointRec.fresh_inRange _
  · obtain ⟨he, hsame⟩ := List.mem_filter.1 he
    rw [show s.pointsRevised.purgeSide.points[e.point] = _ from s.pointsRevised_point e.point,
      PointRec.adopt_of_eq (by simpa [State.pointChanged] using hsame)]
    exact h.2 e he ho

/-- Every point starts afresh, and the purge controller with them. -/
theorem State.inRange_of_fresh (hpoints : ∀ p : Fin 24, s.points[p] = .fresh (s.points[p]).cfg) (hpurge : s.purge = .fresh) :
    s.purgeSide.InRange := by
  refine ⟨fun p => ?_, fun e he => ?_⟩
  · rw [show s.purgeSide.points[p] = _ from hpoints p]
    exact PointRec.fresh_inRange _
  · rw [show s.purgeSide.queue = [] by rw [State.purgeSide, hpurge]; rfl] at he
    cases he

end

end Sys2Proof.Machine
end

section
/-! A law about the points, the purge controller and the jobs outstanding that the events of these blocks keep
(`KeptByPointEvents`) is kept by every step. -/

namespace Sys2Proof.Machine

/-! ### Updates that leave these data alone -/

section
variable {s t : State}

variable (s)

theorem State.elapse_purgeSide (n : Nat) : (s.elapse n).purgeSide = s.purgeSide := by
  have grants : (s.elapse n).purge = s.purge := rfl
  simp only [State.purgeSide, State.elapse_outstanding, grants]
  rfl

theorem State.setGrant_purgeSide (g : Grant) : ({ s with purge := s.purge.setGrant g } : State).purgeSide = s.purgeSide := by
  have points : (s.purge.setGrant g).grants.map Grant.point = s.purge.grants.map Grant.point := by
    rw [Purge.setGrant, List.map_map]
    refine List.map_congr_left fun x _ => ?_
    rw [Function.comp_apply]
    split
    next h => exact h.symm
    next => rfl
  exact congrArg (fun l => ({ s.purgeSide with granted := l } : PurgeSide)) points

theorem State.periodStarts_purgeSide (g : Grant) : (s.periodStarts g).purgeSide = s.purgeSide := by
  unfold State.periodStarts
  dsimp only
  split
  · exact (State.setGrant_purgeSide _ _).trans (s.elapse_purgeSide _)
  · rfl

theorem State.onTimeEnds_purgeSide (g : Grant) : (s.onTimeEnds g).purgeSide = s.purgeSide := by
  unfold State.onTimeEnds
  dsimp only
  split
  · exact (State.setGrant_purgeSide _ _).trans (s.elapse_purgeSide _)
  · rfl

theorem State.hold_purgeSide : s.hold.purgeSide = s.purgeSide := by
  simp only [State.purgeSide, State.hold, List.map_map]
  rfl

theorem State.setFilter_purgeSide (line : PinLine) (p : Fin 24) (f : LineFilter) :
    (s.setFilter line p f).purgeSide = s.purgeSide := by
  cases line <;> rfl

theorem State.setUnit_purgeSide {k : Fin 4} {u : CaptureUnit} (h : u.job? = (s.capture.units[k]).job?) :
    (s.setUnit k u).purgeSide = s.purgeSide :=
  congrArg (fun busy => ({ s.purgeSide with busy := busy } : PurgeSide))
    (Capture.outstanding_congr fun _ => Capture.setUnit_hasJob h)

theorem State.adoptSurfaces_purgeSide : s.adoptSurfaces.purgeSide = s.purgeSide := by
  simp only [State.purgeSide, State.adoptSurfaces_keeps]

theorem State.clearLatch_purgeSide (l : Fin 8) : (s.clearLatch l).purgeSide = s.purgeSide := by
  simp only [State.purgeSide, State.clearLatch_keeps]

theorem State.debounceExpires_purgeSide (l : Fin 8) : (s.debounceExpires l).purgeSide = s.purgeSide := by
  have same := s.debounceSeen_same l
  rw [State.debounceExpires_eq]
  generalize s.debounceSeen l = u at same ⊢
  rw [same.eq]
  rfl

theorem State.rawChange_purgeSide (l : Fin 8) (v : WetLevel) : (s.rawChange l v).purgeSide = s.purgeSide := by
  rw [State.rawChange_eq]
  rfl

theorem State.storedAndActedOn_purgeSide (store : Store) : (s.storedAndActedOn store).purgeSide = s.purgeSide := by
  rw [State.storedAndActedOn_frame]
  rfl

theorem State.loadImage_purgeSide (i : Image) : (s.loadImage i).purgeSide = s.purgeSide := by
  rw [State.loadImage_eq]
  exact s.storedAndActedOn_purgeSide _

theorem State.writeStartMode_purgeSide (m : SweepMode) : (s.writeStartMode m).purgeSide = s.purgeSide := by
  unfold State.writeStartMode
  split <;> rfl

theorem State.writeInterval_purgeSide (v : Nat) : (s.writeInterval v).purgeSide = s.purgeSide := by
  unfold State.writeInterval
  split <;> rfl

theorem State.stop_purgeSide : s.stop.purgeSide = s.purgeSide := by
  unfold State.stop
  split
  · rfl
  · exact State.writeStartMode_purgeSide _ _

theorem State.dropFrame_purgeSide : s.dropFrame.purgeSide = s.purgeSide := by
  unfold State.dropFrame
  split <;> rfl

theorem State.huntByte_purgeSide (b : Byte) : (s.huntByte b).purgeSide = s.purgeSide := by
  unfold State.huntByte
  split <;> rfl

theorem State.tick_purgeSide : s.tick.purgeSide = s.purgeSide := by
  unfold State.tick
  split
  · exact s.elapse_purgeSide 1
  · rfl

end

/-! ### Laws that the events keep -/

/-- A law about the points, the purge controller and the jobs outstanding that the events which change them keep, the settings in
force meeting `W` at the end of a job. -/
structure KeptByPointEvents (W : WorkGlobals → Prop) (P : State → Prop) : Prop where
  frame {s t : State} : P s → t.purgeSide = s.purgeSide → P t
  jobEnded {s : State} {k : Fin 4} {j : Job} (o : JobOutcome) :
    W s.work → (s.capture.units[k]).job? = some j → P s → P (s.jobEnded k j o)
  purgeArrives {s : State} {p : Fin 24} : (s.points[p]).purgeable = true → P s →
    P ((s.recordPoint p { (s.points[p]).run with phase := .waiting, satRun := 0 }).arrivePurge p .manual)
  purgeExpires {s : State} {p : Fin 24} {g : Grant} : s.purge.grantOf p = some g → P s → P (s.purgeExpires p)
  recoveryExpires {s : State} {p : Fin 24} {t : Nat} : s.purge.recovery[p] = some t → P s → P (s.recoveryExpires p)
  adoptPoints {s : State} : P s → P s.adoptPoints
  buildJobs {s : State} : P s → P s.buildJobs
  restarted {s : State} : P s → P s.restartBlocks
  started (s : State) (cause : Nat) (pins : StartPins) (good : Option Image) : P (s.startBlocks cause pins good)
  lost (s : State) : P s.losePower

namespace KeptByPointEvents
variable {W : WorkGlobals → Prop} {P : State → Prop} {s : State} (k : KeptByPointEvents W P)
include k

/-! ### Sweeps (R83, R89, R122, R125, R130) -/

theorem elapsed (h : P s) (n : Nat) : P (s.elapseTo n) := k.frame h (s.elapse_purgeSide _)

theorem setSweep (h : P s) (w : Sweep) : P { s with sweep := w } := k.frame h rfl

theorem settle (h : P s) : P s.settle := k.frame h s.settle_purgeSide

theorem startSweep (h : P s) : P s.startSweep := by
  have begun : P s.begun := k.frame h rfl
  have adopted : P s.begun.adoptPoints.adoptSurfaces.adoptCapture :=
    k.frame (k.adoptPoints begun) (State.adoptSurfaces_purgeSide _)
  exact k.settle (k.buildJobs adopted)

theorem sweepTimerExpires (h : P s) (t : Nat) : P (s.sweepTimerExpires t) := by
  unfold State.sweepTimerExpires
  dsimp only
  split
  · exact k.frame h rfl
  · exact k.startSweep (k.setSweep h _)

theorem run (h : P s) : P s.run := by
  unfold State.run
  split
  · exact h
  · dsimp only
    have loaded := k.setSweep h (({ s.sweep with mode := .continuous }).takePending.loadTimer s.now)
    have written := k.frame loaded (State.writeStartMode_purgeSide _ .continuous)
    split
    · exact written
    · exact k.startSweep written

/-! ### Capture and purges (R79, R84, R85, R88, R106) -/

section
variable (hw : W s.work)
include hw

theorem endJob (h : P s) {u : Fin 4} {j : Job} (hj : (s.capture.units[u]).job? = some j) (o : JobOutcome) :
    P (s.endJob u j o) :=
  k.settle (k.jobEnded o hw hj h)

theorem risingEdge (h : P s) (port : Fin 24) (line : PinLine) (rests : Bool) : P (s.risingEdge port line rests) := by
  obtain e | ⟨_, _, _, _, hu, _, _, _, e⟩ | ⟨_, _, _, _, _, _, hu, _, _, e⟩ | ⟨_, _, _, _, _, _, hu, _, _, e⟩ :=
    s.risingEdge_cases port line rests <;> rw [e]
  · exact h
  · exact k.frame h (s.setUnit_purgeSide (hu ▸ rfl))
  · exact k.frame h (s.setUnit_purgeSide (hu ▸ rfl))
  · exact k.endJob hw h (hu ▸ rfl) _

theorem sampleLine (h : P s) (port : Fin 24) (line : PinLine) (v : PinLevel) (n : Nat) : P (s.sampleLine port line v n) := by
  let f := s.capture.filter line port
  have sampled : P ((s.elapseTo (f.endsAt s.now v n)).setFilter line port (f.sample s.now v n)) :=
    k.frame (k.elapsed h _) (State.setFilter_purgeSide _ _ _ _)
  unfold State.sampleLine
  dsimp only
  split
  · exact k.risingEdge (s := (s.elapseTo (f.endsAt s.now v n)).setFilter line port (f.sample s.now v n)) hw sampled _ _ _
  · exact sampled

theorem windowExpires (h : P s) (port : Fin 24) (line : PinLine) : P (s.windowExpires port line) := by
  have ends {t : Nat} {u : Fin 4} {j : Job} (hj : (s.capture.units[u]).job? = some j) :
      P ((s.elapseTo t).endJob u j (windowOutcome j)) :=
    k.endJob (s := s.elapseTo t) hw (k.elapsed h t) (by rw [State.elapseTo, State.elapse_unit, CaptureUnit.count_job?, hj]) _
  unfold State.windowExpires
  split
  · exact h
  · split
    · exact h
    next hu => exact ends (hu ▸ rfl)
    next hu => exact ends (hu ▸ rfl)

end

theorem manualPurge (h : P s) {p : Fin 24} (hp : (s.points[p]).purgeable = true) : P (s.manualPurge p) :=
  k.settle (k.purgeArrives hp h)

/-! ### RESTART and start-up (R162, R169) -/

theorem restart (h : P s) : P s.restart := by
  unfold State.restart
  dsimp only
  split
  · exact k.restarted h
  · exact k.startSweep (k.setSweep (k.restarted h) _)

theorem restartOwn (h : P s) (p : List Byte) : P (s.restartOwn p) := by
  have replied (a : Answer) : P (s.postReply 0x32 a) := k.frame h rfl
  unfold State.restartOwn
  dsimp only
  split
  · split
    · exact k.restart (replied _)
    · exact replied _
  · exact h

theorem restartBroadcast (h : P s) (p : List Byte) : P (s.restartBroadcast p) := by
  have hunted : P s.hunt := k.frame h rfl
  unfold State.restartBroadcast
  split
  · split
    · exact k.restart hunted
    · exact hunted
  · exact h

theorem startUp (s : State) (cause : Nat) (pins : StartPins) : P (s.startUp cause pins) := by
  have started := k.started s cause pins (s.store.startImage pins)
  unfold State.startUp State.startUpOn
  dsimp only
  split
  · exact started
  · exact k.startSweep (k.setSweep started _)

/-! ### Requests (R155, R157) -/

theorem answer {handle : State → State × Answer} (h : P s) (hhandle : P (handle s).1) (kind : Byte) :
    P (s.answer kind handle) := by
  cases htakes : s.takesOwn with
  | true => rw [State.answer_of_takes htakes]; exact k.frame hhandle rfl
  | false => rwa [State.answer_of_not htakes]

theorem broadcast {handle : State → State × Answer} (h : P s) (hhandle : P (handle s).1) : P (s.broadcast handle) := by
  cases hreceives : s.receives with
  | true => rw [State.broadcast_of_receives hreceives]; exact k.frame hhandle rfl
  | false => rwa [State.broadcast_of_not hreceives]

theorem request {handle : State → State × Answer} (h : P s) (hhandle : P (handle s).1) (dest : Dest) (kind : Byte) :
    P (s.request dest kind handle) := by
  cases dest with
  | own => exact k.answer h hhandle kind
  | broadcast => exact k.broadcast h hhandle

theorem pointWriteRequest (h : P s) (p : List Byte) : P (pointWriteRequest p s).1 := by
  refine kept_unless h fun _ => kept_unless h fun _ => kept_unless h fun _ => ?_
  split
  · exact h
  · exact kept_unless h fun _ => k.frame h rfl

theorem surfaceWriteRequest (h : P s) (p : List Byte) : P (surfaceWriteRequest p s).1 := by
  refine kept_unless h fun _ => kept_unless h fun _ => kept_unless h fun _ => ?_
  split
  · exact h
  · exact kept_onlyIf h fun _ => k.frame h rfl

theorem globalWriteRequest (h : P s) (p : List Byte) : P (globalWriteRequest p s).1 :=
  kept_unless h fun _ => kept_unless h fun _ => kept_onlyIf h fun _ => k.frame h rfl

theorem outputWriteRequest (h : P s) (p : List Byte) : P (outputWriteRequest p s).1 := by
  refine kept_unless h fun _ => kept_unless h fun _ => kept_unless h fun _ => ?_
  split
  · exact kept_onlyIf h fun _ => k.frame h rfl
  · exact h

theorem wetlineWriteRequest (h : P s) (p : List Byte) : P (wetlineWriteRequest p s).1 :=
  kept_unless h fun _ => kept_unless h fun _ => kept_onlyIf h fun _ => k.frame h (s.storedAndActedOn_purgeSide _)

theorem wetAckRequest (h : P s) (p : List Byte) : P (wetAckRequest p s).1 :=
  kept_unless h fun _ => kept_unless h fun _ => kept_unless h fun _ => k.frame h (s.clearLatch_purgeSide _)

theorem purgeRequest (h : P s) (p : List Byte) : P (purgeRequest p s).1 :=
  kept_unless h fun _ => kept_unless h fun _ => kept_onlyIf h fun hp => k.manualPurge h hp

theorem loadRequest (h : P s) (p : List Byte) : P (loadRequest p s).1 := by
  refine kept_unless h fun _ => kept_unless h fun _ => ?_
  split
  · exact h
  · exact k.frame h (s.loadImage_purgeSide _)

theorem sweepRunRequest (h : P s) (p : List Byte) : P (sweepRunRequest p s).1 :=
  kept_unless h fun _ => kept_unless h fun _ => k.run h

theorem sweepStopRequest (h : P s) (p : List Byte) : P (sweepStopRequest p s).1 :=
  kept_unless h fun _ => kept_unless h fun _ => k.frame h s.stop_purgeSide

theorem sweepOnceRequest (h : P s) (p : List Byte) : P (sweepOnceRequest p s).1 :=
  kept_unless h fun _ => kept_unless h fun _ => kept_unless h fun _ => k.startSweep h

theorem sweepIntervalRequest (h : P s) (p : List Byte) : P (sweepIntervalRequest p s).1 :=
  kept_unless h fun _ => kept_unless h fun _ => k.frame h ((State.writeInterval_purgeSide _ _).trans rfl)

theorem sweepRequest (h : P s) (p : List Byte) : P (sweepRequest p s).1 := by
  unfold Machine.sweepRequest
  split
  · exact h
  · split
    · exact k.sweepRunRequest h _
    · exact k.sweepStopRequest h _
    · exact k.sweepOnceRequest h _
    · exact k.sweepIntervalRequest h _
    · exact kept_unless h fun _ => h

theorem snapArmRequest (h : P s) (p : List Byte) : P (snapArmRequest p s).1 := kept_unless h fun _ => k.frame h rfl

theorem noticeDropRequest (h : P s) (p : List Byte) : P (noticeDropRequest p s).1 := kept_unless h fun _ => k.frame h rfl

theorem saveRequest (h : P s) (p : List Byte) : P (saveRequest p s).1 :=
  kept_unless h fun _ => kept_unless h fun _ => k.frame h rfl

/-- R155: a request of any kind keeps the law. -/
theorem dispatchOwn (h : P s) (kind : Byte) (p : List Byte) : P (s.dispatchOwn kind p) := by
  unfold State.dispatchOwn
  split
  · exact k.answer h (kept_unless h fun _ => h) kind
  · exact k.answer h (kept_unless h fun _ => h) kind
  · exact k.answer h (k.pointWriteRequest h p) kind
  · exact k.answer h (KeptByEvents.pointReadRequest h p) kind
  · exact k.answer h (k.surfaceWriteRequest h p) kind
  · exact k.answer h (KeptByEvents.surfaceReadRequest h p) kind
  · exact k.answer h (k.globalWriteRequest h p) kind
  · exact k.answer h (kept_unless h fun _ => h) kind
  · exact k.answer h (k.outputWriteRequest h p) kind
  · exact k.answer h (kept_unless h fun _ => kept_unless h fun _ => h) kind
  · exact k.answer h (k.wetlineWriteRequest h p) kind
  · exact k.answer h (kept_unless h fun _ => h) kind
  · exact k.answer h (k.sweepRequest h p) kind
  · exact k.answer h (kept_unless h fun _ => h) kind
  · exact k.answer h (k.noticeDropRequest h p) kind
  · exact k.answer h (kept_unless h fun _ => h) kind
  · exact k.answer h (k.snapArmRequest h p) kind
  · exact k.answer h (KeptByEvents.snapReadRequest h p) kind
  · exact k.answer h (k.wetAckRequest h p) kind
  · exact k.answer h (k.purgeRequest h p) kind
  · exact k.answer h (k.saveRequest h p) kind
  · exact k.answer h (k.loadRequest h p) kind
  · exact k.restartOwn h p
  · exact k.answer h h kind

theorem dispatchBroadcast (h : P s) (kind : Byte) (p : List Byte) : P (s.dispatchBroadcast kind p) := by
  unfold State.dispatchBroadcast
  split
  · exact k.broadcast h (k.sweepRequest h p)
  · exact k.broadcast h (k.snapArmRequest h p)
  · exact k.restartBroadcast h p
  · exact k.frame h s.dropFrame_purgeSide

theorem judgeFrame (h : P s) (buffer : List Byte) : P (s.judgeFrame buffer) := by
  unfold State.judgeFrame
  dsimp only
  split
  · exact k.frame h s.dropFrame_purgeSide
  · split
    · exact k.dispatchBroadcast h _ _
    · split
      · exact k.dispatchOwn h _ _
      · exact k.frame h s.dropFrame_purgeSide

theorem frameByte (h : P s) (b : Byte) : P (s.frameByte b) := by
  unfold State.frameByte
  dsimp only
  split
  · exact k.frame h rfl
  · split
    · exact k.judgeFrame h _
    · exact k.frame h rfl

theorem receiveByte (h : P s) (b : Byte) (silence : Nat) : P (s.receiveByte b silence) := by
  unfold State.receiveByte
  split
  · exact h
  · exact k.frame h (s.huntByte_purgeSide b)
  · split
    · exact k.frame h (s.huntByte_purgeSide b)
    · exact k.frameByte h b

/-! ### Commands and steps -/

theorem execPowerOn (pins : StartPins) (h : P s) : Meets P (execPowerOn pins s) := by
  unfold Machine.execPowerOn
  split
  · exact k.startUp _ _ _
  · exact k.frame h rfl
  · exact k.frame (k.lost s) rfl
  · exact k.startUp _ _ _

theorem execResetPinAssert (h : P s) : Meets P (execResetPinAssert s) := by
  unfold Machine.execResetPinAssert
  split
  · exact k.frame h s.hold_purgeSide
  · exact k.frame h rfl
  · exact h
  · exact h

theorem execResetPinRelease (pins : StartPins) (h : P s) : Meets P (execResetPinRelease pins s) := by
  unfold Machine.execResetPinRelease
  split
  · exact k.startUp _ _ _
  · exact k.frame h rfl
  · exact h
  · exact h

theorem execPowerLoss (h : P s) : Meets P (execPowerLoss s) := by
  unfold Machine.execPowerLoss
  split
  · exact h
  · exact h
  · exact k.frame (k.lost s) rfl
  · exact k.lost s

theorem execRestart (dest : Dest) (p : List Byte) (h : P s) : Meets P (execRestart dest p s) := by
  cases dest with
  | own => exact k.restartOwn h p
  | broadcast => exact k.restartBroadcast h p

theorem execReplyStart (h : P s) : Meets P (execReplyStart s) := by
  unfold Machine.execReplyStart
  split <;> exact k.frame h rfl

theorem execReplyEnd (h : P s) : Meets P (execReplyEnd s) := by
  unfold Machine.execReplyEnd
  split <;> exact k.frame h rfl

theorem execSecondsCount (h : P s) : Meets P (execSecondsCount s) := by
  unfold Machine.execSecondsCount
  split
  · exact k.frame h (s.elapse_purgeSide _)
  · exact h

theorem execByteReceived (b : Byte) (silence : Nat) (h : P s) : Meets P (execByteReceived b silence s) := by
  unfold Machine.execByteReceived
  split
  · exact k.receiveByte h b silence
  · exact h

theorem execSaveComplete (verified : Bool) (h : P s) : Meets P (execSaveComplete verified s) := by
  unfold Machine.execSaveComplete
  split
  · refine k.frame h ?_
    cases verified <;> rfl
  · exact h

theorem execSweepTimerExpiry (h : P s) : Meets P (execSweepTimerExpiry s) := by
  unfold Machine.execSweepTimerExpiry
  split
  · exact k.sweepTimerExpires (k.elapsed h _) _
  · exact h

theorem execHeaterPeriodStart (p : Fin 24) (h : P s) : Meets P (execHeaterPeriodStart p s) := by
  unfold Machine.execHeaterPeriodStart
  split
  · exact k.frame h (s.periodStarts_purgeSide _)
  · exact h

theorem execHeaterOnTimeEnd (p : Fin 24) (h : P s) : Meets P (execHeaterOnTimeEnd p s) := by
  unfold Machine.execHeaterOnTimeEnd
  split
  · exact k.frame h (s.onTimeEnds_purgeSide _)
  · exact h

theorem execPurgeTimerExpiry (p : Fin 24) (h : P s) : Meets P (execPurgeTimerExpiry p s) := by
  unfold Machine.execPurgeTimerExpiry
  split
  next g _ hg => exact k.purgeExpires (s := s.elapseTo g.purgeEnds) hg (k.elapsed h _)
  next => exact h

theorem execRecoveryTimerExpiry (p : Fin 24) (h : P s) : Meets P (execRecoveryTimerExpiry p s) := by
  unfold Machine.execRecoveryTimerExpiry
  split
  next t _ ht => exact k.recoveryExpires (s := s.elapseTo t) ht (k.elapsed h _)
  next => exact h

theorem execRawLevelChange (l : Fin 8) (ohms : Nat) (h : P s) : Meets P (execRawLevelChange l ohms s) := by
  unfold Machine.execRawLevelChange
  split
  · exact k.frame h (s.rawChange_purgeSide l _)
  · exact h

theorem execDebounceExpiry (l : Fin 8) (h : P s) : Meets P (execDebounceExpiry l s) := by
  unfold Machine.execDebounceExpiry
  split
  · exact k.frame (k.elapsed h _) (State.debounceExpires_purgeSide _ l)
  · exact h

theorem execMinOnExpiry (o : Fin 2) (h : P s) : Meets P (execMinOnExpiry o s) := by
  unfold Machine.execMinOnExpiry
  split
  · exact k.frame h (s.elapse_purgeSide _)
  · exact h

theorem execMinOffExpiry (o : Fin 2) (h : P s) : Meets P (execMinOffExpiry o s) := by
  unfold Machine.execMinOffExpiry
  split
  · exact k.frame h (s.elapse_purgeSide _)
  · exact h

section
variable (hw : W s.work)
include hw

theorem execStartEdge (port : Fin 24) (line : PinLine) (h : P s) : Meets P (execStartEdge port line s) := by
  unfold Machine.execStartEdge
  split
  · exact k.sampleLine hw h port line .high _
  · exact h

theorem execCaptureJobComplete (port : Fin 24) (line : PinLine) (total high : Nat) (h : P s) :
    Meets P (execCaptureJobComplete port line total high s) := by
  unfold Machine.execCaptureJobComplete
  dsimp only
  split
  · exact k.sampleLine (s := s.elapse (s.ticksTo port line total)) hw (k.frame h (s.elapse_purgeSide _)) port line .high _
  · exact h

theorem execCaptureWindowExpiry (port : Fin 24) (line : PinLine) (h : P s) :
    Meets P (execCaptureWindowExpiry port line s) := by
  unfold Machine.execCaptureWindowExpiry
  split
  · exact k.windowExpires hw h port line
  · exact h

theorem execFilteredLevelChange (port : Fin 24) (line : PinLine) (samples : SampleRun) (h : P s) :
    Meets P (execFilteredLevelChange port line samples s) := by
  unfold Machine.execFilteredLevelChange
  split
  · exact k.sampleLine hw h port line _ _
  · exact h

end

/-- Every command keeps the law; a request under the part's own address keeps it whatever its kind. -/
theorem exec (i : Instr) (hw : W s.work) (h : P s) : Meets P (exec i s) := by
  cases i with
  | powerOn pins => exact k.execPowerOn pins h
  | resetPinAssert => exact k.execResetPinAssert h
  | resetPinRelease pins => exact k.execResetPinRelease pins h
  | ident p => exact k.dispatchOwn h 0x01 p
  | status p => exact k.dispatchOwn h 0x02 p
  | pointWrite p => exact k.dispatchOwn h 0x10 p
  | pointRead p => exact k.dispatchOwn h 0x11 p
  | surfaceWrite p => exact k.dispatchOwn h 0x12 p
  | surfaceRead p => exact k.dispatchOwn h 0x13 p
  | globalWrite p => exact k.dispatchOwn h 0x14 p
  | globalRead p => exact k.dispatchOwn h 0x15 p
  | outputWrite p => exact k.dispatchOwn h 0x16 p
  | outputRead p => exact k.dispatchOwn h 0x17 p
  | wetlineWrite p => exact k.dispatchOwn h 0x18 p
  | wetlineRead p => exact k.dispatchOwn h 0x19 p
  | sweepRun dest r => exact k.request h (k.sweepRunRequest h r) dest _
  | sweepStop dest r => exact k.request h (k.sweepStopRequest h r) dest _
  | sweepOnce dest r => exact k.request h (k.sweepOnceRequest h r) dest _
  | sweepInterval dest r => exact k.request h (k.sweepIntervalRequest h r) dest _
  | noticeRead p => exact k.dispatchOwn h 0x21 p
  | noticeDrop p => exact k.dispatchOwn h 0x22 p
  | rankRead p => exact k.dispatchOwn h 0x23 p
  | snapArm dest p => exact k.request h (k.snapArmRequest h p) dest _
  | snapRead p => exact k.dispatchOwn h 0x25 p
  | wetAck p => exact k.dispatchOwn h 0x26 p
  | purge p => exact k.dispatchOwn h 0x27 p
  | save p => exact k.dispatchOwn h 0x30 p
  | load p => exact k.dispatchOwn h 0x31 p
  | restart dest p => exact k.execRestart dest p h
  | unknownKind kind p => exact k.dispatchOwn h kind p
  | frameDiscard cause => exact k.frame h s.dropFrame_purgeSide
  | frameAbandon cause => exact k.frame h s.dropFrame_purgeSide
  | replyStart => exact k.execReplyStart h
  | replyEnd => exact k.execReplyEnd h
  | secondsCount => exact k.execSecondsCount h
  | sweepTimerExpiry => exact k.execSweepTimerExpiry h
  | startEdge port line => exact k.execStartEdge hw port line h
  | captureJobComplete port line total high => exact k.execCaptureJobComplete hw port line total high h
  | captureWindowExpiry port line => exact k.execCaptureWindowExpiry hw port line h
  | heaterPeriodStart port => exact k.execHeaterPeriodStart port h
  | heaterOnTimeEnd port => exact k.execHeaterOnTimeEnd port h
  | purgeTimerExpiry port => exact k.execPurgeTimerExpiry port h
  | recoveryTimerExpiry port => exact k.execRecoveryTimerExpiry port h
  | rawLevelChange l ohms => exact k.execRawLevelChange l ohms h
  | debounceExpiry l => exact k.execDebounceExpiry l h
  | minOnExpiry o => exact k.execMinOnExpiry o h
  | minOffExpiry o => exact k.execMinOffExpiry o h
  | saveComplete verified => exact k.execSaveComplete verified h
  | byteReceived b silence => exact k.execByteReceived b silence h
  | filteredLevelChange port line samples => exact k.execFilteredLevelChange hw port line samples h
  | powerLoss => exact k.execPowerLoss h

/-- A law that the events keep is kept by every step. -/
theorem step {t : State} (hw : W s.work) (h : P s) (hstep : step s = .next t) : P t := by
  have met : Meets P (Machine.step s) := by
    unfold Machine.step
    split
    next => exact k.frame h s.tick_purgeSide
    next i rest _ => exact k.exec (s := { s with pending := rest }) i hw (k.frame h rfl)
  rwa [hstep] at met

end KeptByPointEvents

end Sys2Proof.Machine
end

section
/-! Every step keeps the law of the purge controller and the ranges of the point records. -/

namespace Sys2Proof.Machine

/-- R59, R69, R97 to R100: the law of the purge controller is kept whatever the settings in force. -/
theorem purgeLaw_keptByPointEvents : KeptByPointEvents (fun _ => True) State.PurgeLaw where
  frame h hside := h.frame hside
  jobEnded o _ hj h := h.jobEnded hj o
  purgeArrives hp h := h.purgeArrives hp
  purgeExpires hg h := h.purgeExpires hg
  recoveryExpires ht h := h.recoveryExpires ht
  adoptPoints h := h.adoptPoints
  buildJobs h := h.buildJobs
  restarted _ := State.restartBlocks_purgeLaw _
  started s cause pins good := s.startBlocks_purgeLaw cause pins good
  lost s := s.losePower_purgeLaw

/-- R64, R67, R95: with the settings in force in range, the point records keep their ranges beside that law. -/
theorem pointLaw_keptByPointEvents : KeptByPointEvents WorkGlobals.Valid fun s => s.PurgeLaw ∧ s.purgeSide.InRange where
  frame := fun ⟨law, ranges⟩ hside => ⟨law.frame hside, hside ▸ ranges⟩
  jobEnded o hw hj := fun ⟨law, ranges⟩ => ⟨law.jobEnded hj o, State.jobEnded_inRange law hw ranges hj o⟩
  purgeArrives hp := fun ⟨law, ranges⟩ => ⟨law.purgeArrives hp, State.purgeArrives_inRange law ranges hp⟩
  purgeExpires hg := fun ⟨law, ranges⟩ => ⟨law.purgeExpires hg, State.purgeExpires_inRange law ranges hg⟩
  recoveryExpires ht := fun ⟨law, ranges⟩ => ⟨law.recoveryExpires ht, State.recoveryExpires_inRange ranges⟩
  adoptPoints := fun ⟨law, ranges⟩ => ⟨law.adoptPoints, State.adoptPoints_inRange law ranges⟩
  buildJobs := fun ⟨law, ranges⟩ => ⟨law.buildJobs, ranges⟩
  restarted _ := ⟨State.restartBlocks_purgeLaw _,
    State.inRange_of_fresh (fun p => by simp [State.restartBlocks, PointRec.fresh]) (State.restartBlocks_purge _)⟩
  started s cause pins good := ⟨s.startBlocks_purgeLaw cause pins good,
    State.inRange_of_fresh (fun p => by simp [State.startBlocks, PointRec.fresh]) rfl⟩
  lost s := ⟨s.losePower_purgeLaw,
    State.inRange_of_fresh (fun p => by simp [State.losePower, State.startBlocks, PointRec.fresh]) rfl⟩

/-- Settles O58: the events of the points, the purges and the capture jobs keep both laws, so every step does. -/
theorem purgeLawIsKept : Obligations.PurgeLawIsKept := by
  refine ⟨fun s t hlaw hstep => purgeLaw_keptByPointEvents.step trivial hlaw hstep, fun s t hlaw hconfig hpoints hstep => ?_⟩
  obtain ⟨-, -, -, hwork, -⟩ := s.configLaw_iff.1 hconfig
  obtain ⟨-, hranges⟩ := pointLaw_keptByPointEvents.step hwork ⟨hlaw, s.pointLaw_iff.1 hpoints⟩ hstep
  exact t.pointLaw_iff.2 hranges

end Sys2Proof.Machine
end

section
/-! The arbiter's turn after jobs ended or were withdrawn, and the sweep it may complete (R83, R84, R89, R91, R131). -/

namespace Sys2Proof.Machine

/-! ### Jobs given to the units that are free (R83) -/

/-- How many of the first `n` units are free. -/
def freeBelow (free : Fin 4 → Bool) (n : Nat) : Nat := (((List.finRange 4).take n).filter free).length

theorem freeBelow_eq (free : Fin 4 → Bool) (m : Fin 4) :
    freeBelow free m = ((List.finRange 4).filter fun x => x < m && free x).length := by
  have below : ∀ m : Fin 4, (List.finRange 4).take m = (List.finRange 4).filter fun x => decide (x < m) := by decide
  simp only [freeBelow, below m, List.filter_filter, Bool.and_comm]

theorem take_finRange_succ (n : Fin 4) : (List.finRange 4).take (n + 1) = (List.finRange 4).take n ++ [n] := by
  rw [List.take_add_one, List.getElem?_eq_getElem (by simp)]
  simp

theorem freeBelow_succ (free : Fin 4 → Bool) (n : Fin 4) :
    freeBelow free (n + 1) = freeBelow free n + if free n = true then 1 else 0 := by
  rw [freeBelow, take_finRange_succ, List.filter_append, List.length_append, freeBelow]
  cases h : free n <;> simp [h]

section
variable {c d : Capture} {now window : Nat}

theorem Capture.giveOne_of_held {k : Fin 4} (h : (c.units[k]).job? ≠ none) : c.giveOne now window k = c := by
  rw [Capture.giveOne]
  split
  next hidle _ => exact absurd (hidle ▸ rfl) h
  next => rfl

/-- R83: after the arbiter has looked at the first `n` units, the free ones among them hold the first jobs of the queue. -/
theorem Capture.giveFirst {free : Fin 4 → Bool} (hfree : ∀ k : Fin 4, free k = true ↔ (c.units[k]).job? = none) {n : Nat}
    (hn : n ≤ 4) :
    (((List.finRange 4).take n).foldl (Capture.giveOne now window) c).queue = c.queue.drop (freeBelow free n)
      ∧ ∀ k : Fin 4, (((List.finRange 4).take n).foldl (Capture.giveOne now window) c).units[k] =
          if k.val < n ∧ free k = true then .given now window c.queue[freeBelow free k]? else c.units[k] := by
  induction n with
  | zero => simp [freeBelow]
  | succ n ih =>
    obtain ⟨queue, units⟩ := ih (by omega)
    have walk := take_finRange_succ ⟨n, hn⟩
    have count := freeBelow_succ free ⟨n, hn⟩
    simp only at walk count
    rw [walk, List.foldl_append, List.foldl_cons, List.foldl_nil]
    have unit := units ⟨n, hn⟩
    rw [if_neg fun h => Nat.lt_irrefl n h.1] at unit
    by_cases hidle : free ⟨n, hn⟩ = true
    · rw [CaptureUnit.job?_eq_none_iff.1 ((hfree _).1 hidle)] at unit
      obtain ⟨queue', units'⟩ := Capture.giveOne_of_idle (now := now) (window := window) unit
      rw [if_pos hidle] at count
      refine ⟨by rw [queue', queue, List.drop_drop, count], fun k => ?_⟩
      rw [units', queue, List.getElem?_drop, Nat.add_zero]
      by_cases hk : n = k.val
      · obtain rfl : k = ⟨n, hn⟩ := Fin.ext hk.symm
        simp [hidle]
      · have hlt : k.val < n + 1 ↔ k.val < n := by omega
        simpa [Vector.getElem_set, hk, hlt] using units k
    · have held : (((((List.finRange 4).take n).foldl (Capture.giveOne now window) c).units)[(⟨n, hn⟩ : Fin 4)]).job? ≠ none := by
        rw [unit]
        exact mt (hfree _).2 hidle
      rw [if_neg hidle] at count
      rw [Capture.giveOne_of_held held]
      refine ⟨by rw [queue, count, Nat.add_zero], fun k => (units k).trans (if_congr ?_ rfl rfl)⟩
      refine and_congr_left fun hk => ⟨fun h => by omega, fun h => ?_⟩
      have : k.val ≠ n := fun e => hidle ((Fin.ext e : k = ⟨n, hn⟩) ▸ hk)
      omega

/-- R83: the units of another capture block that are not free may stand in for those of this one. -/
theorem Capture.GivenTo.congr {b : Capture} {free : Fin 4 → Bool} {rest : List Job} (h : c.GivenTo d free rest now window)
    (hunits : ∀ m : Fin 4, free m = false → b.units[m] = c.units[m]) : b.GivenTo d free rest now window := by
  obtain ⟨hqueue, hgiven⟩ := h
  refine ⟨hqueue, fun m => (hgiven m).trans ?_⟩
  cases hm : free m with
  | true => rfl
  | false => exact (hunits m hm).symm

end

section
variable (s : State)

/-- R83: the arbiter gives the jobs that wait to the units that are IDLE, in their order. -/
theorem State.giveJobs_givenTo {free : Fin 4 → Bool} (hfree : ∀ k : Fin 4, free k = true ↔ (s.capture.units[k]).job? = none) :
    s.capture.GivenTo s.giveJobs.capture free s.capture.queue s.now s.work.window := by
  obtain ⟨queue, units⟩ := Capture.giveFirst (now := s.now) (window := s.work.window) hfree (Nat.le_refl 4)
  refine ⟨queue, fun m => (units m).trans ?_⟩
  rw [if_congr (and_iff_right m.isLt) rfl rfl, freeBelow_eq]
  rfl

/-! ### Settling (R83, R89, R131) -/

theorem State.settle_capture : s.settle.capture = s.giveJobs.capture := by
  obtain ⟨e, -⟩ | ⟨e, -⟩ := s.settle_cases <;> simp only [e, State.completeSweep_keeps]

theorem State.settle_outcomes : s.settle.capture.outcomes = s.capture.outcomes := by
  rw [s.settle_capture, s.giveJobs_outcomes]

theorem State.settle_filter (m : PinLine) (q : Fin 24) : s.settle.capture.filter m q = s.capture.filter m q := by
  rw [s.settle_capture, s.giveJobs_filter]

theorem State.settle_outstanding : s.settle.capture.outstanding = s.capture.outstanding := by
  rw [s.settle_capture, s.giveJobs_outstanding]

/-- R89, R131: what settling may change. -/
theorem State.settle_frame : s.settle = { s with
    capture := s.settle.capture, surfaces := s.settle.surfaces, ranking := s.settle.ranking, sweep := s.settle.sweep
    notices := s.settle.notices, outputs := s.settle.outputs } := by
  have keeps := s.settle_keeps
  generalize s.settle = t at keeps ⊢
  obtain ⟨now, power, link, store, points, work, purge, wet, pending⟩ := keeps
  rw [← now, ← power, ← link, ← store, ← points, ← work, ← purge, ← wet, ← pending]

/-- R83, R89: under the law of the capture block nothing is left to give or to complete. -/
theorem State.CaptureLaw.settle {s : State} (h : s.CaptureLaw) : s.settle = s := by
  obtain ⟨hflight, hbusy⟩ := h
  have given : s.giveJobs = s := by
    have none (k : Fin 4) : s.capture.giveOne s.now s.work.window k = s.capture := by
      by_cases hqueue : s.capture.queue = []
      · rw [Capture.giveOne, hqueue]
        split
        next h => cases h
        next => rfl
      · exact Capture.giveOne_of_held (hbusy hqueue k)
    unfold State.giveJobs
    rw [List.foldlRecOn (motive := fun c => c = s.capture) _ _ rfl fun c hc k _ => hc ▸ none k]
  obtain ⟨-, hrun, hended⟩ | ⟨e, -⟩ := s.settle_cases
  · rw [given] at hended
    exact absurd (hended.symm.trans (hflight.1 hrun)) (by decide)
  · exact e.trans given

variable {s}

theorem State.CaptureLaw.frame {t : State} (h : s.CaptureLaw) (hflight : t.sweep.inFlight = s.sweep.inFlight)
    (hqueue : t.capture.queue = s.capture.queue)
    (hunits : ∀ k : Fin 4, (t.capture.units[k]).job? = (s.capture.units[k]).job?) : t.CaptureLaw := by
  obtain ⟨hended, hbusy⟩ := h
  simp only [State.CaptureLaw, Capture.allEnded, hflight, hqueue, hunits] at *
  exact ⟨hended, hbusy⟩

/-- The state `u` shows the sweep, the surfaces, the ranking, the outputs and the store of `s`, and has offered `ns`. -/
structure State.Offers (s u : State) (ns : List Notice) : Prop where
  sweep : u.sweep = s.sweep
  surfaces : u.surfaces = s.surfaces
  ranking : u.ranking = s.ranking
  outputs : u.outputs = s.outputs
  store : u.store = s.store
  notices : u.notices = ns.foldl NoticeQueue.arrive s.notices

/-- R89, R131: with a job left settling leaves the sweep as it was; otherwise it completes it. -/
theorem State.Offers.settle {u : State} {ns : List Notice} (h : s.Offers u ns) {left : Prop}
    (hleft : left ↔ ∃ j, u.capture.HasJob j) : s.SweepAfter u.settle left ns := by
  obtain ⟨hsweep, hsurfaces, hranking, houtputs, hstore, hnotices⟩ := h
  have ended : u.giveJobs.capture.allEnded = true ↔ ¬left := by
    rw [Capture.allEnded_iff, hleft, not_exists]
    exact forall_congr' fun j => not_congr State.giveJobs_hasJob
  obtain ⟨e, hrun, hended⟩ | ⟨e, hopen⟩ := u.settle_cases
  · rw [hsweep] at hrun
    refine ⟨fun hno => ?_, fun _ _ => ?_⟩
    · exact absurd hno (not_or.2 ⟨ended.1 hended, by simp [hrun]⟩)
    · obtain ⟨now, -, -, -, points, -⟩ := u.giveJobs.completeSweep_keeps
      have sweep := u.giveJobs.completeSweep_sweep (w := { s.sweep with inFlight := false }) (by rw [u.giveJobs_sweep, hsweep])
      rw [e]
      refine ⟨?_, ?_, ?_, ?_, ?_⟩
      · rw [State.completeSweep_table, points, u.giveJobs_sweep, u.giveJobs_surfaces, hsweep, hsurfaces]
      · rw [State.completeSweep_ranking, u.giveJobs_sweep, hsweep]
      · rw [State.completeSweep_notices, points, u.giveJobs_sweep, u.giveJobs_surfaces, u.giveJobs_notices, hsweep, hsurfaces,
          hnotices]
        simp only [List.foldl_append]
      · rw [sweep, points]
      · rw [State.completeSweep_outputs, now, u.giveJobs_store, u.giveJobs_outputs, hstore, houtputs]
  · refine ⟨fun _ => ?_, fun hno hrun => ?_⟩
    · rw [e]
      exact ⟨hsweep, hsurfaces, hranking, houtputs, hnotices⟩
    · rw [hsweep] at hopen
      obtain hopen | hopen := hopen
      · exact absurd (hrun.symm.trans hopen) (by decide)
      · exact absurd (hopen.symm.trans (ended.2 hno)) (by decide)

end

end Sys2Proof.Machine
end

section
/-! A point granted a heater or queued for one (R70, R91, R96, R99, R106), and PURGE. -/

namespace Sys2Proof.Machine

/-! ### POINT notices (R70) -/

/-- R70: a change of phase is notified. -/
theorem pointNotice_of_phase {num : SweepNo} {p : Fin 24} {a b : PointRun} (h : a.phase ≠ b.phase) :
    pointNotice num p a b =
      [Notice.mk .point p a.condition b.condition num b.noticeValue.1 b.noticeValue.2] := by
  have due : pointNoticeDue a b = true := by simp [pointNoticeDue, h]
  rw [pointNotice, if_pos due]

theorem bySubject_singleton (n : Notice) : bySubject [n] = [n] := rfl

/-! ### The queue served (R99, R100) -/

section
variable {s : State}

theorem State.serve_of_full (h : 2 ≤ s.purge.grants.length) : s.serve = (s, []) := by
  have one : s.serveOne = (s, []) := by
    obtain ⟨_, _, -, hfree, -⟩ | ⟨-, e⟩ := s.serveOne_cases
    · omega
    · exact e
  rw [State.serve, one]
  simp [one]

theorem State.serveOne_of_empty (h : s.purge.queue = []) : s.serveOne = (s, []) := by
  obtain ⟨_, _, hqueue, -⟩ | ⟨-, e⟩ := s.serveOne_cases
  · cases h.symm.trans hqueue
  · exact e

theorem State.serve_of_empty (h : s.purge.queue = []) : s.serve = (s, []) := by
  rw [State.serve, State.serveOne_of_empty h]
  simp [State.serveOne_of_empty h]

/-- R99: one grant is made when no more than one is free, or no more than one point waits. -/
theorem State.serve_of_one {e : PurgeEntry} {rest : List PurgeEntry} (hqueue : s.purge.queue = e :: rest)
    (hfree : s.purge.grants.length < 2) (hlast : rest = [] ∨ s.purge.grants.length = 1) :
    s.serve = State.grant { s with purge := { s.purge with queue := rest } } e := by
  have first : s.serveOne = State.grant { s with purge := { s.purge with queue := rest } } e := by
    rw [State.serveOne, hqueue]
    exact if_pos hfree
  have second : s.serveOne.1.serveOne = (s.serveOne.1, []) := by
    rw [first]
    obtain hrest | hone := hlast
    · exact State.serveOne_of_empty hrest
    · obtain ⟨_, _, -, hfree', -⟩ | ⟨-, e⟩ := (State.grant { s with purge := { s.purge with queue := rest } } e).1.serveOne_cases
      · have : (s.purge.grants ++ [s.grantFor e]).length < 2 := hfree'
        simp [hone] at this
      · exact e
  rw [State.serve, second, List.append_nil, first]

/-! ### A point granted a heater, or queued (R91, R96, R99) -/

/-- R91, R99: point `p` holds a grant made now, with the runtime part `r`, and its jobs are withdrawn. -/
def State.heated (s : State) (p : Fin 24) (r : PointRun) : State :=
  { s with
    points := s.points.set p { s.points[p] with run := r }
    capture := s.capture.withdraw p
    purge := { s.purge with
      grants := s.purge.grants
        ++ [Grant.start p s.now s.store.written.globals.heaterDuty s.store.written.globals.purgeTime] } }

theorem State.grant_eq (s : State) (e : PurgeEntry) : s.grant e =
    (s.heated e.point ((s.points[e.point]).run.granted e.origin),
      pointNotice s.sweep.number e.point (s.points[e.point]).run ((s.points[e.point]).run.granted e.origin)) := rfl

/-- R96, R99: a recorded point that arrives at an empty queue with a grant free is granted at once. -/
theorem State.arrivePurge_granted {p : Fin 24} {run : PointRun} (o : PurgeOrigin) (hrun : run.phase = .waiting)
    (hqueue : s.purge.queue = []) (hfree : s.purge.grants.length < 2) :
    (s.recordPoint p run).arrivePurge p o = (s.heated p (run.granted o)).offer
      (pointNotice s.sweep.number p (s.points[p]).run run ++ pointNotice s.sweep.number p run (run.granted o)) := by
  have waits : ((s.recordPoint p run).queued p o).purge.queue = PurgeEntry.mk p o :: [] := by
    simp [State.queued, hqueue]
  have point : (s.recordPoint p run).points[p] = { s.points[p] with run := run } := getElem_set_self
  have notices : pointNotice s.sweep.number p run (run.granted o) = [_] :=
    pointNotice_of_phase (hrun ▸ Phase.noConfusion)
  rw [State.arrivePurge_eq, State.serve_of_one waits hfree (.inl rfl), State.grant_eq]
  simp only [State.heated, State.queued, point]
  simp [State.recordPoint, State.offer, notices, hqueue, bySubject_singleton]

/-- R96: with both grants held an arrival waits. -/
theorem State.arrivePurge_waits {p : Fin 24} (o : PurgeOrigin) (hfull : 2 ≤ s.purge.grants.length) :
    s.arrivePurge p o = s.queued p o := by
  rw [State.arrivePurge_eq, State.serve_of_full (s := s.queued p o) hfull]
  rfl

end

end Sys2Proof.Machine
end

section
/-! PURGE (R91, R98, R99, R106). -/

namespace Sys2Proof.Machine

/-! ### Jobs withdrawn, and the arbiter's turn after it (R83, R91) -/

section
variable {c d : Capture} {p : Fin 24} {u : State}

theorem Capture.withdraw_free (k : Fin 4) :
    (decide ((c.units[k]).job? = none) || (c.units[k]).holdsPort p) = true ↔ ((c.withdraw p).units[k]).job? = none := by
  rw [Capture.withdraw_unit]
  cases h : (c.units[k]).holdsPort p with
  | true => exact iff_of_true (Bool.or_true _) rfl
  | false => rw [Bool.or_false, decide_eq_true_eq, if_neg Bool.false_ne_true]

/-- R83, R91: the units that were free and those a withdrawal frees take the next jobs. -/
theorem State.settle_withdrawnFrom (hu : u.capture = c.withdraw p) :
    c.WithdrawnFrom u.settle.capture p u.now u.work.window := by
  have given := u.giveJobs_givenTo fun k => by rw [hu]; exact Capture.withdraw_free (c := c) (p := p) k
  rw [hu, ← u.settle_capture] at given
  refine ⟨given.congr fun m hm => ?_, by rw [u.settle_outcomes, hu, Capture.withdraw]⟩
  rw [Capture.withdraw_unit, if_neg (Bool.not_eq_true _ ▸ (Bool.or_eq_false_iff.1 hm).2)]

theorem Capture.WithdrawnFrom.kept {now window : Nat} (h : c.WithdrawnFrom d p now window) {m : Fin 4}
    (hheld : (c.units[m]).job? ≠ none) (hother : (c.units[m]).holdsPort p = false) : d.units[m] = c.units[m] := by
  obtain ⟨⟨-, hunits⟩, -⟩ := h
  refine (hunits m).trans (if_neg fun hfree => ?_)
  obtain hidle | hport := Bool.or_eq_true_iff.1 hfree
  · exact hheld (of_decide_eq_true hidle)
  · exact absurd (hother.symm.trans hport) Bool.false_ne_true

theorem Capture.withdraw_filter (c : Capture) (p : Fin 24) (m : PinLine) (q : Fin 24) :
    (c.withdraw p).filter m q = c.filter m q := by
  cases m <;> rfl

theorem Capture.othersLeft_iff_withdraw : c.OthersLeft p ↔ ∃ j, (c.withdraw p).HasJob j := by
  rw [Capture.othersLeft_iff]
  exact exists_congr fun j => Capture.withdraw_hasJob.symm

end

/-! ### PURGE (R106) -/

section
variable {s : State} {p : Fin 24}

theorem PointRec.purgeable_iff (r : PointRec) : r.purgeable = true ↔
    r.cfg.kind = .air ∧ (r.run.health = .good ∨ r.run.health = .holding) ∧ (r.run.phase = .none ∨ r.run.phase = .soaked) := by
  simp [PointRec.purgeable, Health.goodOrHolding, and_assoc]

theorem byteAt_point (p : Fin 24) : byteAt [BitVec.ofNat 8 p] 0 = p := by
  rw [byteAt_cons_zero, BitVec.toNat_ofNat]
  omega

theorem purgeRequest_eq (p : Fin 24) (s : State) : Machine.purgeRequest [BitVec.ofNat 8 p] s =
    if (s.points[p]).purgeable = true then
      (s.manualPurge p).accept [BitVec.ofNat 8 p, BitVec.ofNat 8 ((s.manualPurge p).points[p]).run.phase.code]
    else s.refuse .badState := by
  have point : Fin.ofNat 24 (p : Nat) = p := Fin.ext (Nat.mod_eq_of_lt p.isLt)
  simp only [Machine.purgeRequest, byteAt_point, point, p.isLt.not_ge, List.length_singleton, ne_eq, not_true_eq_false,
    if_false]
  rfl

/-- R106: what an accepted PURGE answers. -/
theorem exec_purge (htakes : s.takesOwn = true) (h : (s.points[p]).purgeable = true) {t : State} (ht : s.manualPurge p = t)
    {phase : Phase} (hphase : (t.points[p]).run.phase = phase) : exec (.purge [BitVec.ofNat 8 p]) s =
      .next (t.postReply 0x27 (Answer.mk .ok [BitVec.ofNat 8 p, BitVec.ofNat 8 phase.code])) := by
  subst ht hphase
  refine congrArg Host.Outcome.next ((State.answer_of_takes htakes _ _).trans ?_)
  rw [purgeRequest_eq, if_pos h]
  rfl

/-- R106: the runtime part of a point whose purge was asked for. -/
def PointRun.asked (r : PointRun) : PointRun := { r with phase := .waiting, satRun := 0 }

theorem State.manualPurge_eq (s : State) (p : Fin 24) :
    s.manualPurge p = ((s.recordPoint p (s.points[p]).run.asked).arrivePurge p .manual).settle := rfl

/-- R106: an accepted PURGE with both grants held leaves the point waiting. -/
theorem State.manualPurge_waits (hlaw : s.CaptureLaw) (hfull : 2 ≤ s.purge.grants.length) :
    s.manualPurge p = (s.recordPoint p (s.points[p]).run.asked).queued p .manual := by
  have waits := State.arrivePurge_waits (s := s.recordPoint p (s.points[p]).run.asked) (p := p) .manual hfull
  rw [State.manualPurge_eq, waits]
  exact State.CaptureLaw.settle (s := (s.recordPoint p (s.points[p]).run.asked).queued p .manual)
    (hlaw.frame rfl rfl fun _ => rfl)

theorem pointNotice_asked {num : SweepNo} {r : PointRun} (h : r.phase = .none ∨ r.phase = .soaked) :
    pointNotice num p r r.asked =
      [Notice.mk .point p r.condition (10 * r.health.code + 1) num r.noticeValue.1 r.noticeValue.2] := by
  refine pointNotice_of_phase fun e => ?_
  rw [e] at h
  exact absurd h (by decide : ¬(Phase.waiting = .none ∨ Phase.waiting = .soaked))

/-- R70, R99: the notice of a grant. -/
theorem pointNotice_granted {num : SweepNo} {r : PointRun} (h : r.phase = .waiting) (o : PurgeOrigin) :
    pointNotice num p r (r.granted o) =
      [Notice.mk .point p (10 * r.health.code + 1) (10 * r.health.code + 2) num (r.granted o).noticeValue.1
        (r.granted o).noticeValue.2] := by
  rw [pointNotice_of_phase (by rw [h]; exact Phase.noConfusion), PointRun.condition, h]
  rfl

/-- R83, R89, R91, R99: what is settled once point `p` is granted a heater and the notices `ns` are offered. -/
structure State.Heats (s t : State) (p : Fin 24) (r : PointRun) (ns : List Notice) : Prop where
  points : t.points = s.points.set p { s.points[p] with run := r }
  purge : t.purge = { s.purge with
    grants := s.purge.grants
      ++ [Grant.mk p s.store.written.globals.heaterDuty true s.now
            (s.now + s.store.written.globals.purgeTime * 4000000)] }
  outstanding : t.capture.outstanding p = false
  withdrawn : s.capture.WithdrawnFrom t.capture p s.now s.work.window
  sweep : s.SweepAfter t (s.capture.OthersLeft p) ns
  filter : ∀ (m : PinLine) (q : Fin 24), t.capture.filter m q = s.capture.filter m q
  frame : t = { s with
    points := t.points, purge := t.purge, capture := t.capture, surfaces := t.surfaces, ranking := t.ranking
    notices := t.notices, outputs := t.outputs, sweep := t.sweep }

theorem State.heated_settles (s : State) (p : Fin 24) (r : PointRun) (ns : List Notice) :
    s.Heats ((s.heated p r).offer ns).settle p r ns := by
  let u := (s.heated p r).offer ns
  obtain ⟨-, -, -, -, points, -, purge, -⟩ := u.settle_keeps
  have offers : s.Offers u ns := ⟨rfl, rfl, rfl, rfl, rfl, rfl⟩
  have withdrawn : u.capture = s.capture.withdraw p := rfl
  refine ⟨points, purge, ?_, State.settle_withdrawnFrom withdrawn, offers.settle Capture.othersLeft_iff_withdraw,
    fun m q => (u.settle_filter m q).trans (Capture.withdraw_filter _ p m q), ?_⟩
  · rw [u.settle_outstanding, withdrawn, Capture.withdraw_outstanding, if_pos rfl]
  · change u.settle = { s with
      points := u.settle.points, purge := u.settle.purge, capture := u.settle.capture, surfaces := u.settle.surfaces
      ranking := u.settle.ranking, notices := u.settle.notices, outputs := u.settle.outputs, sweep := u.settle.sweep }
    rw [points, purge]
    exact u.settle_frame

/-- R101: a point that was just granted is heated. -/
theorem State.Heats.heaterOn {t : State} {r : PointRun} {ns : List Notice} (h : s.Heats t p r ns)
    (hpower : s.power = .running) : t.heaterOn p = true := by
  have power : t.power = s.power := by rw [h.frame]
  have grants := congrArg Purge.grants h.purge
  rw [State.heaterOn, power, hpower]
  simp [grants]

/-- R99, R106: an accepted PURGE with a grant free and no point waiting is granted at once. -/
theorem State.manualPurge_heats (hqueue : s.purge.queue = []) (hfree : s.purge.grants.length < 2) :
    s.Heats (s.manualPurge p) p ((s.points[p]).run.asked.granted .manual)
      (pointNotice s.sweep.number p (s.points[p]).run (s.points[p]).run.asked
        ++ pointNotice s.sweep.number p (s.points[p]).run.asked ((s.points[p]).run.asked.granted .manual)) := by
  rw [State.manualPurge_eq, State.arrivePurge_granted .manual rfl hqueue hfree]
  exact s.heated_settles p _ _

/-- Settles O43: PURGE refused, queued, or granted at once. -/
theorem purgeRequestActs : Obligations.PurgeRequest := by
  intro p run s htakes hrun
  subst hrun
  refine ⟨fun hno => ?_, fun hkind hhealth hphase => ?_⟩
  · refine congrArg Host.Outcome.next (State.answer_of_refuse htakes _ ?_)
    rw [purgeRequest_eq, if_neg]
    rw [PointRec.purgeable_iff]
    tauto
  have purgeable : (s.points[p]).purgeable = true := (PointRec.purgeable_iff _).2 ⟨hkind, hhealth, hphase⟩
  have entered := pointNotice_asked (num := s.sweep.number) (p := p) hphase
  refine ⟨fun hlaw hfull => ?_, fun hqueue hfree => ?_⟩
  · have waits := State.manualPurge_waits (p := p) hlaw hfull
    have point : ((s.recordPoint p (s.points[p]).run.asked).queued p .manual).points[p] =
      { s.points[p] with run := (s.points[p]).run.asked } := getElem_set_self
    rw [exec_purge htakes purgeable waits (phase := .waiting) (by rw [point]; rfl)]
    simp only [State.queued, State.recordPoint, entered]
    rfl
  · have granted := pointNotice_granted (num := s.sweep.number) (p := p) (r := (s.points[p]).run.asked) rfl .manual
    have heats := State.manualPurge_heats (p := p) hqueue hfree
    rw [entered, granted] at heats
    have point := getElem_set_self (points := s.points) (p := p)
      (r := { s.points[p] with run := (s.points[p]).run.asked.granted .manual })
    rw [← heats.points] at point
    refine ⟨_, exec_purge htakes purgeable rfl (phase := .heating) (by rw [point]; rfl), heats.points, heats.purge,
      heats.heaterOn (s.takesOwn_iff.1 htakes).1, heats.outstanding, heats.withdrawn, ?_,
      fun m => heats.withdrawn.kept, heats.filter, heats.frame⟩
    rw [point]
    exact heats.sweep

end

end Sys2Proof.Machine
end

section
/-! The heater's period and on-time ends (R101, R102), and the expiries of the purge and the recovery timers (R103, R104). -/

namespace Sys2Proof.Machine

section
variable {s : State} {p : Fin 24} {g : Grant}

/-! ### Time that passes up to an expiry -/

theorem State.elapseTo_eq (s : State) (t : Nat) : s.elapseTo t = { s with
    now := max s.now t, capture := { s.capture with units := (s.elapseTo t).capture.units } } := by
  have clock : s.now + (t - s.now) = max s.now t := by omega
  rw [← clock]
  rfl

theorem State.elapse_othersLeft (s : State) (n : Nat) (p : Fin 24) :
    (s.elapse n).capture.OthersLeft p ↔ s.capture.OthersLeft p := by
  simp only [Capture.othersLeft_iff, State.elapse_hasJob]

theorem State.elapseTo_job? (s : State) (t : Nat) (k : Fin 4) :
    ((s.elapseTo t).capture.units[k]).job? = (s.capture.units[k]).job? := by
  rw [State.elapseTo, State.elapse_unit, CaptureUnit.count_job?]

theorem State.elapseTo_holdsPort (s : State) (t : Nat) (k : Fin 4) (p : Fin 24) :
    ((s.elapseTo t).capture.units[k]).holdsPort p = (s.capture.units[k]).holdsPort p := by
  rw [CaptureUnit.holdsPort, State.elapseTo_job?, ← CaptureUnit.holdsPort]

theorem State.CaptureLaw.elapseTo (h : s.CaptureLaw) (t : Nat) : (s.elapseTo t).CaptureLaw :=
  h.frame rfl rfl (s.elapseTo_job? t)

/-! ### Periods of a heater (R101, R102) -/

theorem exec_heaterPeriodStart (hpower : s.power = .running) (hg : s.purge.grantOf p = some g) :
    exec (.heaterPeriodStart p) s = .next (s.periodStarts g) := by
  change execHeaterPeriodStart p s = _
  rw [execHeaterPeriodStart, hpower, hg]

theorem exec_heaterOnTimeEnd (hpower : s.power = .running) (hg : s.purge.grantOf p = some g) :
    exec (.heaterOnTimeEnd p) s = .next (s.onTimeEnds g) := by
  change execHeaterOnTimeEnd p s = _
  rw [execHeaterOnTimeEnd, hpower, hg]

/-- R101: after a period start or an on-time end, the line of a granted point shows its grant. -/
theorem State.heaterOn_setGrant {x : Grant} (hpower : s.power = .running) (hg : g ∈ s.purge.grants) (hx : x.point = g.point) :
    ({ s with purge := s.purge.setGrant x } : State).heaterOn g.point = x.energised := by
  have grants : (s.purge.setGrant x).grants = s.purge.grants.map fun y => if y.point = x.point then x else y := rfl
  have line : ({ s with purge := s.purge.setGrant x } : State).heaterOn g.point =
      s.purge.grants.any fun y => y.point = g.point && x.energised := by
    rw [State.heaterOn, hpower]
    simp only [grants, List.any_map]
    congr 1
    funext y
    by_cases hy : y.point = g.point <;> simp [hx, hy]
  rw [line]
  cases x.energised with
  | true => exact List.any_eq_true.2 ⟨g, hg, by simp⟩
  | false => simp

/-- R101, R102: a period starts with the duty then written. -/
theorem State.periodStarts_eq {next : Nat} (hnext : next = g.periodStart + Config.ticksPerSecond) (hends : next < g.purgeEnds) :
    s.periodStarts g =
      { s.elapseTo next with
        purge := s.purge.setGrant (Grant.mk g.point s.store.written.globals.heaterDuty true next g.purgeEnds) } := by
  simp only [State.periodStarts, ← hnext, hends, if_true]
  rfl

theorem State.heaterOn_periodStarts {next : Nat} (hpower : s.power = .running) (hg : g ∈ s.purge.grants)
    (hnext : next = g.periodStart + Config.ticksPerSecond) (hends : next < g.purgeEnds) :
    (s.periodStarts g).heaterOn g.point = true := by
  rw [State.periodStarts_eq hnext hends]
  exact State.heaterOn_setGrant (s := s.elapseTo next) hpower hg rfl

/-- R101: the on time of a period ends. -/
theorem State.onTimeEnds_eq {ends : Nat} (hends : ends = g.periodStart + g.duty * Config.ticksPerDutyPercent)
    (hon : g.energised = true) (hduty : g.duty < 100) : s.onTimeEnds g =
      { s.elapseTo ends with purge := s.purge.setGrant (Grant.mk g.point g.duty false g.periodStart g.purgeEnds) } := by
  subst hends
  exact if_pos (by simp [hon, hduty])

theorem State.heaterOn_onTimeEnds (hpower : s.power = .running) (hg : g ∈ s.purge.grants) (hon : g.energised = true)
    (hduty : g.duty < 100) : (s.onTimeEnds g).heaterOn g.point = false := by
  rw [State.onTimeEnds_eq rfl hon hduty]
  exact State.heaterOn_setGrant (s := s.elapseTo _) hpower hg rfl

/-! ### The expiry of a purge timer (R103) -/

theorem exec_purgeTimerExpiry (hpower : s.power = .running) (hg : s.purge.grantOf p = some g) :
    exec (.purgeTimerExpiry p) s = .next ((s.elapseTo g.purgeEnds).purgeExpires p) := by
  change execPurgeTimerExpiry p s = _
  rw [execPurgeTimerExpiry, hpower, hg]

theorem exec_recoveryTimerExpiry {e : Nat} (hpower : s.power = .running) (he : s.purge.recovery[p] = some e) :
    exec (.recoveryTimerExpiry p) s = .next ((s.elapseTo e).recoveryExpires p) := by
  change execRecoveryTimerExpiry p s = _
  rw [execRecoveryTimerExpiry, hpower, he]

/-- R70, R103: the notice of a purge that ends. -/
theorem pointNotice_recovering {num : SweepNo} {r : PointRun} (h : r.phase = .heating) :
    pointNotice num p r { r with phase := .recovering } =
      [Notice.mk .point p (10 * r.health.code + 2) (10 * r.health.code + 3) num r.noticeValue.1 r.noticeValue.2] := by
  rw [pointNotice_of_phase (by rw [h]; exact Phase.noConfusion), PointRun.condition, h]
  rfl

/-- R70, R104: the notice of a recovery that ends. -/
theorem pointNotice_recovered {num : SweepNo} {r : PointRun} (h : r.phase = .recovering) :
    pointNotice num p r { r with phase := .none, frozen := none } =
      [Notice.mk .point p (10 * r.health.code + 3) (10 * r.health.code) num r.noticeValue.1 r.noticeValue.2] := by
  rw [pointNotice_of_phase (by rw [h]; exact Phase.noConfusion), PointRun.condition, h]
  rfl

theorem bySubject_pair (a b : Notice) : bySubject [a, b] = if a.subject ≤ b.subject then [a, b] else [b, a] := by
  simp [bySubject, List.insertionSort, List.orderedInsert]

theorem State.ArbiterLaw.heating (h : s.ArbiterLaw) (hg : s.purge.grantOf p = some g) : (s.points[p]).run.phase = .heating := by
  obtain ⟨-, -, -, -, hagrees⟩ := h
  obtain ⟨-, hheats, -⟩ := hagrees p
  obtain ⟨hmem, rfl⟩ := Purge.mem_of_grantOf hg
  exact hheats.1 (List.mem_map_of_mem hmem)

/-- R98: of two grants one is left when that of a point is released. -/
theorem State.ArbiterLaw.released (h : s.ArbiterLaw) (hg : s.purge.grantOf p = some g) (htwo : s.purge.grants.length = 2) :
    (s.purge.grants.filter fun y => y.point ≠ p).length = 1 := by
  obtain ⟨-, hnodup, -⟩ := h
  obtain ⟨hmem, rfl⟩ := Purge.mem_of_grantOf hg
  obtain ⟨a, b, hab⟩ := List.length_eq_two.1 htwo
  rw [hab] at hnodup hmem ⊢
  simp only [List.map_cons, List.map_nil, List.nodup_cons, List.mem_singleton] at hnodup
  obtain ⟨hne, -⟩ := hnodup
  obtain rfl | hmem := List.mem_cons.1 hmem
  · simp [Ne.symm hne]
  · obtain rfl := List.mem_singleton.1 hmem
    simp [hne]

end

end Sys2Proof.Machine
end

section
/-! The heater and recovery timers settled (R70, R99 to R104). -/

namespace Sys2Proof.Machine

section
variable {s : State} {p : Fin 24} {g : Grant}

/-- R101: a point without a grant has its heater off. -/
theorem State.heaterOn_eq_false (h : p ∉ s.purge.grants.map Grant.point) : s.heaterOn p = false := by
  unfold State.heaterOn
  split
  · refine List.any_eq_false.2 fun x hx hon => h ?_
    obtain ⟨hpoint, -⟩ := Bool.and_eq_true_iff.1 hon
    exact of_decide_eq_true hpoint ▸ List.mem_map_of_mem hx
  · rfl

/-- R103: the grants left when that of a point is released are those of other points. -/
theorem not_mem_released (p : Fin 24) (gs : List Grant) : p ∉ (gs.filter fun y => y.point ≠ p).map Grant.point := by
  simp

theorem State.purgeEnded_eq (s : State) (p : Fin 24) : s.purgeEnded p = { s with
    points := s.points.set p { s.points[p] with run := { (s.points[p]).run with phase := .recovering } }
    purge := { grants := s.purge.grants.filter fun y => y.point ≠ p
               queue := s.purge.queue
               recovery := s.purge.recovery.set p
                 (some (s.now + s.store.written.globals.recoveryTime * 4000000)) } } := by
  rw [State.purgeEnded, Config.ticksPerSecond]
  rfl

/-- R103: the purge of a point ends while no point waits. -/
theorem State.purgeExpires_of_empty (hlaw : s.CaptureLaw) (hphase : (s.points[p]).run.phase = .heating)
    (hqueue : s.purge.queue = []) : s.purgeExpires p = (s.purgeEnded p).offer
      [Notice.mk .point p (10 * (s.points[p]).run.health.code + 2) (10 * (s.points[p]).run.health.code + 3) s.sweep.number
        (s.points[p]).run.noticeValue.1 (s.points[p]).run.noticeValue.2] := by
  have served : (s.purgeEnded p).serve = (s.purgeEnded p, []) := State.serve_of_empty hqueue
  rw [State.purgeExpires_eq, served, List.append_nil, pointNotice_recovering hphase, bySubject_singleton]
  exact State.CaptureLaw.settle (s := (s.purgeEnded p).offer _) (hlaw.frame rfl rfl fun _ => rfl)

/-- R103: the purge of a point has ended, and the entries `rest` are left in the queue. -/
def State.purgePassed (s : State) (p : Fin 24) (rest : List PurgeEntry) : State :=
  { s.purgeEnded p with purge := { (s.purgeEnded p).purge with queue := rest } }

section
variable {e : PurgeEntry} {rest : List PurgeEntry} (hlaw : s.ArbiterLaw) (hqueue : s.purge.queue = e :: rest)
include hlaw hqueue

theorem State.ArbiterLaw.waiting : (s.points[e.point]).run.phase = .waiting := by
  obtain ⟨-, -, -, -, hagrees⟩ := hlaw
  obtain ⟨hwaits, -⟩ := hagrees e.point
  exact hwaits.1 (by rw [hqueue]; simp)

variable (hg : s.purge.grantOf p = some g)
include hg

/-- R98: the point at the head of the queue is another one than a point that is heated. -/
theorem State.ArbiterLaw.waiting_ne : e.point ≠ p := by
  rintro rfl
  cases (hlaw.heating hg).symm.trans (hlaw.waiting hqueue)

/-- R99, R103: the grant of a purge that ends goes to the head of the queue; the notices of the two points stand in ascending
point number. -/
theorem State.purgeExpires_heats {ended granted : Notice}
    (hended : pointNotice s.sweep.number p (s.points[p]).run { (s.points[p]).run with phase := .recovering } = [ended])
    (hgranted : pointNotice s.sweep.number e.point (s.points[e.point]).run ((s.points[e.point]).run.granted e.origin)
      = [granted]) :
    (s.purgePassed p rest).Heats (s.purgeExpires p) e.point ((s.points[e.point]).run.granted e.origin)
      (if p ≤ e.point then [ended, granted] else [granted, ended]) := by
  obtain ⟨-, -, -, hfull, -⟩ := id hlaw
  have hfirst : ended.subject = p := subject_of_mem_pointNotice (hended ▸ List.mem_singleton_self _)
  have hsecond : granted.subject = e.point := subject_of_mem_pointNotice (hgranted ▸ List.mem_singleton_self _)
  have released : (s.purgeEnded p).purge.grants.length = 1 := hlaw.released hg (hfull (by rw [hqueue]; simp))
  have point : (s.purgePassed p rest).points[e.point] = s.points[e.point] := getElem_set_of_ne (hlaw.waiting_ne hqueue hg)
  have served : (s.purgeEnded p).serve = State.grant (s.purgePassed p rest) e :=
    State.serve_of_one hqueue (by rw [released]; decide) (.inr released)
  have number : (s.purgePassed p rest).sweep = s.sweep := rfl
  rw [State.purgeExpires_eq, served, State.grant_eq, point, number, hended, hgranted, List.singleton_append, bySubject_pair,
    hfirst, hsecond]
  exact State.heated_settles _ _ _ _

end

section
variable {t : State} {e : PurgeEntry} {rest : List PurgeEntry} {ns : List Notice}
  (h : (s.purgePassed p rest).Heats t e.point ((s.points[e.point]).run.granted e.origin) ns) (hne : e.point ≠ p)
include h hne

/-- R99, R103: the point granted, beside the one whose purge ended. -/
theorem State.Heats.granted_point :
    t.points[e.point] = { s.points[e.point] with run := (s.points[e.point]).run.granted e.origin } := by
  have kept : (s.purgePassed p rest).points[e.point] = s.points[e.point] := getElem_set_of_ne hne
  rw [h.points, kept]
  exact getElem_set_self

theorem State.Heats.passed_points (q : Fin 24) : t.points[q] =
    if q = p then { s.points[q] with run := { (s.points[q]).run with phase := .recovering } }
    else if q = e.point then { s.points[q] with run := (s.points[q]).run.granted e.origin }
    else s.points[q] := by
  split
  next hq =>
    subst hq
    rw [h.points]
    exact (getElem_set_of_ne hne.symm).trans getElem_set_self
  next hq =>
    split
    next he =>
      subst he
      exact h.granted_point hne
    next he =>
      rw [h.points]
      exact (getElem_set_of_ne he).trans (getElem_set_of_ne hq)

/-- R101, R103: the heater of the point whose purge ended is off. -/
theorem State.Heats.heaterOff : t.heaterOn p = false := by
  refine State.heaterOn_eq_false ?_
  rw [h.purge, State.purgePassed, State.purgeEnded_eq]
  simpa using hne.symm

end

/-- Settles O44. -/
theorem heaterAndRecoveryTimers : Obligations.HeaterAndRecoveryTimers := by
  refine ⟨fun p g s hpower hg => ?_, fun p e s hpower he hphase => ?_⟩
  · obtain ⟨hmem, hp⟩ := Purge.mem_of_grantOf hg
    refine ⟨fun hnext => ?_, fun hon hduty => ?_, fun harbiter hcapture hqueue => ?_, fun e rest harbiter hqueue => ?_⟩
    · subst hp
      generalize next_eq : g.periodStart + 4000000 = next at hnext ⊢
      have second : next = g.periodStart + Config.ticksPerSecond := by rw [Config.ticksPerSecond, next_eq]
      refine ⟨_, exec_heaterPeriodStart hpower hg, ?_, State.heaterOn_periodStarts hpower hmem second hnext⟩
      rw [State.periodStarts_eq second hnext, State.elapseTo_eq]
      rfl
    · subst hp
      generalize ends_eq : g.periodStart + g.duty * 40000 = ends
      have percent : ends = g.periodStart + g.duty * Config.ticksPerDutyPercent := by
        rw [Config.ticksPerDutyPercent, ends_eq]
      refine ⟨_, exec_heaterOnTimeEnd hpower hg, ?_, State.heaterOn_onTimeEnds hpower hmem hon hduty⟩
      rw [State.onTimeEnds_eq percent hon hduty, State.elapseTo_eq]
      rfl
    · have ended := State.purgeExpires_of_empty (s := s.elapseTo g.purgeEnds) (p := p) (hcapture.elapseTo _) (harbiter.heating hg) hqueue
      refine ⟨_, exec_purgeTimerExpiry hpower hg, ?_, ?_⟩
      · rw [ended, State.purgeEnded_eq, State.elapseTo_eq, hqueue]
        rfl
      · rw [ended]
        exact State.heaterOn_eq_false (not_mem_released p s.purge.grants)
    · have heats := State.purgeExpires_heats (s := s.elapseTo g.purgeEnds) harbiter hqueue hg
        (pointNotice_recovering (harbiter.heating hg)) (pointNotice_granted (harbiter.waiting hqueue) _)
      have other := harbiter.waiting_ne hqueue hg
      have clock : (s.elapseTo g.purgeEnds).now = max s.now g.purgeEnds := by rw [State.elapseTo_eq]
      have work : (s.elapseTo g.purgeEnds).work = s.work := rfl
      refine ⟨_, exec_purgeTimerExpiry hpower hg, ?_⟩
      generalize (s.elapseTo g.purgeEnds).purgeExpires p = t at heats ⊢
      have now : t.now = (s.elapseTo g.purgeEnds).now := by rw [heats.frame]; rfl
      refine ⟨now.trans clock, fun q => ?_, ?_, heats.heaterOff other, heats.heaterOn hpower, heats.outstanding, ?_, ?_, ?_,
        fun m hheld hport => ?_, heats.filter, ?_⟩
      · rw [heats.passed_points other]
        cases e.origin <;> rfl
      · rw [heats.purge, now]
        rfl
      · rw [now]
        exact heats.withdrawn
      · rintro ended granted rfl rfl
        have sweep : (s.elapseTo g.purgeEnds).SweepAfter t ((s.elapseTo g.purgeEnds).capture.OthersLeft e.point) _ :=
          heats.sweep
        rw [State.elapseTo, State.elapse_othersLeft] at sweep
        rw [heats.granted_point other]
        exact sweep
      · rw [now]
        exact heats.frame
      · refine heats.withdrawn.kept (m := m) ?_ ?_
        · exact (State.elapseTo_job? s _ m).trans_ne hheld
        · exact (State.elapseTo_holdsPort s _ m _).trans hport
      · rw [heats.frame]
        exact ⟨rfl, rfl, rfl, rfl⟩
  · refine ⟨_, exec_recoveryTimerExpiry hpower he, ?_⟩
    have notice := pointNotice_recovered (p := p) (num := s.sweep.number) hphase
    rw [State.elapseTo_eq, State.recoveryExpires]
    simp only [State.recordPoint, notice]
    rfl

end

end Sys2Proof.Machine
end

section
/-! The commands that end a capture job: CAPTURE_JOB_COMPLETE and CAPTURE_WINDOW_EXPIRY (R79, R84 to R87). -/

namespace Sys2Proof.Machine

/-! ### Outcomes (R85 to R87) -/

theorem normalise64_eq (t n : Nat) : normalise64 t n = (2 * (64 * t) + n) / (2 * n) := by
  have cast : (2 * ((t : Int) * 64) + n) / (2 * n) = ((2 * (64 * t) + n) / (2 * n) : Nat) := by
    push_cast
    rw [mul_comm (t : Int) 64]
  rw [normalise64, roundDiv, cast, Int.toNat_natCast]

/-- R86, R87: the outcome of a closing edge. -/
theorem closedOutcome_eq (j : Job) (total high : Nat) : closedOutcome j total high =
    match j.line with
    | .f => .fDone ((2 * (64 * total) + j.n) / (2 * j.n))
    | .d => if 50 * high < total ∨ 49 * total < 50 * high then .failed .dDuty else .dDone total high := by
  unfold closedOutcome
  cases j.line with
  | f => rw [normalise64_eq]
  | d => simp only [dutyBad, Bool.or_eq_true, decide_eq_true_eq]

/-! ### Filters and units at the end of a job (R79, R84) -/

theorem State.setFilter_unitOf (s : State) (line m : PinLine) (port q : Fin 24) (f : LineFilter) :
    (s.setFilter line port f).capture.unitOf q m = s.capture.unitOf q m := by
  cases line <;> rfl

/-- R79: the filter of a line whose level becomes HIGH at tick `now`. -/
theorem LineFilter.sample_of_changes {f : LineFilter} {now n : Nat} (h : f.changes now .high n = true)
    (hends : f.endsAt now .high n = now) : f.sample now .high n =
      { level := .high, sampled := .high, differing := 0, sampledAt := now, resting := false } := by
  rw [LineFilter.sample, h, Bool.or_true, if_pos rfl, hends]

theorem CaptureUnit.count_zero (level : PinLine → Fin 24 → PinLevel) (u : CaptureUnit) : u.count level 0 = u := by
  cases u <;> simp [CaptureUnit.count]

theorem State.elapse_zero (s : State) : s.elapse 0 = s := by
  have units : (Vector.ofFn fun k : Fin 4 => (s.capture.units[k]).count s.capture.level 0) = s.capture.units := by
    ext k hk
    simp [CaptureUnit.count_zero]
  rw [State.elapse, units]
  rfl

theorem State.elapse_unitOf (s : State) (n : Nat) (port : Fin 24) (line : PinLine) :
    (s.elapse n).capture.unitOf port line = s.capture.unitOf port line := by
  have holds : (fun k : Fin 4 => ((s.elapse n).capture.units[k]).holds port line) = fun k => (s.capture.units[k]).holds port line := by
    funext k
    rw [CaptureUnit.holds, State.elapse_unit, CaptureUnit.count_job?, ← CaptureUnit.holds]
  rw [Capture.unitOf, holds, ← Capture.unitOf]

/-! ### The end of a job (R84, R85) -/

/-- The state `u` is `s` with another clock and capture block. -/
def State.At (s u : State) (now : Nat) : Prop := u = { s with now := now, capture := u.capture }

theorem State.At.eq {s u : State} {now : Nat} (h : s.At u now) : u = { s with now := now, capture := u.capture } := h

theorem State.elapseTo_at (s : State) {now : Nat} (h : s.now ≤ now) : s.At (s.elapseTo now) now := by
  have clock : s.now + (now - s.now) = now := by omega
  exact congrArg (fun n => ({ s with now := n, capture := (s.elapseTo now).capture } : State)) clock

theorem State.At.setFilter {s u : State} {now : Nat} (h : s.At u now) (line : PinLine) (port : Fin 24) (f : LineFilter) :
    s.At (u.setFilter line port f) now :=
  (congrArg (fun v : State => v.setFilter line port f) h : _)

/-- The state `u` at which command `c` ends a job at tick `now`: time has passed up to then, and a closing edge has settled its
line. -/
structure State.EndsAt (s u : State) (c : Instr) (now : Nat) : Prop where
  at_ : s.At u now
  queue : u.capture.queue = s.capture.queue
  units : u.capture.units = (s.elapseTo now).capture.units
  outcomes : u.capture.outcomes = s.capture.outcomes
  filter : ∀ (m : PinLine) (q : Fin 24), u.capture.filter m q = filterAfter c now m q (s.capture.filter m q)

section
variable {s : State} {k : Fin 4} {j : Job} {o : JobOutcome} {now : Nat}

/-- R85: the expiry of a window. -/
theorem State.windowExpires_of_unit {port : Fin 24} {line : PinLine} {w : Nat} (hunit : s.capture.unitOf port line = some k)
    (h : (∃ x, s.capture.units[k] = .armed j x w) ∨ ∃ n x high, s.capture.units[k] = .counting j w n x high) :
    s.windowExpires port line = (s.elapseTo w).endJob k j (windowOutcome j) := by
  rw [State.windowExpires, hunit]
  obtain ⟨_, h⟩ | ⟨_, _, _, h⟩ := h <;> simp only [h]

/-- R84: a closing edge. -/
theorem State.risingEdge_closes {port : Fin 24} {line : PinLine} {w periods total high : Nat} {rests : Bool}
    (hunit : s.capture.unitOf port line = some k) (h : s.capture.units[k] = .counting j w periods total high)
    (hlast : j.n ≤ periods + 1) (hin : s.now ≤ w) :
    s.risingEdge port line rests = s.endJob k j (closedOutcome j total high) := by
  rw [State.risingEdge, hunit]
  simp only [h]
  rw [if_neg hin.not_gt, if_neg hlast.not_gt]

/-- R79, R84: a line that becomes HIGH at this very tick. -/
theorem State.sampleLine_rises {port : Fin 24} {line : PinLine} {n : Nat}
    (hchanges : (s.capture.filter line port).changes s.now .high n = true)
    (hends : (s.capture.filter line port).endsAt s.now .high n = s.now) : s.sampleLine port line .high n =
      (s.setFilter line port
        { level := .high, sampled := .high, differing := 0, sampledAt := s.now, resting := false }).risingEdge port line
          ((s.capture.filter line port).rests s.now .high n) := by
  have still : s.elapseTo s.now = s := by rw [State.elapseTo, Nat.sub_self, State.elapse_zero]
  rw [State.sampleLine]
  simp only [hends, still, LineFilter.sample_of_changes hchanges hends, hchanges, decide_true, Bool.and_self, if_true]

/-- R84: the command that names a closing edge, at the tick it comes. -/
theorem exec_captureJobComplete {total high w periods counted : Nat} (hpower : s.power = .running)
    (hunit : s.capture.unitOf j.port j.line = some k)
    (hchanges : (s.capture.filter j.line j.port).changes now .high 25 = true)
    (hends : (s.capture.filter j.line j.port).endsAt now .high 25 = now)
    (h : s.capture.units[k] = .counting j w periods counted high) (hlast : j.n ≤ periods + 1) (hin : now ≤ w)
    (hcounted : counted ≤ total) (hnow : now = s.now + (total - counted)) :
    exec (.captureJobComplete j.port j.line total high) s =
      .next (((s.elapseTo now).setFilter j.line j.port
        { level := .high, sampled := .high, differing := 0, sampledAt := now, resting := false }).endJob k j
          (closedOutcome j total high)) := by
  have ticks : s.ticksTo j.port j.line total = now - s.now := by
    rw [State.ticksTo, hunit]
    simp only [h]
    omega
  obtain ⟨u, hu⟩ : ∃ u, u = s.elapseTo now := ⟨_, rfl⟩
  have clock : u.now = now := by rw [hu, State.elapseTo_now]; omega
  have unitOf : u.capture.unitOf j.port j.line = some k := by rw [hu, State.elapseTo, State.elapse_unitOf, hunit]
  have unit : u.capture.units[k] = .counting j w periods total high := by
    have low : s.capture.level j.line j.port = .low := LineFilter.level_of_rises hchanges
    have all : counted + (now - s.now) = total := by omega
    rw [hu, State.elapseTo, State.elapse_unit, h, CaptureUnit.count, low, all]
    rfl
  have changes : (u.capture.filter j.line j.port).changes u.now .high 25 = true := by rw [clock, hu]; exact hchanges
  have ends : (u.capture.filter j.line j.port).endsAt u.now .high 25 = u.now := by rw [clock, hu]; exact hends
  have due : u.closingEdgeDue j.port j.line total high = true := by
    rw [State.closingEdgeDue, unitOf]
    simp only [unit, Config.filterTicks, changes, ends]
    simp [hlast, clock, hin]
  have running : (u.power = .running) := by rw [hu]; exact hpower
  change execCaptureJobComplete j.port j.line total high s = _
  rw [execCaptureJobComplete, ticks, ← State.elapseTo, ← hu]
  simp only [due, hpower, decide_true, Bool.and_self, if_true]
  rw [Config.filterTicks, State.sampleLine_rises changes ends, clock]
  refine congrArg Host.Outcome.next (State.risingEdge_closes (w := w) ((State.setFilter_unitOf _ _ _ _ _ _).trans unitOf) ?_ hlast
    (clock.trans_le hin))
  rw [State.setFilter, Capture.setFilter_units]
  exact unit

/-- R84 to R87: what a command that ends a job does. -/
theorem State.JobEnds.exec {c : Instr} (h : s.JobEnds c k j o now) :
    ∃ u, exec c s = .next (u.endJob k j o) ∧ s.EndsAt u c now ∧ (u.capture.units[k]).job? = some j := by
  obtain ⟨hpower, hunit, h⟩ := h
  cases c with
  | captureJobComplete port line total high =>
    obtain ⟨rfl, rfl, hchanges, hends, w, periods, counted, hk, hlast, hin, hcounted, hnow, ho⟩ := h
    have outcome : o = closedOutcome j total high := ho.trans (closedOutcome_eq j total high).symm
    subst outcome
    refine ⟨_, exec_captureJobComplete hpower hunit hchanges hends hk hlast hin hcounted hnow, ?_, ?_⟩
    · refine ⟨(s.elapseTo_at (by omega)).setFilter _ _ _, Capture.setFilter_queue _ _ _ _, Capture.setFilter_units _ _ _ _,
        Capture.setFilter_outcomes _ _ _ _, fun m q => ?_⟩
      by_cases hline : q = j.port ∧ m = j.line
      · obtain ⟨rfl, rfl⟩ := hline
        exact (Capture.setFilter_filter _ _ _ _).trans (if_pos ⟨rfl, rfl⟩).symm
      · exact (Capture.setFilter_filter_ne _ (by tauto) _).trans (if_neg hline).symm
    · rw [State.setFilter, Capture.setFilter_units, State.elapseTo_job?, hk]
      rfl
  | captureWindowExpiry port line =>
    obtain ⟨rfl, rfl, ⟨w, hk, hnow⟩, ho⟩ := h
    have outcome : o = windowOutcome j := ho
    subst outcome
    have same : s.elapseTo w = s.elapseTo now := by rw [State.elapseTo, State.elapseTo, hnow]; congr 1; omega
    refine ⟨s.elapseTo now, ?_, ?_, ?_⟩
    · change execCaptureWindowExpiry j.port j.line s = _
      rw [execCaptureWindowExpiry, hpower, ← same]
      exact congrArg Host.Outcome.next (State.windowExpires_of_unit hunit hk)
    · exact ⟨s.elapseTo_at (by omega), rfl, rfl, rfl, fun _ _ => rfl⟩
    · rw [State.elapseTo_job?]
      obtain ⟨_, hk⟩ | ⟨_, _, _, hk⟩ := hk <;> rw [hk] <;> rfl
  | _ => exact h.elim

end

end Sys2Proof.Machine
end

section
/-! The end of the last job of a point: the conversion it brings, the arbiter's turn and the sweep it may complete (R60, R83, R88,
R89, R131). -/

namespace Sys2Proof.Machine

/-! ### Outcomes handed on (R60, R88) -/

section
variable {c : Capture} {p : Fin 24} {e : EndedJob}

theorem Capture.outcomeOf_append_other {d : Capture} {m : PinLine} (h : d.outcomes = c.outcomes ++ [e]) (hother : m ≠ e.line) :
    d.outcomeOf p m = c.outcomeOf p m := by
  have : ¬(e.port = p ∧ e.line = m) := fun ⟨_, hm⟩ => hother hm.symm
  simp [Capture.outcomeOf, h, List.find?_append, this]

theorem Capture.outcomeOf_append_self {d : Capture} (h : d.outcomes = c.outcomes ++ [e]) (hp : e.port = p)
    (hnone : c.outcomeOf p e.line = none) : d.outcomeOf p e.line = some e.outcome := by
  have none : c.outcomes.find? (fun o => o.port = p && o.line = e.line) = none := Option.map_eq_none_iff.1 hnone
  rw [Capture.outcomeOf, h, List.find?_append, none]
  simp [hp]

/-- R91: nothing of a point is left to withdraw once its jobs have ended and its outcomes are taken off. -/
theorem Capture.withdraw_consume (h : c.outstanding p = false) : (c.consume p).withdraw p = c.consume p := by
  rw [Capture.outstanding_eq_false_iff] at h
  have queue : c.queue.filter (fun j => j.port ≠ p) = c.queue :=
    List.filter_eq_self.2 fun j hj => decide_eq_true (h j (.inl hj))
  have units : (Vector.ofFn fun k : Fin 4 => if (c.units[k]).holdsPort p then CaptureUnit.idle else c.units[k]) = c.units := by
    ext k hk
    rw [Vector.getElem_ofFn, if_neg]
    · rfl
    · intro hheld
      obtain ⟨j, hj, hp⟩ := CaptureUnit.holdsPort_iff.1 hheld
      exact h j (.inr ⟨_, hj⟩) hp
  have outcomes : (c.outcomes.filter fun o => o.port ≠ p).filter (fun o => o.port ≠ p) = c.outcomes.filter fun o => o.port ≠ p := by
    rw [List.filter_filter]
    simp
  simp only [Capture.withdraw, Capture.consume, queue, outcomes]
  exact congrArg (fun us => ({ c.consume p with units := us } : Capture)) units

end

/-! ### The last job of a point (R83, R88, R89) -/

section
variable {s u : State} {c : Instr} {k : Fin 4} {j : Job} {o : JobOutcome} {now : Nat}

/-- R88: after the last job of a point none of its jobs is outstanding. -/
theorem State.EndsAt.handOn_outstanding (h : s.EndsAt u c now) (hlast : s.LastJob j.port k) :
    (u.handOn k j o).capture.outstanding j.port = false := by
  obtain ⟨hqueue, hunits⟩ := hlast
  refine Capture.outstanding_eq_false_iff.2 fun i hi hp => ?_
  obtain hi | ⟨m, hm, hi⟩ := State.handOn_hasJob.1 hi
  · exact hqueue i (h.queue ▸ hi) hp
  · rw [h.units, State.elapseTo_job?] at hi
    exact absurd (CaptureUnit.holdsPort_iff.2 ⟨i, hi, hp⟩) (Bool.eq_false_iff.1 (hunits m hm))

/-- R88: the end of the last job of a point converts it. -/
theorem State.EndsAt.endJob (h : s.EndsAt u c now) (hlast : s.LastJob j.port k) (o : JobOutcome) :
    u.endJob k j o = ((u.handOn k j o).convert j.port).settle := by
  rw [State.endJob_eq, State.jobEnded, if_neg (Bool.eq_false_iff.1 (h.handOn_outstanding hlast))]

/-- R89: the jobs left are those that wait and those of the other units. -/
theorem State.EndsAt.jobsLeftBut_iff (h : s.EndsAt u c now) :
    s.JobsLeftBut k ↔ ∃ i, ((u.handOn k j o).capture.consume j.port).HasJob i := by
  have same (i : Job) : ((u.handOn k j o).capture.consume j.port).HasJob i ↔ (u.handOn k j o).capture.HasJob i := .rfl
  simp only [same, State.handOn_hasJob, h.queue, h.units, State.elapseTo_job?, State.JobsLeftBut, exists_or]
  refine or_congr ?_ ?_
  · exact ⟨List.exists_mem_of_ne_nil _, fun ⟨_, hi⟩ => List.ne_nil_of_mem hi⟩
  · rw [exists_comm]
    refine exists_congr fun m => ?_
    rw [exists_and_left, Option.ne_none_iff_exists']

theorem State.handOn_unit {m : Fin 4} (hm : m ≠ k) : (u.handOn k j o).capture.units[m] = u.capture.units[m] := by
  have : (k : Nat) ≠ m := fun e => hm (Fin.ext e.symm)
  simp [State.handOn, this]

/-- R83: a unit that may take a job once that of unit `k` has ended. -/
theorem State.EndsAt.free_iff (h : s.EndsAt u c now) (m : Fin 4) :
    (decide (m = k) || decide ((s.capture.units[m]).job? = none)) = true ↔ ((u.handOn k j o).capture.units[m]).job? = none := by
  by_cases hm : m = k
  · subst hm
    exact iff_of_true (by simp) (by simp [State.handOn, CaptureUnit.job?])
  · rw [State.handOn_unit hm, h.units, State.elapseTo_job?]
    simp [hm]

/-- R83, R89, R131: what is settled once a point is converted at the end of its last job, with the notices `pn`. -/
structure State.LastJobEnded (s t : State) (c : Instr) (k : Fin 4) (port : Fin 24) (now : Nat) (points : Vector PointRec 24)
    (purge : Purge) (pn : List Notice) : Prop where
  frame : t = { s with
    now := now, capture := t.capture, points := points, surfaces := t.surfaces, ranking := t.ranking
    notices := t.notices, outputs := t.outputs, sweep := t.sweep, purge := purge }
  filter : ∀ (m : PinLine) (q : Fin 24), t.capture.filter m q = filterAfter c now m q (s.capture.filter m q)
  passes : s.JobPassesOn t port k now
  sweep : s.SweepAfter t (s.JobsLeftBut k) pn

section
variable {t : State} {port : Fin 24} {pts : Vector PointRec 24} {purge : Purge} {pn : List Notice}
  (h : s.LastJobEnded t c k port now pts purge pn)
include h

theorem State.LastJobEnded.points : t.points = pts := (congrArg State.points h.frame :)

theorem State.LastJobEnded.frame_points : t = { s with
    now := now, capture := t.capture, points := t.points, surfaces := t.surfaces, ranking := t.ranking
    notices := t.notices, outputs := t.outputs, sweep := t.sweep, purge := purge } := by
  rw [h.points]
  exact h.frame

end

theorem State.EndsAt.settles (h : s.EndsAt u c now) {w : State} {pn : List Notice}
    (hw : w = { u with
      capture := (u.handOn k j o).capture.consume j.port, points := w.points, purge := w.purge
      notices := pn.foldl NoticeQueue.arrive u.notices }) :
    s.LastJobEnded w.settle c k j.port now w.points w.purge pn := by
  replace hw : w = { s with
      now := now, capture := (u.handOn k j o).capture.consume j.port, points := w.points, purge := w.purge
      notices := pn.foldl NoticeQueue.arrive s.notices } :=
    hw.trans (congrArg (fun v : State => ({ v with
      capture := (u.handOn k j o).capture.consume j.port, points := w.points, purge := w.purge
      notices := pn.foldl NoticeQueue.arrive v.notices } : State)) h.at_)
  have capture : w.capture = (u.handOn k j o).capture.consume j.port := by rw [hw]
  have clock : w.now = now := by rw [hw]
  have work : w.work = s.work := by rw [hw]
  have offers : s.Offers w pn := ⟨by rw [hw], by rw [hw], by rw [hw], by rw [hw], by rw [hw], by rw [hw]⟩
  refine ⟨?_, fun m q => ?_, ⟨?_, ?_⟩, offers.settle (capture ▸ h.jobsLeftBut_iff)⟩
  · exact w.settle_frame.trans (congrArg (fun v : State => ({ v with
      capture := w.settle.capture, points := w.points, purge := w.purge, surfaces := w.settle.surfaces
      ranking := w.settle.ranking, sweep := w.settle.sweep, notices := w.settle.notices
      outputs := w.settle.outputs } : State)) hw)
  · rw [w.settle_filter, capture, ← h.filter]
    rfl
  · have given := w.giveJobs_givenTo fun m => by rw [capture]; exact h.free_iff (j := j) (o := o) m
    have queue : ((u.handOn k j o).capture.consume j.port).queue = s.capture.queue := h.queue
    rw [← w.settle_capture, capture, clock, work, queue] at given
    refine given.congr fun m hm => ?_
    obtain ⟨hk, -⟩ := Bool.or_eq_false_iff.1 hm
    rw [← h.units]
    exact (State.handOn_unit (j := j) (o := o) (of_decide_eq_false hk)).symm
  · rw [w.settle_outcomes, capture, ← h.outcomes]
    exact (List.filter_append _ _).trans (by simp)

end

end Sys2Proof.Machine
end

section
/-! What the conversion of a point at the end of its last job records, and its POINT notice (R63 to R65, R70, R88, R96, R99). -/

namespace Sys2Proof.Machine

/-! ### POINT notices of a conversion (R70) -/

section
variable {num : SweepNo} {p : Fin 24} {a b : PointRun}

theorem pointNotice_eq : pointNotice num p a b =
    if a.condition = b.condition ∨ a.phase = b.phase ∧ a.health.goodOrHolding = true ∧ b.health.goodOrHolding = true then []
    else [Notice.mk .point p a.condition b.condition num b.noticeValue.1 b.noticeValue.2] := by
  rw [pointNotice]
  split
  next hdue =>
    rw [if_neg]
    rw [← pointNoticeDue_eq_false_iff, hdue]
    exact Bool.noConfusion
  next hdue => rw [if_pos ((pointNoticeDue_eq_false_iff a b).1 (Bool.eq_false_iff.2 hdue))]

/-- R70: the notice of a SURFACE point tells its health alone. -/
theorem pointNotice_unphased (ha : a.phase = .none) (hb : b.phase = .none) : pointNotice num p a b =
    if a.health = b.health ∨ a.health.goodOrHolding = true ∧ b.health.goodOrHolding = true then []
    else [Notice.mk .point p (10 * a.health.code) (10 * b.health.code) num b.noticeValue.1 b.noticeValue.2] := by
  have silent : (a.condition = b.condition ∨ a.phase = b.phase ∧ a.health.goodOrHolding = true ∧ b.health.goodOrHolding = true)
      ↔ a.health = b.health ∨ a.health.goodOrHolding = true ∧ b.health.goodOrHolding = true := by
    rw [PointRun.condition_inj, ha, hb, eq_self, and_true, true_and]
  rw [pointNotice_eq, if_congr silent rfl rfl, PointRun.condition, PointRun.condition, ha, hb]
  rfl

/-- R70: the notice of a good conversion. -/
theorem pointNotice_good (hb : b.health = .good) : pointNotice num p a b =
    if a.phase ≠ b.phase ∨ a.health.goodOrHolding = false then
      [Notice.mk .point p a.condition (20 + b.phase.code) num b.noticeValue.1 b.noticeValue.2]
    else [] := by
  have good : b.health.goodOrHolding = true := by rw [hb]; rfl
  have code : b.condition = 20 + b.phase.code := by rw [PointRun.condition, hb]; rfl
  have silent : (a.condition = b.condition ∨ a.phase = b.phase ∧ a.health.goodOrHolding = true ∧ b.health.goodOrHolding = true)
      ↔ ¬(a.phase ≠ b.phase ∨ a.health.goodOrHolding = false) := by
    rw [PointRun.condition_inj, hb]
    cases a.health <;> simp [Health.goodOrHolding]
  rw [pointNotice_eq, if_congr silent rfl rfl, ite_not, code]

end

/-- R64, R65, Table 4-4: a failed conversion. -/
theorem PointRun.failed_failsTo (r : PointRun) (w : WorkGlobals) (num : SweepNo) (cause : FailCause) :
    r.FailsTo (r.failed w num cause) w.faultCount num cause := by
  have phase : (match r.phase with | .waiting => .none | .soaked => .none | ph => ph)
      = if r.phase = .waiting ∨ r.phase = .soaked then Phase.none else r.phase := by
    cases r.phase <;> rfl
  refine ⟨fun h => ?_, fun h hless => ?_, fun h hless => ?_, fun h hless => ?_⟩
  · simp [PointRun.failed, h]
  · simp [PointRun.failed, h, hless.not_ge]
  · obtain h | h := h <;> simp [PointRun.failed, h, hless.not_ge]
  · obtain h | h | h := h <;> simp [PointRun.failed, h, hless, PointRun.enterFault, ← phase] <;> rfl

/-! ### Conversions at the end of the last job (R88, R96, R99) -/

section
variable {s u : State} {now : Nat}

theorem State.At.points (h : s.At u now) : u.points = s.points := (congrArg State.points h.eq :)
theorem State.At.purge (h : s.At u now) : u.purge = s.purge := (congrArg State.purge h.eq :)
theorem State.At.sweep (h : s.At u now) : u.sweep = s.sweep := (congrArg State.sweep h.eq :)
theorem State.At.work (h : s.At u now) : u.work = s.work := (congrArg State.work h.eq :)
theorem State.At.store (h : s.At u now) : u.store = s.store := (congrArg State.store h.eq :)
theorem State.At.clock (h : s.At u now) : u.now = now := (congrArg State.now h.eq :)

variable {c : Instr} {k : Fin 4} {j : Job} {o : JobOutcome} {new : PointRun}

/-- R63 to R65: the point is recorded. -/
theorem State.EndsAt.records (h : s.EndsAt u c now) (hlast : s.LastJob j.port k) {purge : Purge}
    (hconv : (u.handOn k j o).convert j.port =
      State.recordPoint { (u.handOn k j o).consumed j.port with purge := purge } j.port new) :
    s.LastJobEnded (u.endJob k j o) c k j.port now (s.points.set j.port { s.points[j.port] with run := new }) purge
      (pointNotice s.sweep.number j.port (s.points[j.port]).run new) := by
  rw [h.endJob hlast, hconv, ← h.at_.points, ← h.at_.sweep]
  exact h.settles rfl

/-- R63: the point is recorded, and the purge controller stays as it is. -/
theorem State.EndsAt.records_alone (h : s.EndsAt u c now) (hlast : s.LastJob j.port k)
    (hconv : (u.handOn k j o).convert j.port = ((u.handOn k j o).consumed j.port).recordPoint j.port new) :
    s.LastJobEnded (u.endJob k j o) c k j.port now (s.points.set j.port { s.points[j.port] with run := new }) s.purge
      (pointNotice s.sweep.number j.port (s.points[j.port]).run new) := by
  rw [← h.at_.purge]
  exact h.records hlast hconv

/-- R107: a failed point is recorded, and its entry leaves the purge queue when it leaves WAITING. -/
theorem State.EndsAt.records_failed (h : s.EndsAt u c now) (hlast : s.LastJob j.port k) {cause : FailCause}
    (hconv : (u.handOn k j o).conversion j.port = some (.failed cause))
    (hnew : new = (s.points[j.port]).run.failed s.work s.sweep.number cause) :
    s.LastJobEnded (u.endJob k j o) c k j.port now (s.points.set j.port { s.points[j.port] with run := new })
      { s.purge with
        queue :=
          if (s.points[j.port]).run.phase = .waiting ∧ new.phase = .none then s.purge.queue.filter fun e => e.point ≠ j.port
          else s.purge.queue }
      (pointNotice s.sweep.number j.port (s.points[j.port]).run new) := by
  have points : (u.handOn k j o).points = s.points := h.at_.points
  have work : (u.handOn k j o).work = s.work := h.at_.work
  have sweep : (u.handOn k j o).sweep = s.sweep := h.at_.sweep
  have purge : (u.handOn k j o).purge = s.purge := h.at_.purge
  have recorded := State.convert_of_failed hconv (new := new) (by rw [points, work, sweep, hnew])
  rw [State.consumedFailed, points, purge] at recorded
  exact h.records hlast recorded

/-- R96: the point is recorded and waits for a grant. -/
theorem State.EndsAt.waits (h : s.EndsAt u c now) (hlast : s.LastJob j.port k) (hfull : 2 ≤ s.purge.grants.length)
    (hconv : (u.handOn k j o).convert j.port =
      (((u.handOn k j o).consumed j.port).recordPoint j.port new).arrivePurge j.port .auto) :
    s.LastJobEnded (u.endJob k j o) c k j.port now (s.points.set j.port { s.points[j.port] with run := new })
      { s.purge with queue := s.purge.queue ++ [PurgeEntry.mk j.port .auto] }
      (pointNotice s.sweep.number j.port (s.points[j.port]).run new) := by
  have waits := State.arrivePurge_waits (s := ((u.handOn k j o).consumed j.port).recordPoint j.port new) (p := j.port) .auto
    (h.at_.purge ▸ hfull)
  rw [h.endJob hlast, hconv, waits, ← h.at_.points, ← h.at_.sweep, ← h.at_.purge]
  exact h.settles rfl

/-- R96, R99: the point is recorded and granted a heater at once. -/
theorem State.EndsAt.heats (h : s.EndsAt u c now) (hlast : s.LastJob j.port k) (hnew : new.phase = .waiting)
    (hqueue : s.purge.queue = []) (hfree : s.purge.grants.length < 2)
    (hconv : (u.handOn k j o).convert j.port =
      (((u.handOn k j o).consumed j.port).recordPoint j.port new).arrivePurge j.port .auto) :
    s.LastJobEnded (u.endJob k j o) c k j.port now
      (s.points.set j.port { s.points[j.port] with run := new.granted .auto })
      { s.purge with grants := s.purge.grants
          ++ [Grant.start j.port now s.store.written.globals.heaterDuty s.store.written.globals.purgeTime] }
      (pointNotice s.sweep.number j.port (s.points[j.port]).run new
        ++ pointNotice s.sweep.number j.port new (new.granted .auto)) := by
  have granted := State.arrivePurge_granted (s := (u.handOn k j o).consumed j.port) (p := j.port) .auto hnew
    (h.at_.purge ▸ hqueue) (h.at_.purge ▸ hfree)
  have clock := h.at_.clock
  have nothing : ((u.handOn k j o).capture.consume j.port).withdraw j.port = (u.handOn k j o).capture.consume j.port :=
    Capture.withdraw_consume (h.handOn_outstanding hlast)
  rw [h.endJob hlast, hconv, granted, ← h.at_.points, ← h.at_.sweep, ← h.at_.purge, ← h.at_.store]
  subst clock
  exact h.settles (congrArg (fun cap : Capture => ({ State.offer (State.heated _ _ _) _ with capture := cap } : State)) nothing)

end

end Sys2Proof.Machine
end

section
/-! The conversion of a SURFACE point at the end of its job (R62 to R64, R70, R88, R89). -/

namespace Sys2Proof.Machine

section
variable {s u : State} {c : Instr} {k : Fin 4} {j : Job} {o : JobOutcome} {now : Nat}

/-- R60, R88: what the outcomes handed on for a point come to at the end of its last job. -/
theorem State.EndsAt.conversion (h : s.EndsAt u c now) (hnone : s.capture.outcomeOf j.port j.line = none) :
    (u.handOn k j o).conversion j.port =
      match j.line with
      | .f => conversionOf (s.points[j.port]).cfg (some o) (s.capture.outcomeOf j.port .d)
      | .d => conversionOf (s.points[j.port]).cfg (s.capture.outcomeOf j.port .f) (some o) := by
  have outcomes : (u.handOn k j o).capture.outcomes = s.capture.outcomes ++ [EndedJob.mk j.port j.line o] :=
    congrArg (· ++ [EndedJob.mk j.port j.line o]) h.outcomes
  have points : (u.handOn k j o).points = s.points := h.at_.points
  have self := Capture.outcomeOf_append_self (p := j.port) outcomes rfl hnone
  have other {m : PinLine} (hm : m ≠ j.line) := Capture.outcomeOf_append_other (p := j.port) outcomes hm
  simp only [State.conversion, points]
  cases hline : j.line with
  | f =>
    rw [hline] at self other
    rw [self, other (by decide)]
  | d =>
    rw [hline] at self other
    rw [self, other (by decide)]

/-- R84 to R87: only an F job ends with a normalised count. -/
theorem State.JobEnds.line_of_fDone {c64 : Nat} (h : s.JobEnds c k j (.fDone c64) now) : j.line = .f := by
  obtain ⟨-, -, h⟩ := h
  by_contra hline
  obtain hline : j.line = .d := by
    cases e : j.line with
    | f => exact absurd e hline
    | d => rfl
  cases c with
  | captureJobComplete port line total high =>
    obtain ⟨-, -, -, -, w, periods, counted, -, -, -, -, -, ho⟩ := h
    rw [hline] at ho
    dsimp only at ho
    split at ho <;> cases ho
  | captureWindowExpiry port line =>
    obtain ⟨-, -, -, ho⟩ := h
    rw [hline] at ho
    cases ho
  | _ => exact h

/-- R60, R62, R64: the conversion of a SURFACE point. -/
theorem conversionOf_surface_good {cfg : PointCfg} (h : cfg.kind = .surface) (f : Option JobOutcome) (total high : Nat) :
    conversionOf cfg f (some (.dDone total high)) = some (.surface (temperature cfg total high)) := by
  unfold conversionOf
  rw [h]

theorem conversionOf_surface_failed {cfg : PointCfg} (h : cfg.kind = .surface) (f : Option JobOutcome) (cause : FailCause) :
    conversionOf cfg f (some (.failed cause)) = some (.failed cause) := by
  unfold conversionOf
  rw [h]

/-- R62 to R64: what the end of its job records of a SURFACE point. -/
theorem State.EndsAt.surface (h : s.EndsAt u c now) (hlast : s.LastJob j.port k) (hline : j.line = .d)
    (hnone : s.capture.outcomeOf j.port j.line = none) (hkind : (s.points[j.port]).cfg.kind = .surface)
    (hphase : (s.points[j.port]).run.phase = .none) (ho : ∀ c64, o ≠ .fDone c64) :
    ∃ r : PointRun, r.phase = .none
      ∧ (∀ total high, o = .dDone total high → r = (s.points[j.port]).run.madeGood s.sweep.number
          (.surface (temperature (s.points[j.port]).cfg total high) {}))
      ∧ (∀ cause, o = .failed cause → r = (s.points[j.port]).run.failed s.work s.sweep.number cause)
      ∧ s.LastJobEnded (u.endJob k j o) c k j.port now (s.points.set j.port { s.points[j.port] with run := r }) s.purge
          (pointNotice s.sweep.number j.port (s.points[j.port]).run r) := by
  have conversion := h.conversion (k := k) (j := j) (o := o) hnone
  simp only [hline] at conversion
  have points : (u.handOn k j o).points = s.points := h.at_.points
  have sweep : (u.handOn k j o).sweep = s.sweep := h.at_.sweep
  cases o with
  | fDone c64 => exact absurd rfl (ho c64)
  | dDone total high =>
    rw [conversionOf_surface_good hkind] at conversion
    have recorded := State.convert_of_surface conversion
    simp only [points, sweep] at recorded
    refine ⟨_, ?_, fun _ _ e => ?_, fun _ e => (JobOutcome.noConfusion e), h.records_alone hlast recorded⟩
    · exact hphase
    · cases e
      rfl
  | failed cause =>
    rw [conversionOf_surface_failed hkind] at conversion
    obtain ⟨keeps, -⟩ := (s.points[j.port]).run.failed_keeps s.work s.sweep.number cause
    have ended := h.records_failed hlast conversion rfl
    rw [if_neg fun hw => by rw [hphase] at hw; exact Phase.noConfusion hw.1] at ended
    refine ⟨_, ?_, fun _ _ e => (JobOutcome.noConfusion e), fun _ e => ?_, ended⟩
    · obtain e | ⟨e, -⟩ := keeps
      · exact e.trans hphase
      · exact e
    · cases e
      rfl

/-- Settles O41. -/
theorem surfacePointConversion : Obligations.SurfacePointConversion := by
  intro c k j o now old s hends hline hlast hfirst hold hkind hphase
  subst hold
  obtain ⟨u, hexec, ends, -⟩ := hends.exec
  have none : s.capture.outcomeOf j.port j.line = .none := by
    rw [Capture.outcomeOf, Option.map_eq_none_iff, List.find?_eq_none]
    intro e he
    simp [hfirst e he]
  have counted : ∀ c64, o ≠ .fDone c64 := by
    rintro c64 rfl
    cases hline.symm.trans hends.line_of_fDone
  obtain ⟨r, hr, hgood, hfailed, ended⟩ := ends.surface hlast hline none hkind hphase counted
  rw [pointNotice_unphased hphase hr] at ended
  refine ⟨u.endJob k j o, r, _, hexec, ended.points, fun total high e => hgood total high e, fun cause e => ?_, rfl,
    ended.frame_points, ended.filter, ended.passes, ended.sweep⟩
  rw [hfailed cause e]
  exact PointRun.failed_failsTo _ _ _ _

end

end Sys2Proof.Machine
end

section
/-! The conversion of an AIR point at the end of its last job (R60 to R64, R70, R95, R96, R99, R105, R107). -/

namespace Sys2Proof.Machine

/-! ### Conversions of an AIR point (R60 to R62) -/

section
variable {cfg : PointCfg} (hkind : cfg.kind = .air)
include hkind

theorem conversionOf_air_good {c64 total high : Nat} (hlow : -2500 ≤ rawRh cfg c64) (hhigh : rawRh cfg c64 ≤ 12500) :
    conversionOf cfg (some (.fDone c64)) (some (.dDone total high)) =
      some (.air (rawRh cfg c64) (temperature cfg total high)) := by
  unfold conversionOf
  rw [hkind]
  exact if_pos (by simp [rhInBand, hlow, hhigh])

/-- R60, R61: the causes of a failed conversion, the F job's before the D job's and that before the RH band. -/
theorem conversionOf_air_failed {f d : JobOutcome} {cause : FailCause}
    (h : f = .failed cause ∨ (∃ c64, f = .fDone c64) ∧ d = .failed cause
      ∨ (∃ c64 total high, f = .fDone c64 ∧ d = .dDone total high
          ∧ (rawRh cfg c64 < -2500 ∨ 12500 < rawRh cfg c64)) ∧ cause = .rhBand) :
    conversionOf cfg (some f) (some d) = some (.failed cause) := by
  unfold conversionOf
  rw [hkind]
  obtain rfl | ⟨⟨c64, rfl⟩, rfl⟩ | ⟨⟨c64, total, high, rfl, rfl, hband⟩, rfl⟩ := h
  · rfl
  · rfl
  · refine if_neg fun hin => ?_
    simp only [rhInBand, Bool.and_eq_true, decide_eq_true_eq] at hin
    omega

end

/-! ### The saturation step and the reading (R63, R95, R97, R105) -/

section
variable {w : WorkGlobals} {run : PointRun} {rh : Nat}

/-- R95, R97, R105: the saturation step of a point that does not arrive at the purge queue, and the dew point it takes. -/
theorem satStep_of_stays {dew measured soaked : DewPoint} {phase : Phase} {satRun purgeCount : Nat}
    (h : run.phase = .none ∧ rh < 9900 ∧ phase = .none ∧ satRun = 0 ∧ purgeCount = 0 ∧ dew = measured
      ∨ run.phase = .none ∧ 9900 ≤ rh ∧ run.satRun + 1 < w.satCount ∧ phase = .none ∧ satRun = run.satRun + 1
          ∧ purgeCount = run.purgeCount ∧ dew = measured
      ∨ run.phase = .none ∧ 9900 ≤ rh ∧ w.satCount ≤ run.satRun + 1 ∧ w.maxPurges ≤ run.purgeCount ∧ phase = .soaked
          ∧ satRun = 0 ∧ purgeCount = run.purgeCount ∧ dew = soaked
      ∨ run.phase = .soaked ∧ 9500 ≤ rh ∧ phase = .soaked ∧ satRun = run.satRun ∧ purgeCount = run.purgeCount ∧ dew = soaked
      ∨ run.phase = .soaked ∧ rh < 9500 ∧ phase = .none ∧ satRun = run.satRun ∧ purgeCount = 0 ∧ dew = measured
      ∨ run.phase = .waiting ∧ phase = .waiting ∧ satRun = run.satRun ∧ purgeCount = run.purgeCount ∧ dew = measured) :
    satStep w run rh = ({ run with phase := phase, satRun := satRun, purgeCount := purgeCount }, false)
      ∧ dew = if phase = .soaked then soaked else measured := by
  obtain ⟨hp, hrh, rfl, rfl, rfl, rfl⟩ | ⟨hp, hrh, hcount, rfl, rfl, rfl, rfl⟩ | ⟨hp, hrh, hcount, hmax, rfl, rfl, rfl, rfl⟩
    | ⟨hp, hrh, rfl, rfl, rfl, rfl⟩ | ⟨hp, hrh, rfl, rfl, rfl, rfl⟩ | ⟨hp, rfl, rfl, rfl, rfl⟩ := h
  · simp [satStep, hp, hrh.not_ge]
  · simp [satStep, hp, hrh, hcount.not_ge]
  · simp [satStep, hp, hrh, hcount, hmax.not_gt]
  · simp only [satStep, hp, hrh.not_gt, if_false, if_true, and_true]
    rw [← hp]
  · simp [satStep, hp, hrh]
  · simp only [satStep, hp, reduceCtorEq, if_false, and_true]
    rw [← hp]

/-- R95, R96: the saturation step of a point that arrives at the purge queue. -/
theorem satStep_of_arrives (hp : run.phase = .none) (hrh : 9900 ≤ rh) (hcount : w.satCount ≤ run.satRun + 1)
    (hmax : run.purgeCount < w.maxPurges) : satStep w run rh = ({ run with satRun := 0, phase := .waiting }, true) := by
  simp [satStep, hp, hrh, hcount, hmax]

/-- R63, R97, R105: the dew point of saturated air in SOAKED, and the measured one otherwise. -/
theorem airReading_eq {phase : Phase} {raw t : Int} {dew : DewPoint}
    (h : dew = if phase = .soaked then dewPoint t 10000 { saturated := true }
      else dewPoint t (measuredRh raw) (measuredRhQuals raw)) :
    airReading phase raw t =
      AirReading.mk (measuredRh raw) (measuredRhQuals raw) t {} dew.tc dew.e.toNat dew.td dew.q := by
  subst h
  unfold airReading rhUsed
  split <;> rfl

/-- R63: a good conversion, by its saturation step and the dew point it takes. -/
theorem PointRun.goodAir_of_satStep {num : SweepNo} {raw temp : Int} {rhQ : Quals} {measured dew : DewPoint} {phase : Phase}
    {satRun purgeCount : Nat} {arrives : Bool} (hrh : rh = measuredRh raw) (hrhQ : rhQ = measuredRhQuals raw)
    (hmeasured : measured = dewPoint temp rh rhQ)
    (step : satStep w run rh = ({ run with phase := phase, satRun := satRun, purgeCount := purgeCount }, arrives))
    (used : dew = if phase = .soaked then dewPoint temp 10000 { saturated := true } else measured) :
    run.goodAir w num raw temp =
      ({ run with
        health := .good, failRun := 0, lastGood := some num, phase := phase, satRun := satRun, purgeCount := purgeCount
        readings := .air (AirReading.mk rh rhQ temp {} dew.tc dew.e.toNat dew.td dew.q) }, arrives) := by
  subst hmeasured hrh hrhQ
  rw [PointRun.goodAir, step, ← airReading_eq used]
  rfl

end

/-! ### The end of the last job -/

section
variable {s u : State} {c : Instr} {k : Fin 4} {j : Job} {o f d : JobOutcome} {now : Nat}

/-- R60: the outcomes of the two jobs of an AIR point, the second of which has just ended. -/
theorem State.EndsAt.conversion_air (h : s.EndsAt u c now) (hnone : s.capture.outcomeOf j.port j.line = none)
    (hboth : j.line = .d ∧ s.capture.outcomeOf j.port .f = some f ∧ d = o
      ∨ j.line = .f ∧ s.capture.outcomeOf j.port .d = some d ∧ f = o) :
    (u.handOn k j o).conversion j.port = conversionOf (s.points[j.port]).cfg (some f) (some d) := by
  rw [h.conversion hnone]
  obtain ⟨hline, hother, rfl⟩ | ⟨hline, hother, rfl⟩ := hboth <;> simp only [hline, hother]

variable {run new : PointRun} {cfg : PointCfg} {raw t : Int}

theorem State.EndsAt.convert_air (h : s.EndsAt u c now) (hpoint : s.points[j.port] = PointRec.mk cfg run)
    (hconv : (u.handOn k j o).conversion j.port = some (.air raw t)) {arrives : Bool}
    (hgood : run.goodAir s.work s.sweep.number raw t = (new, arrives)) : (u.handOn k j o).convert j.port =
      if arrives = true then (((u.handOn k j o).consumed j.port).recordPoint j.port new).arrivePurge j.port .auto
      else ((u.handOn k j o).consumed j.port).recordPoint j.port new := by
  have points : (u.handOn k j o).points = s.points := h.at_.points
  have work : (u.handOn k j o).work = s.work := h.at_.work
  have sweep : (u.handOn k j o).sweep = s.sweep := h.at_.sweep
  exact State.convert_of_air hconv (g := (new, arrives)) (by rw [points, work, sweep, hpoint, hgood])

/-- R63: a good conversion that does not arrive at the purge queue. -/
theorem State.EndsAt.records_air (h : s.EndsAt u c now) (hlast : s.LastJob j.port k)
    (hpoint : s.points[j.port] = PointRec.mk cfg run)
    (hconv : (u.handOn k j o).conversion j.port = some (.air raw t))
    (hgood : run.goodAir s.work s.sweep.number raw t = (new, false)) :
    s.LastJobEnded (u.endJob k j o) c k j.port now (s.points.set j.port (PointRec.mk cfg new)) s.purge
      (pointNotice s.sweep.number j.port run new) := by
  have ended := h.records_alone hlast (h.convert_air hpoint hconv hgood)
  rw [hpoint] at ended
  exact ended

/-- R63, R96: a good conversion that arrives at the purge queue with both grants held. -/
theorem State.EndsAt.waits_air (h : s.EndsAt u c now) (hlast : s.LastJob j.port k)
    (hpoint : s.points[j.port] = PointRec.mk cfg run)
    (hconv : (u.handOn k j o).conversion j.port = some (.air raw t))
    (hgood : run.goodAir s.work s.sweep.number raw t = (new, true)) (hfull : 2 ≤ s.purge.grants.length) :
    s.LastJobEnded (u.endJob k j o) c k j.port now (s.points.set j.port (PointRec.mk cfg new))
      { s.purge with queue := s.purge.queue ++ [PurgeEntry.mk j.port .auto] }
      (pointNotice s.sweep.number j.port run new) := by
  have ended := h.waits hlast hfull (h.convert_air hpoint hconv hgood)
  rw [hpoint] at ended
  exact ended

/-- R63, R96, R99: a good conversion that arrives at the purge queue with a grant free. -/
theorem State.EndsAt.heats_air (h : s.EndsAt u c now) (hlast : s.LastJob j.port k)
    (hpoint : s.points[j.port] = PointRec.mk cfg run)
    (hconv : (u.handOn k j o).conversion j.port = some (.air raw t))
    (hgood : run.goodAir s.work s.sweep.number raw t = (new, true)) (hnew : new.phase = .waiting)
    (hqueue : s.purge.queue = []) (hfree : s.purge.grants.length < 2) :
    s.LastJobEnded (u.endJob k j o) c k j.port now (s.points.set j.port (PointRec.mk cfg (new.granted .auto)))
      { s.purge with grants := s.purge.grants
          ++ [Grant.start j.port now s.store.written.globals.heaterDuty s.store.written.globals.purgeTime] }
      (pointNotice s.sweep.number j.port run new ++ pointNotice s.sweep.number j.port new (new.granted .auto)) := by
  have ended := h.heats hlast hnew hqueue hfree (h.convert_air hpoint hconv hgood)
  rw [hpoint] at ended
  exact ended

/-- R70, R96: the notice of an arrival at the purge queue. -/
theorem pointNotice_arrives {num : SweepNo} {p : Fin 24} (hp : run.phase = .none) (hgood : new.health = .good)
    (hnew : new.phase = .waiting) : pointNotice num p run new =
      [Notice.mk .point p (10 * run.health.code) 21 num new.noticeValue.1 new.noticeValue.2] := by
  have asks : run.phase ≠ new.phase ∨ run.health.goodOrHolding = false := by
    rw [hp, hnew]
    exact .inl Phase.noConfusion
  rw [pointNotice_good hgood, if_pos asks, PointRun.condition, hp, hnew]
  rfl

/-- R99: the heater of a point granted at the end of its last job is on. -/
theorem State.LastJobEnded.heaterOn {t : State} {p : Fin 24} {pts : Vector PointRec 24} {ns : List Notice} {duty time : Nat}
    (h : s.LastJobEnded t c k p now pts
      { s.purge with grants := s.purge.grants ++ [Grant.start p now duty time] } ns) (hpower : s.power = .running) :
    t.heaterOn p = true := by
  have power : t.power = s.power := by rw [h.frame]
  have grants : t.purge.grants = _ := congrArg (fun x : State => x.purge.grants) h.frame
  rw [State.heaterOn, power, hpower]
  simp [grants, Grant.start]

/-- Settles O42: good conversions by their saturation step, and failed ones by their cause. -/
theorem airPointConversion : Obligations.AirPointConversion := by
  intro c k j o f d now s run cfg hends hlast hnone hboth hpoint hkind
  obtain ⟨u, hexec, ends, -⟩ := hends.exec
  have conversion := ends.conversion_air (k := k) (o := o) hnone hboth
  rw [hpoint] at conversion
  refine ⟨fun c64 total high raw temp rh rhQ measured soaked hf hd hraw hlow hhigh hrh hrhQ htemp hmeasured hsoaked => ?_,
    fun cause hcause => ?_⟩
  · have hrawRh : rawRh cfg c64 = raw := hraw.symm
    have htemperature : temperature cfg total high = temp := htemp.symm
    rw [hf, hd, conversionOf_air_good hkind (hrawRh.symm ▸ hlow) (hrawRh.symm ▸ hhigh), hrawRh, htemperature] at conversion
    clear hf hd hraw htemp hrawRh htemperature hlow hhigh
    refine ⟨fun r dew phase satRun purgeCount hr hcases => ?_, fun hphase hsat hcount hmax => ?_⟩
    · subst hr hsoaked
      obtain ⟨step, used⟩ := satStep_of_stays hcases
      have ended := ends.records_air hlast hpoint conversion (PointRun.goodAir_of_satStep hrh hrhQ hmeasured step used)
      rw [pointNotice_good rfl] at ended
      exact ⟨u.endJob k j o, hexec, ended.frame_points, ended.points, ended.passes, ended.filter, ended.sweep⟩
    · have good := PointRun.goodAir_of_satStep (num := s.sweep.number) hrh hrhQ hmeasured
        (satStep_of_arrives hphase hsat hcount hmax) (if_neg Phase.noConfusion).symm
      refine ⟨fun hfull => ?_, fun hqueue hfree => ?_⟩
      · have ended := ends.waits_air hlast hpoint conversion good hfull
        rw [pointNotice_arrives hphase rfl rfl] at ended
        exact ⟨u.endJob k j o, hexec, ended.frame_points, ended.points, ended.passes, ended.filter, ended.sweep⟩
      · have ended := ends.heats_air hlast hpoint conversion good rfl hqueue hfree
        rw [pointNotice_arrives hphase rfl rfl, pointNotice_granted rfl] at ended
        exact ⟨u.endJob k j o, hexec, ended.points, ended.frame_points, ended.heaterOn hends.1, ended.passes, ended.filter,
          ended.sweep⟩
  · rw [conversionOf_air_failed hkind hcause] at conversion
    have ended := ends.records_failed (new := run.failed s.work s.sweep.number cause) hlast conversion (by rw [hpoint])
    rw [hpoint, pointNotice_eq] at ended
    exact ⟨u.endJob k j o, _, hexec, ended.frame_points, ended.points, PointRun.failed_failsTo _ _ _ _, ended.passes,
      ended.filter, ended.sweep⟩

end

end Sys2Proof.Machine
end

section
/-! What the operations of the blocks leave of a capture block: nothing but the filters, jobs, counts and outcomes it had
(`Capture.Yields`), and the arbiter's turn that settles it (R83, R88, R89, R91, R92). -/

namespace Sys2Proof.Machine

/-! ### What a capture block yields (R79, R84, R88, R91) -/

/-- Capture block `c` becomes `d` without a sample, a new job, a new count or a new outcome. -/
structure Capture.Yields (c d : Capture) : Prop where
  filter : ∀ (m : PinLine) (q : Fin 24), d.filter m q = c.filter m q
  jobs : ∀ j, d.HasJob j → c.HasJob j
  counts : ∀ (k : Fin 4) (j : Job) (w periods total high : Nat),
    d.units[k] = .counting j w periods total high → c.units[k] = .counting j w periods total high
  outcomes : ∀ e ∈ d.outcomes, e ∈ c.outcomes

theorem Capture.Yields.refl (c : Capture) : c.Yields c :=
  ⟨fun _ _ => rfl, fun _ => id, fun _ _ _ _ _ _ => id, fun _ => id⟩

theorem Capture.Yields.trans {c d e : Capture} (h : c.Yields d) (k : d.Yields e) : c.Yields e where
  filter m q := (k.filter m q).trans (h.filter m q)
  jobs j hj := h.jobs j (k.jobs j hj)
  counts u j w periods total high hu := h.counts u j w periods total high (k.counts u j w periods total high hu)
  outcomes o ho := h.outcomes o (k.outcomes o ho)

/-- R91: jobs withdrawn. -/
theorem Capture.withdraw_yields (c : Capture) (p : Fin 24) : c.Yields (c.withdraw p) where
  filter m q := by cases m <;> rfl
  jobs j hj := (Capture.withdraw_hasJob.1 hj).1
  counts k j w periods total high hk := by
    rw [Capture.withdraw_unit] at hk
    split at hk
    next => cases hk
    next => exact hk
  outcomes e he := (List.mem_filter.1 he).1

/-- R88: outcomes taken off. -/
theorem Capture.consume_yields (c : Capture) (p : Fin 24) : c.Yields (c.consume p) where
  filter m q := by cases m <;> rfl
  jobs _ := id
  counts _ _ _ _ _ _ := id
  outcomes e he := (List.mem_filter.1 he).1

/-- R92: everything discarded but the filters. -/
theorem Capture.discardAll_yields (c : Capture) : c.Yields c.discardAll where
  filter m q := by cases m <;> rfl
  jobs j hj := by
    obtain hj | ⟨k, hk⟩ := hj
    · exact absurd hj List.not_mem_nil
    · exact absurd hk (by simp [Capture.discardAll, CaptureUnit.job?])
  counts k j w periods total high hk := by simp [Capture.discardAll] at hk
  outcomes e he := absurd he List.not_mem_nil

theorem Capture.discardAll_hasJob (c : Capture) (j : Job) : ¬c.discardAll.HasJob j := by
  simp [Capture.HasJob, Capture.discardAll, CaptureUnit.job?]

/-- R83, R84: one IDLE unit is given a job. -/
theorem Capture.giveOne_yields (c : Capture) (now window : Nat) (k : Fin 4) : c.Yields (c.giveOne now window k) where
  filter m q := c.giveOne_filter k m q
  jobs j hj := Capture.giveOne_hasJob.1 hj
  counts m j w periods total high hm := by
    unfold Capture.giveOne at hm
    split at hm
    next =>
      by_cases hk : k = m
      · subst hk
        simp at hm
      · have : (k : Nat) ≠ m := fun e => hk (Fin.ext e)
        simpa [this] using hm
    next => exact hm
  outcomes e he := by rwa [c.giveOne_outcomes k] at he

section
variable (s : State)

theorem State.giveJobs_yields : s.capture.Yields s.giveJobs.capture :=
  List.foldlRecOn (motive := fun d => s.capture.Yields d) _ _ (.refl _) fun d hd k _ =>
    hd.trans (d.giveOne_yields _ _ k)

theorem State.settle_yields : s.capture.Yields s.settle.capture := by
  rw [s.settle_capture]
  exact s.giveJobs_yields

/-! ### Purges and conversions (R60, R91, R99) -/

theorem State.serveOne_yields : s.capture.Yields s.serveOne.1.capture := by
  obtain ⟨e, rest, -, -, h⟩ | ⟨-, h⟩ := s.serveOne_cases <;> rw [h]
  · exact s.capture.withdraw_yields e.point
  · exact .refl _

theorem State.serve_yields : s.capture.Yields s.serve.1.capture := s.serveOne_yields.trans s.serveOne.1.serveOne_yields

theorem State.arrivePurge_yields (p : Fin 24) (o : PurgeOrigin) : s.capture.Yields (s.arrivePurge p o).capture :=
  (s.queued p o).serve_yields

theorem State.adoptPoints_yields : s.capture.Yields s.adoptPoints.capture := by
  rw [s.adoptPoints_capture, ← s.pointsRevised_capture]
  exact s.pointsRevised.serve_yields

theorem State.convert_yields (p : Fin 24) : s.capture.Yields (s.convert p).capture := by
  have consumed := s.capture.consume_yields p
  cases hconv : s.conversion p with
  | none => rwa [State.convert_of_none hconv]
  | some c =>
    cases c with
    | failed cause => rwa [State.convert_of_failed hconv rfl]
    | surface t => rwa [State.convert_of_surface hconv]
    | air raw t =>
      rw [State.convert_of_air hconv rfl]
      split
      · exact consumed.trans (((s.consumed p).recordPoint p _).arrivePurge_yields p .auto)
      · exact consumed

/-! ### The jobs of a sweep in flight (R83, R89) -/

/-- R89: a job waits or is held only while a sweep is in flight. -/
def State.JobsInFlight : Prop := ∀ j, s.capture.HasJob j → s.sweep.inFlight = true

variable {s}

theorem State.JobsInFlight.yields {t : State} (h : s.JobsInFlight) (hflight : t.sweep.inFlight = s.sweep.inFlight)
    (hyields : s.capture.Yields t.capture) : t.JobsInFlight :=
  fun j hj => hflight.trans (h j (hyields.jobs j hj))

theorem State.CaptureLaw.jobsInFlight (h : s.CaptureLaw) : s.JobsInFlight := by
  obtain ⟨hflight, -⟩ := h
  exact fun j hj => hflight.2 (Bool.eq_false_iff.2 fun hended => Capture.allEnded_iff.1 hended j hj)

/-- R83: what the arbiter leaves waiting, it leaves behind units that all hold a job. -/
theorem State.giveJobs_busy (hqueue : s.giveJobs.capture.queue ≠ []) (k : Fin 4) :
    (s.giveJobs.capture.units[k]).job? ≠ none := by
  obtain ⟨free, hfree⟩ : ∃ free : Fin 4 → Bool, ∀ m, free m = true ↔ (s.capture.units[m]).job? = none :=
    ⟨fun m => decide ((s.capture.units[m]).job? = none), fun _ => decide_eq_true_iff⟩
  obtain ⟨queue, units⟩ := s.giveJobs_givenTo hfree
  have enough : ((List.finRange 4).filter free).length < s.capture.queue.length := by
    rw [queue] at hqueue
    exact Nat.lt_of_not_le fun hle => hqueue (List.drop_eq_nil_of_le hle)
  have before : ((List.finRange 4).filter fun x => x < k && free x).length ≤ ((List.finRange 4).filter free).length :=
    (List.monotone_filter_right _ fun x hx => ((Bool.and_eq_true _ _).mp hx).2).length_le
  rw [units k]
  split
  next =>
    rw [List.getElem?_eq_getElem (before.trans_lt enough)]
    exact Option.some_ne_none _
  next hheld => exact fun hnone => hheld ((hfree k).2 hnone)

theorem State.completeSweep_inFlight (s : State) : s.completeSweep.sweep.inFlight = false := by
  rw [s.completeSweep_sweep rfl]
  split <;> rfl

/-- R83, R89: settling brings the law of the capture block about, where jobs stand only in a sweep in flight. -/
theorem State.JobsInFlight.settle (h : s.JobsInFlight) : s.settle.CaptureLaw := by
  refine ⟨?_, fun hqueue k => ?_⟩
  · obtain ⟨e, -, hended⟩ | ⟨e, hleft⟩ := s.settle_cases <;> rw [e]
    · have capture : s.giveJobs.completeSweep.capture = s.giveJobs.capture := by simp only [State.completeSweep_keeps]
      rw [State.completeSweep_inFlight, capture, hended]
      decide
    · cases hended : s.giveJobs.capture.allEnded with
      | true =>
        have landed := hleft.resolve_right (by rw [hended]; exact Bool.noConfusion)
        rw [State.giveJobs_sweep, landed]
        decide
      | false =>
        obtain ⟨j, hj⟩ : ∃ j, s.giveJobs.capture.HasJob j := by
          by_contra! hnone
          exact Bool.eq_false_iff.1 hended (Capture.allEnded_iff.2 hnone)
        exact iff_of_true (h j (State.giveJobs_hasJob.1 hj)) rfl
  · rw [s.settle_capture] at hqueue ⊢
    exact State.giveJobs_busy hqueue k

end

end Sys2Proof.Machine
end

section
/-! A law about the clock, the supply and the capture block that the events of these keep (`KeptByCaptureEvents`) is kept by every
step. -/

namespace Sys2Proof.Machine

/-! ### The data such a law speaks of -/

/-- The clock, the supply, the capture block and whether a sweep is in flight. -/
structure CaptureSide where
  now      : Nat
  power    : Power
  capture  : Capture
  inFlight : Bool

/-- The part of a state that a law of the capture block speaks of. -/
def State.captureSide (s : State) : CaptureSide :=
  { now := s.now, power := s.power, capture := s.capture, inFlight := s.sweep.inFlight }

/-- The global settings that a start of the part or of a sweep may bring in force meet `W`. -/
def Store.SettingsMeet (W : GlobalCfg → Prop) (t : Store) : Prop :=
  W t.written.globals ∧ ∀ m : SavedImage, t.nv = some m → W m.image.globals

/-- A law about that part which the events that change it keep, `W` holding of the settings that a sweep start brings in force. -/
structure KeptByCaptureEvents (W : GlobalCfg → Prop) (P : State → Prop) : Prop where
  factory : W Image.factory.globals
  frame {s t : State} : P s → t.captureSide = s.captureSide → P t
  elapsed {s : State} (n : Nat) : P s → P (s.elapse n)
  idled {s : State} : s.power ≠ .running → P s → P { s with now := s.now + 1 }
  stopped {s : State} {power : Power} : power ≠ .running → P s → P { s with power := power }
  sampled {s : State} (port : Fin 24) (line : PinLine) (v : PinLevel) (n : Nat) :
    s.power = .running → P s → P (s.sampleLine port line v n)
  windowExpired {s : State} (port : Fin 24) (line : PinLine) : P s → P (s.windowExpires port line)
  purged {s : State} (p : Fin 24) : P s → P (s.manualPurge p)
  purgeExpired {s : State} (p : Fin 24) : P s → P (s.purgeExpires p)
  sweepStarted {s : State} : W s.store.written.globals → P s → P s.startSweep
  restarted {s : State} : P s → P s.restartBlocks
  started (s : State) (cause : Nat) (pins : StartPins) (good : Option Image) : P (s.startBlocks cause pins good)
  lost (s : State) : P s.losePower

/-! ### Updates that leave that part alone -/

section
variable (s : State)

theorem State.clearLatch_captureSide (l : Fin 8) : (s.clearLatch l).captureSide = s.captureSide := by
  simp only [State.captureSide, State.clearLatch_keeps]

theorem State.debounceExpires_captureSide (l : Fin 8) : (s.debounceExpires l).captureSide = s.captureSide := by
  have same := s.debounceSeen_same l
  rw [State.debounceExpires_eq]
  generalize s.debounceSeen l = u at same ⊢
  rw [same.eq]
  rfl

theorem State.rawChange_captureSide (l : Fin 8) (v : WetLevel) : (s.rawChange l v).captureSide = s.captureSide := by
  rw [State.rawChange_eq]
  rfl

theorem State.storedAndActedOn_captureSide (store : Store) : (s.storedAndActedOn store).captureSide = s.captureSide := by
  rw [State.storedAndActedOn_frame]
  rfl

theorem State.loadImage_captureSide (i : Image) : (s.loadImage i).captureSide = s.captureSide := by
  rw [State.loadImage_eq]
  exact s.storedAndActedOn_captureSide _

theorem State.writeStartMode_captureSide (m : SweepMode) : (s.writeStartMode m).captureSide = s.captureSide := by
  unfold State.writeStartMode
  split <;> rfl

theorem State.writeStartMode_globals (m : SweepMode) :
    (s.writeStartMode m).store.written.globals = s.store.written.globals := by
  unfold State.writeStartMode
  split <;> rfl

theorem State.writeInterval_captureSide (v : Nat) : (s.writeInterval v).captureSide = s.captureSide := by
  unfold State.writeInterval
  split <;> rfl

theorem State.stop_captureSide : s.stop.captureSide = s.captureSide := by
  unfold State.stop
  split
  · rfl
  · exact State.writeStartMode_captureSide _ _

theorem State.dropFrame_captureSide : s.dropFrame.captureSide = s.captureSide := by
  unfold State.dropFrame
  split <;> rfl

theorem State.tick_of_running {s : State} (h : s.power = .running) : s.tick = s.elapse 1 := by
  rw [State.tick, h]

theorem State.tick_of_stopped {s : State} (h : s.power ≠ .running) : s.tick = { s with now := s.now + 1 } := by
  unfold State.tick
  split
  next hrun => exact absurd hrun h
  next => rfl

theorem State.huntByte_captureSide (b : Byte) : (s.huntByte b).captureSide = s.captureSide := by
  unfold State.huntByte
  split <;> rfl

end

namespace KeptByCaptureEvents
variable {W : GlobalCfg → Prop} {P : State → Prop} {s : State} (k : KeptByCaptureEvents W P)
include k

theorem tick (h : P s) : P s.tick := by
  by_cases hpower : s.power = .running
  · rw [State.tick_of_running hpower]
    exact k.elapsed 1 h
  · rw [State.tick_of_stopped hpower]
    exact k.idled hpower h

theorem setSweep (h : P s) {w : Sweep} (hw : w.inFlight = s.sweep.inFlight) : P { s with sweep := w } :=
  k.frame h (congrArg (fun b => ({ s.captureSide with inFlight := b } : CaptureSide)) hw)

theorem setPurge (h : P s) (g : Purge) : P { s with purge := g } := k.frame h rfl

theorem elapsedTo (h : P s) (t : Nat) : P (s.elapseTo t) := k.elapsed _ h

/-! ### Heaters (R101) -/

theorem periodStarts (h : P s) (g : Grant) : P (s.periodStarts g) := by
  unfold State.periodStarts
  dsimp only
  split
  · exact k.setPurge (k.elapsedTo h _) _
  · exact h

theorem onTimeEnds (h : P s) (g : Grant) : P (s.onTimeEnds g) := by
  unfold State.onTimeEnds
  dsimp only
  split
  · exact k.setPurge (k.elapsedTo h _) _
  · exact h

/-! ### Requests without a sweep start (R155, R157) -/

theorem answer {handle : State → State × Answer} (h : P s) (hhandle : P (handle s).1) (kind : Byte) :
    P (s.answer kind handle) := by
  cases htakes : s.takesOwn with
  | true => rw [State.answer_of_takes htakes]; exact k.frame hhandle rfl
  | false => rwa [State.answer_of_not htakes]

theorem broadcast {handle : State → State × Answer} (h : P s) (hhandle : P (handle s).1) : P (s.broadcast handle) := by
  cases hreceives : s.receives with
  | true => rw [State.broadcast_of_receives hreceives]; exact k.frame hhandle rfl
  | false => rwa [State.broadcast_of_not hreceives]

theorem request {handle : State → State × Answer} (h : P s) (hhandle : P (handle s).1) (dest : Dest) (kind : Byte) :
    P (s.request dest kind handle) := by
  cases dest with
  | own => exact k.answer h hhandle kind
  | broadcast => exact k.broadcast h hhandle

theorem pointWriteRequest (h : P s) (p : List Byte) : P (pointWriteRequest p s).1 := by
  refine kept_unless h fun _ => kept_unless h fun _ => kept_unless h fun _ => ?_
  split
  · exact h
  · exact kept_unless h fun _ => k.frame h rfl

theorem surfaceWriteRequest (h : P s) (p : List Byte) : P (surfaceWriteRequest p s).1 := by
  refine kept_unless h fun _ => kept_unless h fun _ => kept_unless h fun _ => ?_
  split
  · exact h
  · exact kept_onlyIf h fun _ => k.frame h rfl

theorem globalWriteRequest (h : P s) (p : List Byte) : P (globalWriteRequest p s).1 :=
  kept_unless h fun _ => kept_unless h fun _ => kept_onlyIf h fun _ => k.frame h rfl

theorem outputWriteRequest (h : P s) (p : List Byte) : P (outputWriteRequest p s).1 := by
  refine kept_unless h fun _ => kept_unless h fun _ => kept_unless h fun _ => ?_
  split
  · exact kept_onlyIf h fun _ => k.frame h rfl
  · exact h

theorem wetlineWriteRequest (h : P s) (p : List Byte) : P (wetlineWriteRequest p s).1 :=
  kept_unless h fun _ => kept_unless h fun _ => kept_onlyIf h fun _ => k.frame h (s.storedAndActedOn_captureSide _)

theorem wetAckRequest (h : P s) (p : List Byte) : P (wetAckRequest p s).1 :=
  kept_unless h fun _ => kept_unless h fun _ => kept_unless h fun _ => k.frame h (s.clearLatch_captureSide _)

theorem purgeRequest (h : P s) (p : List Byte) : P (purgeRequest p s).1 :=
  kept_unless h fun _ => kept_unless h fun _ => kept_onlyIf h fun _ => k.purged _ h

theorem loadRequest (h : P s) (p : List Byte) : P (loadRequest p s).1 := by
  refine kept_unless h fun _ => kept_unless h fun _ => ?_
  split
  · exact h
  · exact k.frame h (s.loadImage_captureSide _)

theorem sweepStopRequest (h : P s) (p : List Byte) : P (sweepStopRequest p s).1 :=
  kept_unless h fun _ => kept_unless h fun _ => k.frame h s.stop_captureSide

theorem sweepIntervalRequest (h : P s) (p : List Byte) : P (sweepIntervalRequest p s).1 :=
  kept_unless h fun _ => kept_unless h fun _ => k.frame h ((State.writeInterval_captureSide _ _).trans rfl)

theorem snapArmRequest (h : P s) (p : List Byte) : P (snapArmRequest p s).1 := kept_unless h fun _ => k.frame h rfl

theorem noticeDropRequest (h : P s) (p : List Byte) : P (noticeDropRequest p s).1 := kept_unless h fun _ => k.frame h rfl

theorem saveRequest (h : P s) (p : List Byte) : P (saveRequest p s).1 :=
  kept_unless h fun _ => kept_unless h fun _ => k.frame h rfl

/-! ### Sweep starts and RESTART (R122, R125, R127, R130, R162) -/

section
variable (hw : W s.store.written.globals)
include hw

theorem sweepTimerExpires (h : P s) (t : Nat) : P (s.sweepTimerExpires t) := by
  unfold State.sweepTimerExpires
  dsimp only
  split
  · exact k.frame h rfl
  · exact k.sweepStarted (s := { s with sweep := s.sweep.takePending.loadTimer t }) hw (k.frame h rfl)

theorem run (h : P s) : P s.run := by
  have loaded : P { s with sweep := ({ s.sweep with mode := .continuous }).takePending.loadTimer s.now } := k.frame h rfl
  have written := k.frame loaded (State.writeStartMode_captureSide _ .continuous)
  unfold State.run
  split
  · exact h
  · dsimp only
    split
    · exact written
    · refine k.sweepStarted ?_ written
      rw [State.writeStartMode_globals]
      exact hw

theorem sweepRunRequest (h : P s) (p : List Byte) : P (sweepRunRequest p s).1 :=
  kept_unless h fun _ => kept_unless h fun _ => k.run hw h

theorem sweepOnceRequest (h : P s) (p : List Byte) : P (sweepOnceRequest p s).1 :=
  kept_unless h fun _ => kept_unless h fun _ => kept_unless h fun _ => k.sweepStarted hw h

theorem sweepRequest (h : P s) (p : List Byte) : P (sweepRequest p s).1 := by
  unfold Machine.sweepRequest
  split
  · exact h
  · split
    · exact k.sweepRunRequest hw h _
    · exact k.sweepStopRequest h _
    · exact k.sweepOnceRequest hw h _
    · exact k.sweepIntervalRequest h _
    · exact kept_unless h fun _ => h

theorem restart (h : P s) : P s.restart := by
  have restarted : P s.restarted := k.setSweep (k.restarted h) rfl
  rw [State.restart_eq]
  split
  · exact k.sweepStarted hw restarted
  · exact restarted

theorem restartOwn (h : P s) (p : List Byte) : P (s.restartOwn p) := by
  have replied (a : Answer) : P (s.postReply 0x32 a) := k.frame h rfl
  unfold State.restartOwn
  dsimp only
  split
  · split
    · exact k.restart (s := s.postReply 0x32 _) hw (replied _)
    · exact replied _
  · exact h

theorem restartBroadcast (h : P s) (p : List Byte) : P (s.restartBroadcast p) := by
  have hunted : P s.hunt := k.frame h rfl
  unfold State.restartBroadcast
  split
  · split
    · exact k.restart (s := s.hunt) hw hunted
    · exact hunted
  · exact h

/-! ### Frames (R153 to R157) -/

/-- R155: a request of any kind keeps the law. -/
theorem dispatchOwn (h : P s) (kind : Byte) (p : List Byte) : P (s.dispatchOwn kind p) := by
  unfold State.dispatchOwn
  split
  · exact k.answer h (kept_unless h fun _ => h) kind
  · exact k.answer h (kept_unless h fun _ => h) kind
  · exact k.answer h (k.pointWriteRequest h p) kind
  · exact k.answer h (KeptByEvents.pointReadRequest h p) kind
  · exact k.answer h (k.surfaceWriteRequest h p) kind
  · exact k.answer h (KeptByEvents.surfaceReadRequest h p) kind
  · exact k.answer h (k.globalWriteRequest h p) kind
  · exact k.answer h (kept_unless h fun _ => h) kind
  · exact k.answer h (k.outputWriteRequest h p) kind
  · exact k.answer h (kept_unless h fun _ => kept_unless h fun _ => h) kind
  · exact k.answer h (k.wetlineWriteRequest h p) kind
  · exact k.answer h (kept_unless h fun _ => h) kind
  · exact k.answer h (k.sweepRequest hw h p) kind
  · exact k.answer h (kept_unless h fun _ => h) kind
  · exact k.answer h (k.noticeDropRequest h p) kind
  · exact k.answer h (kept_unless h fun _ => h) kind
  · exact k.answer h (k.snapArmRequest h p) kind
  · exact k.answer h (KeptByEvents.snapReadRequest h p) kind
  · exact k.answer h (k.wetAckRequest h p) kind
  · exact k.answer h (k.purgeRequest h p) kind
  · exact k.answer h (k.saveRequest h p) kind
  · exact k.answer h (k.loadRequest h p) kind
  · exact k.restartOwn hw h p
  · exact k.answer h h kind

theorem dispatchBroadcast (h : P s) (kind : Byte) (p : List Byte) : P (s.dispatchBroadcast kind p) := by
  unfold State.dispatchBroadcast
  split
  · exact k.broadcast h (k.sweepRequest hw h p)
  · exact k.broadcast h (k.snapArmRequest h p)
  · exact k.restartBroadcast hw h p
  · exact k.frame h s.dropFrame_captureSide

theorem judgeFrame (h : P s) (buffer : List Byte) : P (s.judgeFrame buffer) := by
  unfold State.judgeFrame
  dsimp only
  split
  · exact k.frame h s.dropFrame_captureSide
  · split
    · exact k.dispatchBroadcast hw h _ _
    · split
      · exact k.dispatchOwn hw h _ _
      · exact k.frame h s.dropFrame_captureSide

theorem receiveByte (h : P s) (b : Byte) (silence : Nat) : P (s.receiveByte b silence) := by
  unfold State.receiveByte State.frameByte
  split
  · exact h
  · exact k.frame h (s.huntByte_captureSide b)
  · split
    · exact k.frame h (s.huntByte_captureSide b)
    · dsimp only
      split
      · exact k.frame h rfl
      · split
        · exact k.judgeFrame hw h _
        · exact k.frame h rfl

end

/-! ### Supply and reset (R167, R169) -/

theorem startUp (cause : Nat) (pins : StartPins) (hnv : ∀ m : SavedImage, s.store.nv = some m → W m.image.globals) :
    P (s.startUp cause pins) := by
  have started := k.started s cause pins (s.store.startImage pins)
  have settings : W ((s.store.startImage pins).getD .factory).globals := by
    unfold Store.startImage
    split
    next => exact k.factory
    next m hm =>
      split
      · exact hnv m hm
      · exact k.factory
  unfold State.startUp
  rw [State.startUpOn_eq]
  have begun : P (s.startedUp cause pins (s.store.startImage pins)) := k.setSweep started rfl
  split
  · exact k.sweepStarted settings begun
  · exact begun

theorem execPowerOn (pins : StartPins) (hw : s.store.SettingsMeet W) (h : P s) : Meets P (execPowerOn pins s) := by
  obtain ⟨-, hnv⟩ := hw
  unfold Machine.execPowerOn
  split
  · exact k.startUp 1 pins hnv
  · exact k.stopped (power := .held) (by decide) h
  · exact k.stopped (power := .held) (by decide) (k.lost s)
  · refine k.startUp (s := s.losePower) 1 pins fun m hm => hnv m ?_
    change s.store.cutSave.nv = some m at hm
    unfold Store.cutSave at hm
    dsimp only at hm
    split at hm
    next => cases hm
    next => exact hm

theorem execResetPinAssert (h : P s) : Meets P (execResetPinAssert s) := by
  unfold Machine.execResetPinAssert
  split
  · exact k.frame (k.stopped (power := .held) (by decide) h) rfl
  · exact k.stopped (power := .offHeld) (by decide) h
  · exact h
  · exact h

theorem execResetPinRelease (pins : StartPins) (hw : s.store.SettingsMeet W) (h : P s) :
    Meets P (execResetPinRelease pins s) := by
  obtain ⟨-, hnv⟩ := hw
  unfold Machine.execResetPinRelease
  split
  · exact k.startUp 2 pins hnv
  · exact k.stopped (power := .off) (by decide) h
  · exact h
  · exact h

theorem execPowerLoss (h : P s) : Meets P (execPowerLoss s) := by
  unfold Machine.execPowerLoss
  split
  · exact h
  · exact h
  · exact k.stopped (power := .offHeld) (by decide) (k.lost s)
  · exact k.lost s

/-! ### Commands and steps -/

theorem execRestart (dest : Dest) (p : List Byte) (hw : W s.store.written.globals) (h : P s) : Meets P (execRestart dest p s) := by
  cases dest with
  | own => exact k.restartOwn hw h p
  | broadcast => exact k.restartBroadcast hw h p

theorem execReplyStart (h : P s) : Meets P (execReplyStart s) := by
  unfold Machine.execReplyStart
  split <;> exact k.frame h rfl

theorem execReplyEnd (h : P s) : Meets P (execReplyEnd s) := by
  unfold Machine.execReplyEnd
  split <;> exact k.frame h rfl

theorem execSecondsCount (h : P s) : Meets P (execSecondsCount s) := by
  unfold Machine.execSecondsCount
  split
  · exact k.frame (k.elapsedTo h _) rfl
  · exact h

theorem execSweepTimerExpiry (hw : W s.store.written.globals) (h : P s) : Meets P (execSweepTimerExpiry s) := by
  unfold Machine.execSweepTimerExpiry
  split
  next t _ _ => exact k.sweepTimerExpires (s := s.elapseTo t) hw (k.elapsedTo h t) t
  next => exact h

theorem execStartEdge (port : Fin 24) (line : PinLine) (h : P s) : Meets P (execStartEdge port line s) := by
  unfold Machine.execStartEdge
  split
  next hdue =>
    obtain ⟨hpower, -⟩ := (Bool.and_eq_true _ _).mp hdue
    exact k.sampled port line .high _ (of_decide_eq_true hpower) h
  next => exact h

theorem execCaptureJobComplete (port : Fin 24) (line : PinLine) (total high : Nat) (h : P s) :
    Meets P (execCaptureJobComplete port line total high s) := by
  unfold Machine.execCaptureJobComplete
  dsimp only
  split
  next hdue =>
    obtain ⟨hpower, -⟩ := (Bool.and_eq_true _ _).mp hdue
    exact k.sampled (s := s.elapse _) port line .high _ (of_decide_eq_true hpower) (k.elapsed _ h)
  next => exact h

theorem execCaptureWindowExpiry (port : Fin 24) (line : PinLine) (h : P s) :
    Meets P (execCaptureWindowExpiry port line s) := by
  unfold Machine.execCaptureWindowExpiry
  split
  · exact k.windowExpired port line h
  · exact h

theorem execFilteredLevelChange (port : Fin 24) (line : PinLine) (samples : SampleRun) (h : P s) :
    Meets P (execFilteredLevelChange port line samples s) := by
  unfold Machine.execFilteredLevelChange
  split
  next hpower => exact k.sampled port line _ _ hpower h
  next => exact h

theorem execHeaterPeriodStart (p : Fin 24) (h : P s) : Meets P (execHeaterPeriodStart p s) := by
  unfold Machine.execHeaterPeriodStart
  split
  · exact k.periodStarts h _
  · exact h

theorem execHeaterOnTimeEnd (p : Fin 24) (h : P s) : Meets P (execHeaterOnTimeEnd p s) := by
  unfold Machine.execHeaterOnTimeEnd
  split
  · exact k.onTimeEnds h _
  · exact h

theorem execPurgeTimerExpiry (p : Fin 24) (h : P s) : Meets P (execPurgeTimerExpiry p s) := by
  unfold Machine.execPurgeTimerExpiry
  split
  · exact k.purgeExpired p (k.elapsedTo h _)
  · exact h

theorem execRecoveryTimerExpiry (p : Fin 24) (h : P s) : Meets P (execRecoveryTimerExpiry p s) := by
  unfold Machine.execRecoveryTimerExpiry
  split
  · exact k.frame (k.elapsedTo h _) rfl
  · exact h

theorem execRawLevelChange (l : Fin 8) (ohms : Nat) (h : P s) : Meets P (execRawLevelChange l ohms s) := by
  unfold Machine.execRawLevelChange
  split
  · exact k.frame h (s.rawChange_captureSide l _)
  · exact h

theorem execDebounceExpiry (l : Fin 8) (h : P s) : Meets P (execDebounceExpiry l s) := by
  unfold Machine.execDebounceExpiry
  split
  · exact k.frame (k.elapsedTo h _) (State.debounceExpires_captureSide _ l)
  · exact h

theorem execMinOnExpiry (o : Fin 2) (h : P s) : Meets P (execMinOnExpiry o s) := by
  unfold Machine.execMinOnExpiry
  split
  · exact k.frame (k.elapsedTo h _) rfl
  · exact h

theorem execMinOffExpiry (o : Fin 2) (h : P s) : Meets P (execMinOffExpiry o s) := by
  unfold Machine.execMinOffExpiry
  split
  · exact k.frame (k.elapsedTo h _) rfl
  · exact h

theorem execSaveComplete (verified : Bool) (h : P s) : Meets P (execSaveComplete verified s) := by
  unfold Machine.execSaveComplete
  split
  · refine k.frame h ?_
    cases verified <;> rfl
  · exact h

theorem execByteReceived (b : Byte) (silence : Nat) (hw : W s.store.written.globals) (h : P s) :
    Meets P (execByteReceived b silence s) := by
  unfold Machine.execByteReceived
  split
  · exact k.receiveByte hw h b silence
  · exact h

/-- Every command keeps the law; a request under the part's own address keeps it whatever its kind. -/
theorem exec (i : Instr) (hw : s.store.SettingsMeet W) (h : P s) : Meets P (exec i s) := by
  obtain ⟨hwritten, -⟩ := id hw
  have own : ∀ kind p, P (s.dispatchOwn kind p) := k.dispatchOwn hwritten h
  cases i with
  | powerOn pins => exact k.execPowerOn pins hw h
  | resetPinAssert => exact k.execResetPinAssert h
  | resetPinRelease pins => exact k.execResetPinRelease pins hw h
  | powerLoss => exact k.execPowerLoss h
  | ident p => exact own 0x01 p
  | status p => exact own 0x02 p
  | pointWrite p => exact own 0x10 p
  | pointRead p => exact own 0x11 p
  | surfaceWrite p => exact own 0x12 p
  | surfaceRead p => exact own 0x13 p
  | globalWrite p => exact own 0x14 p
  | globalRead p => exact own 0x15 p
  | outputWrite p => exact own 0x16 p
  | outputRead p => exact own 0x17 p
  | wetlineWrite p => exact own 0x18 p
  | wetlineRead p => exact own 0x19 p
  | noticeRead p => exact own 0x21 p
  | noticeDrop p => exact own 0x22 p
  | rankRead p => exact own 0x23 p
  | snapRead p => exact own 0x25 p
  | wetAck p => exact own 0x26 p
  | purge p => exact own 0x27 p
  | save p => exact own 0x30 p
  | load p => exact own 0x31 p
  | unknownKind kind p => exact own kind p
  | sweepRun dest r => exact k.request h (k.sweepRunRequest hwritten h r) dest _
  | sweepStop dest r => exact k.request h (k.sweepStopRequest h r) dest _
  | sweepOnce dest r => exact k.request h (k.sweepOnceRequest hwritten h r) dest _
  | sweepInterval dest r => exact k.request h (k.sweepIntervalRequest h r) dest _
  | snapArm dest p => exact k.request h (k.snapArmRequest h p) dest _
  | restart dest p => exact k.execRestart dest p hwritten h
  | frameDiscard cause => exact k.frame h s.dropFrame_captureSide
  | frameAbandon cause => exact k.frame h s.dropFrame_captureSide
  | byteReceived b silence => exact k.execByteReceived b silence hwritten h
  | replyStart => exact k.execReplyStart h
  | replyEnd => exact k.execReplyEnd h
  | secondsCount => exact k.execSecondsCount h
  | sweepTimerExpiry => exact k.execSweepTimerExpiry hwritten h
  | startEdge port line => exact k.execStartEdge port line h
  | captureJobComplete port line total high => exact k.execCaptureJobComplete port line total high h
  | captureWindowExpiry port line => exact k.execCaptureWindowExpiry port line h
  | filteredLevelChange port line samples => exact k.execFilteredLevelChange port line samples h
  | heaterPeriodStart port => exact k.execHeaterPeriodStart port h
  | heaterOnTimeEnd port => exact k.execHeaterOnTimeEnd port h
  | purgeTimerExpiry port => exact k.execPurgeTimerExpiry port h
  | recoveryTimerExpiry port => exact k.execRecoveryTimerExpiry port h
  | rawLevelChange l ohms => exact k.execRawLevelChange l ohms h
  | debounceExpiry l => exact k.execDebounceExpiry l h
  | minOnExpiry o => exact k.execMinOnExpiry o h
  | minOffExpiry o => exact k.execMinOffExpiry o h
  | saveComplete verified => exact k.execSaveComplete verified h

/-- A law that the events keep is kept by every step. -/
theorem step {t : State} (hw : s.store.SettingsMeet W) (h : P s) (hstep : step s = .next t) : P t := by
  have met : Meets P (Machine.step s) := by
    unfold Machine.step
    split
    next => exact k.tick h
    next i rest _ => exact k.exec (s := { s with pending := rest }) i hw (k.frame h rfl)
  rwa [hstep] at met

end KeptByCaptureEvents

end Sys2Proof.Machine
end

section
/-! The events of the capture block keep its law: jobs stand in a sweep in flight alone, and none waits beside a unit that is IDLE
(R83, R88, R89, R91, R92). -/

namespace Sys2Proof.Machine

section
variable {s : State}

/-! ### Jobs that end or are withdrawn (R88, R91) -/

theorem State.JobsInFlight.jobEnded (h : s.JobsInFlight) (k : Fin 4) (j : Job) (o : JobOutcome) :
    (s.jobEnded k j o).JobsInFlight := by
  have handed : (s.handOn k j o).JobsInFlight := fun i hi => h i <|
    (State.handOn_hasJob.1 hi).imp_right fun ⟨m, _, hm⟩ => ⟨m, hm⟩
  unfold State.jobEnded
  split
  · exact handed
  · exact handed.yields (by simp only [State.convert_keeps]) (State.convert_yields _ _)

theorem State.CaptureLaw.endJob (h : s.CaptureLaw) (k : Fin 4) (j : Job) (o : JobOutcome) : (s.endJob k j o).CaptureLaw :=
  (h.jobsInFlight.jobEnded k j o).settle

theorem State.JobsInFlight.serve (h : s.JobsInFlight) : s.serve.1.JobsInFlight :=
  h.yields (by simp only [State.serve_keeps]) s.serve_yields

theorem State.JobsInFlight.arrivePurge (h : s.JobsInFlight) (p : Fin 24) (o : PurgeOrigin) : (s.arrivePurge p o).JobsInFlight :=
  State.JobsInFlight.serve (s := s.queued p o) h

theorem State.CaptureLaw.manualPurge (h : s.CaptureLaw) (p : Fin 24) : (s.manualPurge p).CaptureLaw :=
  (State.JobsInFlight.arrivePurge (s := s.recordPoint p _) h.jobsInFlight p .manual).settle

theorem State.CaptureLaw.purgeExpires (h : s.CaptureLaw) (p : Fin 24) : (s.purgeExpires p).CaptureLaw := by
  have served : (s.purgeEnded p).serve.1.JobsInFlight := State.JobsInFlight.serve (s := s.purgeEnded p) h.jobsInFlight
  rw [State.purgeExpires_eq]
  exact State.JobsInFlight.settle (s := (s.purgeEnded p).serve.1.offer _) served

/-! ### Edges and windows (R84, R85) -/

theorem State.CaptureLaw.elapse (h : s.CaptureLaw) (n : Nat) : (s.elapse n).CaptureLaw :=
  h.frame rfl rfl fun k => by rw [State.elapse_unit, CaptureUnit.count_job?]

theorem State.CaptureLaw.setFilter (h : s.CaptureLaw) (line : PinLine) (port : Fin 24) (f : LineFilter) :
    (s.setFilter line port f).CaptureLaw :=
  h.frame rfl (Capture.setFilter_queue _ _ _ _) fun k => by rw [State.setFilter_capture, Capture.setFilter_units]

/-- R84: a unit that keeps its job. -/
theorem State.CaptureLaw.setUnit (h : s.CaptureLaw) {k : Fin 4} {u : CaptureUnit} (hu : u.job? = (s.capture.units[k]).job?) :
    (s.setUnit k u).CaptureLaw := by
  refine h.frame rfl rfl fun m => ?_
  by_cases hm : k = m
  · subst hm
    simpa using hu
  · have : (k : Nat) ≠ m := fun e => hm (Fin.ext e)
    simp [this]

theorem State.CaptureLaw.risingEdge (h : s.CaptureLaw) (port : Fin 24) (line : PinLine) (rests : Bool) :
    (s.risingEdge port line rests).CaptureLaw := by
  obtain e | ⟨_, _, _, _, hu, _, _, _, e⟩ | ⟨_, _, _, _, _, _, hu, _, _, e⟩ | ⟨_, _, _, _, _, _, _, _, _, e⟩ :=
    s.risingEdge_cases port line rests <;> rw [e]
  · exact h
  · exact h.setUnit (by rw [hu]; rfl)
  · exact h.setUnit (by rw [hu]; rfl)
  · exact h.endJob _ _ _

theorem State.CaptureLaw.sampleLine (h : s.CaptureLaw) (port : Fin 24) (line : PinLine) (v : PinLevel) (n : Nat) :
    (s.sampleLine port line v n).CaptureLaw := by
  have sampled (t : Nat) (f : LineFilter) : ((s.elapseTo t).setFilter line port f).CaptureLaw :=
    (h.elapseTo t).setFilter line port f
  unfold State.sampleLine
  dsimp only
  split
  · exact (sampled _ _).risingEdge _ _ _
  · exact sampled _ _

theorem State.CaptureLaw.windowExpires (h : s.CaptureLaw) (port : Fin 24) (line : PinLine) :
    (s.windowExpires port line).CaptureLaw := by
  unfold State.windowExpires
  split
  · exact h
  · split
    · exact h
    · exact (h.elapseTo _).endJob _ _ _
    · exact (h.elapseTo _).endJob _ _ _

/-! ### Sweep starts and restarts (R92, R93, R130) -/

theorem State.startSweep_captureLaw (s : State) : s.startSweep.CaptureLaw := by
  have inFlight : s.sweepQueued.sweep.inFlight = true := congrArg Sweep.inFlight s.sweepGiven_sweep
  have jobs : s.sweepQueued.JobsInFlight := fun _ _ => inFlight
  exact jobs.settle

theorem State.captureLaw_of_no_jobs (hflight : s.sweep.inFlight = false) (hnone : ∀ j, ¬s.capture.HasJob j) :
    s.CaptureLaw := by
  have ended := Capture.allEnded_iff.2 hnone
  refine ⟨by rw [hflight, ended]; decide, fun hqueue => ?_⟩
  obtain ⟨j, hj⟩ := List.exists_mem_of_ne_nil _ hqueue
  exact absurd (.inl hj) (hnone j)

theorem Capture.fresh_hasJob (now : Nat) (j : Job) : ¬(Capture.fresh now).HasJob j := by
  simp [Capture.HasJob, Capture.fresh, CaptureUnit.job?]

end

/-- R83, R89: the events keep the law of the capture block, whatever the settings. -/
theorem captureLaw_keptByCaptureEvents : KeptByCaptureEvents (fun _ => True) State.CaptureLaw where
  factory := trivial
  frame h hside := h.frame (congrArg CaptureSide.inFlight hside) (congrArg (fun d => d.capture.queue) hside) fun k =>
    congrArg (fun d : CaptureSide => (d.capture.units[k]).job?) hside
  elapsed n h := h.elapse n
  idled _ h := h
  stopped _ h := h
  sampled port line v n _ h := h.sampleLine port line v n
  windowExpired port line h := h.windowExpires port line
  purged p h := h.manualPurge p
  purgeExpired p h := h.purgeExpires p
  sweepStarted _ _ := State.startSweep_captureLaw _
  restarted _ := State.captureLaw_of_no_jobs rfl (Capture.discardAll_hasJob _)
  started s _ _ _ := State.captureLaw_of_no_jobs rfl (Capture.fresh_hasJob s.now)
  lost s := State.captureLaw_of_no_jobs rfl (Capture.fresh_hasJob s.now)

end Sys2Proof.Machine
end

section
/-! The pace of the counts: what a level filter and the units keep of the ticks between the edges of a line, and the outcomes that
come of them (R79, R84, R86, R87). -/

namespace Sys2Proof.Machine

/-! ### The ticks a line has stood at its level (R79) -/

/-- R79: the ticks a filter vouches for since the last rising edge of its line: 25 of HIGH once the line is LOW, those that differ,
and every tick since the latest sample. -/
def LineFilter.stood (f : LineFilter) (now : Nat) : Nat :=
  (if f.level = .high then 0 else 25) + f.differing + (now - f.sampledAt)

theorem LineFilter.stood_add_le (f : LineFilter) (now n : Nat) : f.stood (now + n) ≤ f.stood now + n := by
  unfold LineFilter.stood
  omega

theorem LineFilter.counted_of_changes {f : LineFilter} {now n : Nat} {v : PinLevel} (h : f.changes now v n = true) :
    f.level ≠ v ∧ 25 ≤ f.carried now v n + f.taken now v n := by
  have all : f.level ≠ v ∧ Config.filterTicks ≤ f.carried now v n + f.taken now v n := by
    simpa [LineFilter.changes] using h
  exact all

/-- R79: a report adds no tick to those the filter vouches for. -/
theorem LineFilter.stood_sample_le (f : LineFilter) (now : Nat) (v : PinLevel) (n : Nat) :
    (f.sample now v n).stood (f.endsAt now v n) ≤ f.stood (f.endsAt now v n) := by
  have counted := f.counted_le now v n
  obtain ⟨hat, -, ⟨hv, hlevel, hdiffering⟩ | ⟨-, -, hlevel, hdiffering⟩⟩ := f.sample_cases now v n
  · rw [LineFilter.stood, LineFilter.stood, hat, hlevel, hdiffering]
    obtain rfl | hchanges := hv
    · omega
    · obtain ⟨hne, hall⟩ := LineFilter.counted_of_changes hchanges
      split <;> omega
  · rw [LineFilter.stood, LineFilter.stood, hat, hlevel, hdiffering]
    omega

/-- R79: a line that becomes HIGH has had 25 ticks of HIGH and 25 of LOW since its last rising edge. -/
theorem LineFilter.stood_of_rises {f : LineFilter} {now n : Nat} (h : f.changes now .high n = true) :
    50 ≤ f.stood (f.endsAt now .high n) ∧ (f.sample now .high n).stood (f.endsAt now .high n) = 0 := by
  have counted := f.counted_le now .high n
  obtain ⟨-, hall⟩ := LineFilter.counted_of_changes h
  have low := LineFilter.level_of_rises h
  refine ⟨?_, ?_⟩
  · rw [LineFilter.stood, low, if_neg PinLevel.noConfusion]
    omega
  · rw [LineFilter.sample, h, Bool.or_true, if_pos rfl, LineFilter.stood]
    simp

/-- R79, R93: a report keeps the ranges of a filter. -/
theorem LineFilter.InRange.sample {f : LineFilter} {now : Nat} (h : f.InRange now) (v : PinLevel) (n : Nat) :
    (f.sample now v n).InRange (f.endsAt now v n) := by
  obtain ⟨hfew, hsettled, hat, hresting⟩ := h
  unfold LineFilter.sample
  split
  next => exact ⟨Nat.zero_lt_succ _, fun _ => rfl, le_rfl, fun hr => Bool.noConfusion hr⟩
  next hkept =>
    rw [Bool.or_eq_true, not_or, decide_eq_true_eq] at hkept
    obtain ⟨hne, hless⟩ := hkept
    refine ⟨?_, fun heq => absurd heq.symm hne, le_rfl, fun hr => ?_⟩
    · have less : f.carried now v n + f.taken now v n < Config.filterTicks := by simpa [LineFilter.changes, hne] using hless
      exact less
    · unfold LineFilter.rests at hr
      simp only [Bool.and_eq_true] at hr
      obtain ⟨⟨hrested, -⟩, -⟩ := hr
      exact hresting hrested

theorem LineFilter.InRange.mono {f : LineFilter} {now later : Nat} (h : f.InRange now) (hle : now ≤ later) : f.InRange later := by
  obtain ⟨hfew, hsettled, hat, hresting⟩ := h
  exact ⟨hfew, hsettled, hat.trans hle, hresting⟩

/-! ### Units that keep pace (R84) -/

theorem CaptureUnit.paced_counting (c : Capture) (now : Nat) (j : Job) (w periods total high : Nat) :
    (CaptureUnit.counting j w periods total high).Paced c now ↔
      high ≤ total ∧ 50 * periods + (c.filter j.line j.port).stood now ≤ total := by
  unfold CaptureUnit.Paced LineFilter.stood Capture.level
  simp only [Nat.add_assoc]

/-- A unit keeps pace when what it counts and its line's filter are those of a unit that does. -/
theorem CaptureUnit.Paced.of_counts {c d : Capture} {now : Nat} {u v : CaptureUnit} (h : u.Paced c now)
    (hfilter : ∀ (m : PinLine) (q : Fin 24), (d.filter m q).stood now ≤ (c.filter m q).stood now)
    (hcounts : ∀ j w periods total high, v = .counting j w periods total high → u = .counting j w periods total high) :
    v.Paced d now := by
  cases v with
  | idle => trivial
  | armed j taken w => trivial
  | counting j w periods total high =>
    rw [hcounts _ _ _ _ _ rfl, CaptureUnit.paced_counting] at h
    obtain ⟨hhigh, htotal⟩ := h
    exact (CaptureUnit.paced_counting ..).2 ⟨hhigh, (Nat.add_le_add_left (hfilter _ _) _).trans htotal⟩

theorem CaptureUnit.Paced.congr {c d : Capture} {now : Nat} {u : CaptureUnit} (h : u.Paced c now) (hfilter : d.filter = c.filter) :
    u.Paced d now :=
  h.of_counts (fun _ _ => by rw [hfilter]) fun _ _ _ _ _ => id

/-- R84: ticks that pass are counted. -/
theorem CaptureUnit.Paced.count {c d : Capture} {now : Nat} {u : CaptureUnit} (h : u.Paced c now)
    (hfilter : d.filter = c.filter) (n : Nat) : (u.count c.level n).Paced d (now + n) := by
  cases u with
  | idle => trivial
  | armed j taken w => trivial
  | counting j w periods total high =>
    rw [CaptureUnit.paced_counting] at h
    obtain ⟨hhigh, htotal⟩ := h
    have stood := (c.filter j.line j.port).stood_add_le now n
    rw [CaptureUnit.count, CaptureUnit.paced_counting, hfilter]
    refine ⟨?_, by omega⟩
    split <;> omega

/-! ### Outcomes (R86, R87) -/

/-- R86, R87: the outcome of a closing edge, of a job that has counted 50 ticks for each of its periods. -/
theorem closedOutcome_accepted {j : Job} {total : Nat} (hn : 1 ≤ j.n) (htotal : 50 * j.n ≤ total) (high : Nat) :
    (closedOutcome j total high).Accepted := by
  rw [closedOutcome_eq]
  cases j.line with
  | f =>
    have enough : 3200 * (2 * j.n) ≤ 2 * (64 * total) + j.n := by omega
    exact (Nat.le_div_iff_mul_le (by omega)).2 enough
  | d =>
    dsimp only
    split
    next => trivial
    next hduty =>
      obtain ⟨hmin, hmax⟩ := not_or.1 hduty
      exact ⟨by omega, by omega, by omega⟩

theorem windowOutcome_accepted (j : Job) : (windowOutcome j).Accepted := by
  unfold windowOutcome
  split <;> trivial

/-! ### The law of the counts -/

section
variable {s : State}

theorem State.countLaw_iff : s.CountLaw ↔
    (∀ (m : PinLine) (p : Fin 24), (s.capture.filter m p).InRange s.now)
      ∧ (s.power = .running → ∀ k : Fin 4, (s.capture.units[k]).Paced s.capture s.now)
      ∧ (∀ j, s.capture.HasJob j → 1 ≤ j.n)
      ∧ ∀ e ∈ s.capture.outcomes, e.outcome.Accepted := by
  unfold State.CountLaw Capture.HasJob
  refine and_congr_right fun _ => and_congr_right fun _ => ⟨?_, ?_⟩
  · rintro ⟨hqueue, hunits, houtcomes⟩
    exact ⟨fun j hj => hj.elim (hqueue j) fun ⟨k, hk⟩ => hunits k j hk, houtcomes⟩
  · rintro ⟨hjobs, houtcomes⟩
    exact ⟨fun j hj => hjobs j (.inl hj), fun k j hk => hjobs j (.inr ⟨k, hk⟩), houtcomes⟩

theorem Capture.Yields.paced {c d : Capture} {now : Nat} (h : c.Yields d) {k : Fin 4} (hk : (c.units[k]).Paced c now) :
    (d.units[k]).Paced d now :=
  hk.of_counts (fun m q => (congrArg (fun f => LineFilter.stood f now) (h.filter m q)).le) fun j w periods total high hu =>
    h.counts k j w periods total high hu

/-- A part that has nothing but what it had keeps the law. -/
theorem State.CountLaw.yields {t : State} (h : s.CountLaw) (hnow : t.now = s.now) (hpower : t.power = s.power)
    (hyields : s.capture.Yields t.capture) : t.CountLaw := by
  rw [State.countLaw_iff] at h ⊢
  obtain ⟨hfilters, hpaced, hjobs, houtcomes⟩ := h
  rw [hnow, hpower]
  exact ⟨fun m p => hyields.filter m p ▸ hfilters m p, fun hrun k => hyields.paced (hpaced hrun k),
    fun j hj => hjobs j (hyields.jobs j hj), fun e he => houtcomes e (hyields.outcomes e he)⟩

theorem State.CountLaw.of_captureSide {t : State} (h : s.CountLaw) (hside : t.captureSide = s.captureSide) : t.CountLaw := by
  have capture : t.capture = s.capture := congrArg CaptureSide.capture hside
  exact h.yields (congrArg CaptureSide.now hside) (congrArg CaptureSide.power hside) (capture ▸ .refl _)

theorem State.CountLaw.settle (h : s.CountLaw) : s.settle.CountLaw :=
  h.yields (by simp only [State.settle_keeps]) (by simp only [State.settle_keeps]) s.settle_yields

theorem State.CountLaw.restartBlocks (h : s.CountLaw) : s.restartBlocks.CountLaw :=
  h.yields s.restartBlocks_now s.restartBlocks_power s.capture.discardAll_yields

/-! ### Ticks, samples and edges (R79, R84) -/

theorem State.CountLaw.elapse (h : s.CountLaw) (n : Nat) : (s.elapse n).CountLaw := by
  rw [State.countLaw_iff] at h ⊢
  obtain ⟨hfilters, hpaced, hjobs, houtcomes⟩ := h
  refine ⟨fun m p => (hfilters m p).mono (Nat.le_add_right _ _), fun hrun k => ?_,
    fun j hj => hjobs j (State.elapse_hasJob.1 hj), houtcomes⟩
  rw [State.elapse_unit]
  exact (hpaced hrun k).count rfl n

theorem State.CountLaw.elapseTo (h : s.CountLaw) (t : Nat) : (s.elapseTo t).CountLaw := h.elapse _

/-- R79: a line sampled up to now. -/
theorem State.CountLaw.setFilter (h : s.CountLaw) {line : PinLine} {port : Fin 24} {f : LineFilter} (hf : f.InRange s.now)
    (hstood : f.stood s.now ≤ (s.capture.filter line port).stood s.now) : (s.setFilter line port f).CountLaw := by
  rw [State.countLaw_iff] at h ⊢
  obtain ⟨hfilters, hpaced, hjobs, houtcomes⟩ := h
  have replaced {Q : LineFilter → Prop} {m : PinLine} {q : Fin 24} (hnew : m = line → q = port → Q f)
      (hold : Q (s.capture.filter m q)) : Q ((s.capture.setFilter line port f).filter m q) := by
    by_cases hline : m = line ∧ q = port
    · obtain ⟨rfl, rfl⟩ := hline
      rw [Capture.setFilter_filter]
      exact hnew rfl rfl
    · rw [Capture.setFilter_filter_ne _ (by tauto)]
      exact hold
  refine ⟨fun m p => replaced (Q := fun g => g.InRange s.now) (fun _ _ => hf) (hfilters m p), fun hrun k => ?_,
    fun j hj => ?_, fun e he => ?_⟩
  · rw [State.setFilter_capture, Capture.setFilter_units]
    refine (hpaced hrun k).of_counts (fun m q => ?_) fun _ _ _ _ _ => id
    refine replaced (Q := fun g => g.stood s.now ≤ (s.capture.filter m q).stood s.now) ?_ le_rfl
    rintro rfl rfl
    exact hstood
  · refine hjobs j ?_
    simpa [Capture.HasJob] using hj
  · exact houtcomes e (by simpa using he)

/-- R84: a unit that keeps its job and its pace. -/
theorem State.CountLaw.setUnit (h : s.CountLaw) {k : Fin 4} {u : CaptureUnit} (hjob : u.job? = (s.capture.units[k]).job?)
    (hu : u.Paced s.capture s.now) : (s.setUnit k u).CountLaw := by
  rw [State.countLaw_iff] at h ⊢
  obtain ⟨hfilters, hpaced, hjobs, houtcomes⟩ := h
  refine ⟨hfilters, fun hrun m => ?_, fun j hj => hjobs j ((Capture.setUnit_hasJob hjob).1 hj), houtcomes⟩
  refine CaptureUnit.Paced.congr (c := s.capture) ?_ rfl
  by_cases hm : k = m
  · subst hm
    simpa using hu
  · have : (k : Nat) ≠ m := fun e => hm (Fin.ext e)
    simpa [this] using hpaced hrun m

/-- R88: a job that ends with an outcome the point unit can rely on. -/
theorem State.CountLaw.endJob (h : s.CountLaw) {o : JobOutcome} (ho : o.Accepted) (k : Fin 4) (j : Job) :
    (s.endJob k j o).CountLaw := by
  have handed : (s.handOn k j o).CountLaw := by
    rw [State.countLaw_iff] at h ⊢
    obtain ⟨hfilters, hpaced, hjobs, houtcomes⟩ := h
    refine ⟨hfilters, fun hrun m => ?_, fun i hi => hjobs i ?_, fun e he => ?_⟩
    · by_cases hm : m = k
      · subst hm
        have idle : (s.handOn m j o).capture.units[m] = .idle := by simp [State.handOn]
        rw [idle]
        trivial
      · rw [State.handOn_unit hm]
        exact hpaced hrun m
    · exact (State.handOn_hasJob.1 hi).imp_right fun ⟨m, _, hm⟩ => ⟨m, hm⟩
    · obtain he | he := List.mem_append.1 he
      · exact houtcomes e he
      · rw [List.mem_singleton.1 he]
        exact ho
  rw [State.endJob_eq]
  refine State.CountLaw.settle (s := s.jobEnded k j o) ?_
  unfold State.jobEnded
  split
  · exact handed
  · exact handed.yields (by simp only [State.convert_keeps]) (by simp only [State.convert_keeps]) (State.convert_yields _ _)

/-- R84: a rising edge of a line whose filter has settled at HIGH; `hperiod` are the 50 ticks of the period it ends. -/
theorem State.CountLaw.risingEdge (h : s.CountLaw) {port : Fin 24} {line : PinLine} (rests : Bool)
    (hsettled : (s.capture.filter line port).stood s.now = 0)
    (hperiod : ∀ (k : Fin 4) (j : Job) (w periods total high : Nat), s.capture.units[k] = .counting j w periods total high →
      j.port = port → j.line = line → high ≤ total ∧ 50 * (periods + 1) ≤ total) :
    (s.risingEdge port line rests).CountLaw := by
  unfold State.risingEdge
  split
  next => exact h
  next k hunit =>
    have own := Capture.unitOf_eq_some hunit
    split
    next => exact h
    next j taken w hk =>
      split
      · obtain ⟨rfl, rfl⟩ := own j (by rw [hk]; rfl)
        exact h.setUnit (by rw [hk]; rfl) ((CaptureUnit.paced_counting ..).2 ⟨le_rfl, by rw [hsettled]⟩)
      · exact h
    next j w periods total high hk =>
      obtain ⟨rfl, rfl⟩ := own j (by rw [hk]; rfl)
      obtain ⟨hhigh, htotal⟩ := hperiod k j w periods total high hk rfl rfl
      have hn : 1 ≤ j.n := by
        obtain ⟨-, -, hjobs, -⟩ := State.countLaw_iff.1 h
        exact hjobs j (.inr ⟨k, by rw [hk]; rfl⟩)
      split
      · exact h
      · split
        · exact h.setUnit (by rw [hk]; rfl) ((CaptureUnit.paced_counting ..).2 ⟨hhigh, by rw [hsettled]; exact htotal⟩)
        · exact h.endJob (closedOutcome_accepted hn (by omega) high) k j

/-- R79, R84: samples of a line of a part that runs. -/
theorem State.CountLaw.sampleLine (h : s.CountLaw) (hrun : s.power = .running) (port : Fin 24) (line : PinLine) (v : PinLevel)
    (n : Nat) : (s.sampleLine port line v n).CountLaw := by
  obtain ⟨f, hf⟩ : ∃ f, f = s.capture.filter line port := ⟨_, rfl⟩
  obtain ⟨u, hu⟩ : ∃ u, u = s.elapseTo (f.endsAt s.now v n) := ⟨_, rfl⟩
  have law : u.CountLaw := hu ▸ h.elapseTo _
  have clock : u.now = f.endsAt s.now v n := by
    have := f.le_endsAt s.now v n
    rw [hu, State.elapseTo_now]
    omega
  have filter : u.capture.filter line port = f := by rw [hu, hf]; rfl
  have range : (f.sample s.now v n).InRange u.now := by
    obtain ⟨hfilters, -⟩ := State.countLaw_iff.1 h
    rw [clock, hf]
    exact (hfilters line port).sample v n
  have sampled : (u.setFilter line port (f.sample s.now v n)).CountLaw :=
    law.setFilter range (by rw [filter, clock]; exact f.stood_sample_le s.now v n)
  rw [State.sampleLine, ← hf, ← hu]
  split
  next hrises =>
    obtain ⟨hchanges, hv⟩ := (Bool.and_eq_true _ _).mp hrises
    obtain rfl : v = .high := of_decide_eq_true hv
    obtain ⟨hstood, hsettled⟩ := LineFilter.stood_of_rises hchanges
    refine sampled.risingEdge _ ?_ fun k j w periods total high hk hport hline => ?_
    · rw [State.setFilter_capture, Capture.setFilter_filter, State.setFilter_now, clock]
      exact hsettled
    · obtain ⟨-, hpaced, -⟩ := State.countLaw_iff.1 law
      have paced := hpaced (by rw [hu]; exact hrun) k
      rw [State.setFilter_capture, Capture.setFilter_units] at hk
      rw [hk, CaptureUnit.paced_counting, hport, hline, filter, clock] at paced
      obtain ⟨hhigh, htotal⟩ := paced
      exact ⟨hhigh, by omega⟩
  next => exact sampled

theorem State.CountLaw.windowExpires (h : s.CountLaw) (port : Fin 24) (line : PinLine) :
    (s.windowExpires port line).CountLaw := by
  unfold State.windowExpires
  split
  · exact h
  · split
    · exact h
    · exact (h.elapseTo _).endJob (windowOutcome_accepted _) _ _
    · exact (h.elapseTo _).endJob (windowOutcome_accepted _) _ _

/-! ### Purges, sweep starts and restarts (R81, R91 to R93) -/

theorem State.CountLaw.serve (h : s.CountLaw) : s.serve.1.CountLaw :=
  h.yields (by simp only [State.serve_keeps]) (by simp only [State.serve_keeps]) s.serve_yields

theorem State.CountLaw.arrivePurge (h : s.CountLaw) (p : Fin 24) (o : PurgeOrigin) : (s.arrivePurge p o).CountLaw :=
  State.CountLaw.serve (s := s.queued p o) h

theorem State.CountLaw.manualPurge (h : s.CountLaw) (p : Fin 24) : (s.manualPurge p).CountLaw :=
  (State.CountLaw.arrivePurge (s := s.recordPoint p _) h p .manual).settle

theorem State.CountLaw.purgeExpires (h : s.CountLaw) (p : Fin 24) : (s.purgeExpires p).CountLaw := by
  have served : (s.purgeEnded p).serve.1.CountLaw := State.CountLaw.serve (s := s.purgeEnded p) h
  rw [State.purgeExpires_eq]
  exact State.CountLaw.settle (s := (s.purgeEnded p).serve.1.offer _) served

/-- R81: a job of a sweep has the period count in force. -/
theorem jobsOf_n {w : WorkGlobals} {p : Fin 24} {r : PointRec} {j : Job} (h : j ∈ jobsOf w p r) : j.n = w.nF ∨ j.n = w.nD := by
  unfold jobsOf at h
  split at h
  next => cases h
  next => exact .inr (by rw [List.mem_singleton.1 h])
  next =>
    split at h
    next => cases h
    next =>
      simp only [List.mem_cons, List.not_mem_nil, or_false] at h
      obtain rfl | rfl := h
      · exact .inl rfl
      · exact .inr rfl

theorem GlobalCfg.Valid.periods {g : GlobalCfg} (h : g.Valid) : 1 ≤ g.nF ∧ 1 ≤ g.nD := by
  obtain ⟨-, hnF, hnD, -⟩ := h
  simp only [List.mem_cons, List.not_mem_nil, or_false] at hnF hnD
  omega

theorem State.CountLaw.startSweep (hw : s.store.written.globals.Valid) (h : s.CountLaw) : s.startSweep.CountLaw := by
  have adopted : s.begun.adoptPoints.adoptSurfaces.adoptCapture.CountLaw := by
    refine h.yields ?_ ?_ ?_
    · simp [State.adoptSurfaces_keeps, State.adoptPoints_keeps, State.begun]
    · simp [State.adoptSurfaces_keeps, State.adoptPoints_keeps, State.begun]
    · have yields : s.capture.Yields s.begun.adoptPoints.capture := s.begun.adoptPoints_yields
      simpa [State.adoptSurfaces_keeps] using yields
  have queued : s.sweepQueued.CountLaw := by
    obtain ⟨hnF, hnD⟩ := hw.periods
    rw [State.countLaw_iff] at adopted ⊢
    obtain ⟨hfilters, hpaced, hjobs, -⟩ := adopted
    refine ⟨hfilters, fun hrun k => (hpaced hrun k).congr rfl, fun j hj => ?_, fun e he => absurd he List.not_mem_nil⟩
    obtain hj | hj := hj
    · rw [s.sweepQueued_queue] at hj
      obtain ⟨p, -, hj⟩ := List.mem_flatMap.1 hj
      have settings := s.startSweep_work
      obtain hn | hn := jobsOf_n hj <;> rw [hn, settings]
      · exact hnF
      · exact hnD
    · exact hjobs j (.inr hj)
  exact queued.settle

theorem State.countLaw_fresh (hcapture : s.capture = .fresh s.now) : s.CountLaw := by
  rw [State.countLaw_iff, hcapture]
  refine ⟨fun m p => ?_, fun _ k => ?_, fun j hj => absurd hj (Capture.fresh_hasJob _ j), fun e he => absurd he List.not_mem_nil⟩
  · have fresh : (Capture.fresh s.now).filter m p = .fresh s.now := by cases m <;> simp [Capture.filter, Capture.fresh]
    rw [fresh]
    exact ⟨Nat.zero_lt_succ _, fun _ => rfl, le_rfl, fun _ => rfl⟩
  · have idle : (Capture.fresh s.now).units[k] = .idle := by simp [Capture.fresh]
    rw [idle]
    trivial

end

/-- R79, R84, R86, R87: with the settings in range, the events keep the law of the counts. -/
theorem countLaw_keptByCaptureEvents : KeptByCaptureEvents GlobalCfg.Valid State.CountLaw where
  factory := by
    obtain ⟨-, -, hglobals, -⟩ := Image.factory_valid
    exact hglobals
  frame h hside := h.of_captureSide hside
  elapsed n h := h.elapse n
  idled {s} hpower h := by
    rw [State.countLaw_iff] at h ⊢
    obtain ⟨hfilters, -, hrest⟩ := h
    exact ⟨fun m p => (hfilters m p).mono (Nat.le_succ _), fun hrun => absurd hrun hpower, hrest⟩
  stopped hpower h := by
    rw [State.countLaw_iff] at h ⊢
    obtain ⟨hfilters, -, hrest⟩ := h
    exact ⟨hfilters, fun hrun => absurd hrun hpower, hrest⟩
  sampled port line v n hrun h := h.sampleLine hrun port line v n
  windowExpired port line h := h.windowExpires port line
  purged p h := h.manualPurge p
  purgeExpired p h := h.purgeExpires p
  sweepStarted hw h := h.startSweep hw
  restarted h := h.restartBlocks
  started _ _ _ _ := State.countLaw_fresh rfl
  lost _ := State.countLaw_fresh rfl

/-- Settles O57: the events of the capture block keep each law, so every step does; the configurations in range give every job its
periods. -/
theorem captureLawIsKept : Obligations.CaptureLawIsKept := by
  refine ⟨fun s t hlaw hstep => captureLaw_keptByCaptureEvents.step ⟨trivial, fun _ _ => trivial⟩ hlaw hstep,
    fun s t hconfig hlaw hstep => ?_⟩
  obtain ⟨⟨hwritten, -, hnv, -⟩, -⟩ := s.configLaw_iff.1 hconfig
  have globals {i : Image} (hi : i.Valid) : i.globals.Valid := by
    obtain ⟨-, -, hglobals, -⟩ := hi
    exact hglobals
  exact countLaw_keptByCaptureEvents.step ⟨globals hwritten, fun m hm => globals (hnv m hm)⟩ hlaw hstep

end Sys2Proof.Machine
end

section
/-! Ticks that pass: the idle step, the seconds count and the expiry of the sweep timer (R84, R122, R123, R130, R161). -/

namespace Sys2Proof.Machine

/-! ### Ticks counted (R84) -/

/-- Settles O2. -/
theorem idleStepPassesOneTick : Obligations.IdleStepPassesOneTick := by
  intro s hpending hpower
  refine ⟨s.elapse 1, ?_, rfl, fun k => (s.elapse_unit 1 k).trans ?_⟩
  · rw [step, hpending]
    exact congrArg _ (State.tick_of_running hpower)
  · cases s.capture.units[k] <;> rfl

/-- R161: the next second, at the tick it is due. -/
theorem State.countSecond_eq (s : State) : s.countSecond = { s with
    now := max s.now s.link.secondEnds
    link := { s.link with seconds := s.link.seconds + 1, secondEnds := s.link.secondEnds + 4000000 }
    capture := { s.capture with units := (s.elapseTo s.link.secondEnds).capture.units } } :=
  congrArg (fun u : State => ({ u with
      link := { s.link with seconds := s.link.seconds + 1, secondEnds := s.link.secondEnds + 4000000 } } : State))
    (s.elapseTo_eq s.link.secondEnds)

/-- Settles O15. -/
theorem secondsCountAdvances : Obligations.SecondsCountAdvances := by
  intro s hpower
  have counted : exec .secondsCount s = .next s.countSecond := by
    change execSecondsCount s = _
    rw [execSecondsCount, hpower]
  refine ⟨counted.trans (congrArg _ s.countSecond_eq), fun e k => (s.elapse_unit _ k).trans ?_⟩
  cases s.capture.units[k] <;> rfl

/-! ### The sweep timer (R122, R123, R130) -/

section
variable {s : State} {e iv : Nat}

/-- R130, R131: what a sweep start leaves of the sweep controller. -/
theorem State.startSweep_sweep_keeps (s : State) :
    s.startSweep.sweep.mode = s.sweep.mode ∧ s.startSweep.sweep.interval = s.sweep.interval
      ∧ s.startSweep.sweep.pendingIv = s.sweep.pendingIv ∧ s.startSweep.sweep.timer = s.sweep.timer := by
  cases hended : s.startSweep.capture.allEnded with
  | false =>
    rw [s.startSweep_sweep_of_jobs hended]
    exact ⟨rfl, rfl, rfl, rfl⟩
  | true =>
    rw [s.startSweep_sweep_of_none hended rfl]
    split <;> exact ⟨rfl, rfl, rfl, rfl⟩

/-- R122: the state at the expiry of the sweep timer, its interval taken and the timer reloaded from tick `e`. -/
def State.timerReloaded (s : State) (e iv : Nat) : State :=
  { s with
    now := max s.now e
    sweep := { s.sweep with interval := iv, pendingIv := none, timer := some (e + iv * 4000000) }
    capture := { s.capture with units := (s.elapseTo e).capture.units } }

theorem State.timerReloaded_eq (hiv : iv = s.sweep.pendingIv.getD s.sweep.interval) :
    { s.elapseTo e with sweep := s.sweep.takePending.loadTimer e } = s.timerReloaded e iv := by
  have sweep : s.sweep.takePending.loadTimer e =
      { s.sweep with interval := iv, pendingIv := none, timer := some (e + iv * 4000000) } := by
    rw [hiv, Sweep.loadTimer, Config.ticksPerSecond]
    rfl
  rw [sweep, s.elapseTo_eq]
  rfl

theorem exec_sweepTimerExpiry (hpower : s.power = .running) (htimer : s.sweep.timer = some e) :
    exec .sweepTimerExpiry s = .next ((s.elapseTo e).sweepTimerExpires e) := by
  change execSweepTimerExpiry s = _
  rw [execSweepTimerExpiry, hpower, htimer]

/-- R122, R130: with no sweep in flight the expiry starts one. -/
theorem State.sweepTimerExpires_starts (hiv : iv = s.sweep.pendingIv.getD s.sweep.interval) (hflight : s.sweep.inFlight = false) :
    (s.elapseTo e).sweepTimerExpires e = (s.timerReloaded e iv).startSweep := by
  have idle : ((s.elapseTo e).sweep.takePending.loadTimer e).inFlight = false := hflight
  rw [← State.timerReloaded_eq hiv, State.sweepTimerExpires, if_neg (Bool.eq_false_iff.1 idle)]
  rfl

/-- R123: with a sweep in flight the expiry is an overrun. -/
theorem State.sweepTimerExpires_overruns (hiv : iv = s.sweep.pendingIv.getD s.sweep.interval) (hflight : s.sweep.inFlight = true) :
    (s.elapseTo e).sweepTimerExpires e =
      { s.timerReloaded e iv with
        sweep := { (s.timerReloaded e iv).sweep with overrunCount := min 32767 (s.sweep.overrunCount + 1) }
        notices := s.notices.arrive
          (Notice.mk .overrun 0 0 iv s.sweep.number (min 32767 (s.sweep.overrunCount + 1) : Nat) {}) } := by
  have busy : ((s.elapseTo e).sweep.takePending.loadTimer e).inFlight = true := hflight
  rw [← State.timerReloaded_eq hiv, State.sweepTimerExpires, if_pos busy, hiv]
  rfl

end

/-- Settles O36: the expiry reloads the timer, and is an overrun or a sweep start. -/
theorem sweepTimerStartsOrOverruns : Obligations.SweepTimerStartsOrOverruns := by
  intro e iv s hpower htimer hiv
  refine ⟨fun hflight => ?_, fun hflight => ?_⟩
  · rw [exec_sweepTimerExpiry hpower htimer, State.sweepTimerExpires_overruns hiv hflight]
    rfl
  · obtain ⟨hnow, hpower', hlink, hstore, hwet, -⟩ := (s.timerReloaded e iv).startSweep_keeps
    obtain ⟨hmode, hinterval, hpending, hloaded⟩ := (s.timerReloaded e iv).startSweep_sweep_keeps
    obtain ⟨hnumber, hoverruns, -⟩ := (s.timerReloaded e iv).startSweep_begins
    exact ⟨_, exec_sweepTimerExpiry hpower htimer, State.sweepTimerExpires_starts hiv hflight, by
      rw [State.sweepTimerExpires_starts hiv hflight]
      exact ⟨hnumber, hmode, hinterval, hpending, hloaded, hoverruns, hnow, hstore, hlink, hwet, hpower'.trans hpower⟩⟩

end Sys2Proof.Machine
end

section
/-! The end of a job that is not the last of its port: its unit takes the head of the queue (R79, R83 to R88). -/

namespace Sys2Proof.Machine

/-! ### The arbiter's turn with at most one unit free (R83) -/

section
variable {s : State} {k : Fin 4}

theorem State.giveJobs_of_empty (h : s.capture.queue = []) : s.giveJobs = s := by
  have same : s.giveJobs.capture = s.capture := by
    rw [State.giveJobs_capture]
    refine List.foldlRecOn (motive := fun d => d = s.capture) _ _ rfl fun d hd m _ => ?_
    rw [hd, Capture.giveOne, h]
    split
    next hnone => cases hnone
    next => rfl
  exact congrArg (fun c => ({ s with capture := c } : State)) same

/-- R83: the one unit that is free takes the head of the queue. -/
theorem State.giveJobs_of_one_free (h : ∀ m : Fin 4, (s.capture.units[m]).job? = none ↔ m = k) :
    s.giveJobs.capture.queue = s.capture.queue.tail
      ∧ s.giveJobs.capture.units[k] = .given s.now s.work.window s.capture.queue.head?
      ∧ ∀ m : Fin 4, m ≠ k → s.giveJobs.capture.units[m] = s.capture.units[m] := by
  have one : ∀ k : Fin 4, ((List.finRange 4).filter fun m => decide (m = k)).length = 1 := by decide
  have below : ∀ k : Fin 4, ((List.finRange 4).filter fun m => m < k && decide (m = k)).length = 0 := by decide
  obtain ⟨queue, units⟩ := s.giveJobs_givenTo (free := fun m => decide (m = k)) fun m => decide_eq_true_iff.trans (h m).symm
  refine ⟨by rw [queue, one, List.drop_one], ?_, fun m hm => ?_⟩
  · rw [units k, if_pos (decide_eq_true rfl), below, ← List.head?_eq_getElem?]
    cases s.capture.queue.head? <;> rfl
  · rw [units m, if_neg (by simpa using hm)]

end

/-! ### The end of a job (R88) -/

section
variable {s u : State} {c : Instr} {k : Fin 4} {j : Job} {now : Nat}

/-- R88: a job of the port that waits or is held by another unit is outstanding when that of unit `k` has ended. -/
theorem State.EndsAt.handOn_outstanding_of_other (h : s.EndsAt u c now) (o : JobOutcome)
    (hother : (∃ q ∈ s.capture.queue, q.port = j.port) ∨ ∃ m : Fin 4, m ≠ k ∧ (s.capture.units[m]).holdsPort j.port = true) :
    (u.handOn k j o).capture.outstanding j.port = true := by
  refine Capture.outstanding_iff.2 ?_
  obtain ⟨q, hq, hport⟩ | ⟨m, hm, hheld⟩ := hother
  · exact ⟨q, State.handOn_hasJob.2 (.inl (h.queue.symm ▸ hq)), hport⟩
  · obtain ⟨i, hi, hport⟩ := CaptureUnit.holdsPort_iff.1 hheld
    refine ⟨i, State.handOn_hasJob.2 (.inr ⟨m, hm, ?_⟩), hport⟩
    rw [h.units, State.elapseTo_job?, hi]

/-- R88, R89: the end of a job that leaves another of its port hands the outcome on and gives the next job out. -/
theorem State.endJob_of_outstanding {o : JobOutcome} (h : (u.handOn k j o).capture.outstanding j.port = true) :
    u.endJob k j o = (u.handOn k j o).giveJobs := by
  obtain ⟨i, hi, -⟩ := Capture.outstanding_iff.1 h
  have ended : (u.handOn k j o).giveJobs.capture.allEnded ≠ true := fun hended =>
    Capture.allEnded_iff.1 hended i (State.giveJobs_hasJob.2 hi)
  rw [State.endJob_eq, State.jobEnded, if_pos h]
  obtain ⟨-, -, hended⟩ | ⟨hsettled, -⟩ := (u.handOn k j o).settle_cases
  · exact absurd hended ended
  · exact hsettled

/-- R83: the unit whose job has ended takes the head of the queue, and no other unit changes. -/
theorem State.EndsAt.handOn_given (h : s.EndsAt u c now) (o : JobOutcome)
    (hbusy : s.capture.queue ≠ [] → ∀ m : Fin 4, m ≠ k → (s.capture.units[m]).job? ≠ none) :
    (u.handOn k j o).giveJobs.capture.queue = s.capture.queue.tail
      ∧ (u.handOn k j o).giveJobs.capture.units[k] = .given now s.work.window s.capture.queue.head?
      ∧ ∀ m : Fin 4, m ≠ k → (u.handOn k j o).giveJobs.capture.units[m] = (s.elapseTo now).capture.units[m] := by
  have idle : (u.handOn k j o).capture.units[k] = .idle := by simp [State.handOn]
  have other (m : Fin 4) (hm : m ≠ k) : (u.handOn k j o).capture.units[m] = (s.elapseTo now).capture.units[m] := by
    rw [State.handOn_unit hm, h.units]
  have queue : (u.handOn k j o).capture.queue = s.capture.queue := h.queue
  by_cases hempty : s.capture.queue = []
  · rw [State.giveJobs_of_empty (queue.trans hempty), queue, idle, hempty]
    exact ⟨rfl, rfl, other⟩
  · have free (m : Fin 4) : ((u.handOn k j o).capture.units[m]).job? = none ↔ m = k := by
      rw [← h.free_iff m]
      simpa using fun hnone => by_contra fun hm => hbusy hempty m hm hnone
    have clock : (u.handOn k j o).now = now := (congrArg State.now h.at_ :)
    have work : (u.handOn k j o).work = s.work := (congrArg State.work h.at_ :)
    obtain ⟨rest, taken, kept⟩ := State.giveJobs_of_one_free free
    rw [queue] at rest taken
    rw [clock, work] at taken
    exact ⟨rest, taken, fun m hm => (kept m hm).trans (other m hm)⟩

end

/-- Settles O40: the job is handed on, its port keeps another, and the arbiter gives its unit the head of the queue. -/
theorem jobEndFreesTheUnit : Obligations.JobEndFreesTheUnit := by
  intro c k j o now s hends hother hbusy
  obtain ⟨u, hexec, hat, -⟩ := hends.exec
  obtain ⟨queue, taken, others⟩ := hat.handOn_given (j := j) o hbusy
  rw [State.endJob_of_outstanding (hat.handOn_outstanding_of_other o hother)] at hexec
  refine ⟨_, hexec, ?_, ?_, queue, taken.trans ?_, others, fun m q => ?_⟩
  · exact congrArg (fun v : State => ({ v with capture := (u.handOn k j o).giveJobs.capture } : State)) hat.at_
  · rw [State.giveJobs_outcomes, ← hat.outcomes]
    rfl
  · cases s.capture.queue <;> rfl
  · rw [State.giveJobs_filter, ← hat.filter]
    rfl

end Sys2Proof.Machine
end

section
/-! The level filter of a probe line: what it makes of a run of samples (R79, R93, assumption 8). -/

namespace Sys2Proof.Machine

section
variable {f : LineFilter} {now n : Nat} {v : PinLevel}

/-! ### Runs that follow the latest sample, and runs of their own -/

theorem LineFilter.running_eq : f.running v = if f.level ≠ v ∧ f.sampled = v then f.differing else 0 := by
  unfold LineFilter.running
  simp

theorem LineFilter.follows_iff : f.follows now v n = true ↔ now ≤ f.sampledAt + min n (25 - f.running v) := by
  have within : f.follows now v n = true ↔ now ≤ f.sampledAt + min n (Config.filterTicks - f.running v) := by
    simp [LineFilter.follows]
  exact within

/-- A run that follows the latest sample continues its differing ticks. -/
theorem LineFilter.of_follows (h : f.follows now v n = true) : f.carried now v n = f.running v
    ∧ f.taken now v n = min n (25 - f.running v) ∧ f.endsAt now v n = f.sampledAt + min n (25 - f.running v) := by
  have carried : f.carried now v n = f.running v := by rw [LineFilter.carried, if_pos h]
  have gap : f.gap now v n = 0 := by rw [LineFilter.gap, h]; rfl
  have taken : f.taken now v n = min n (25 - f.running v) := by rw [LineFilter.taken, carried]; rfl
  have within := LineFilter.follows_iff.1 h
  refine ⟨carried, taken, ?_⟩
  rw [LineFilter.endsAt, gap, taken]
  omega

/-- A run of its own counts from its first tick; a tick at the filtered level stands before it where ticks were counted. -/
theorem LineFilter.of_not_follows (h : f.follows now v n = false) : f.carried now v n = 0 ∧ f.taken now v n = min n 25
    ∧ f.endsAt now v n = max now (f.sampledAt + (if f.running v = 0 then 0 else 1) + min n 25) := by
  have carried : f.carried now v n = 0 := by rw [LineFilter.carried, h]; rfl
  have taken : f.taken now v n = min n 25 := by rw [LineFilter.taken, carried]; rfl
  have gap : f.gap now v n = if f.running v = 0 then 0 else 1 := by
    rw [LineFilter.gap, h, Bool.false_or]
    exact if_congr decide_eq_true_iff rfl rfl
  exact ⟨carried, taken, by rw [LineFilter.endsAt, gap, taken]⟩

/-- Where no differing tick is counted the two are the same. -/
theorem LineFilter.of_running_zero (h : f.running v = 0) : f.carried now v n = 0 ∧ f.taken now v n = min n 25
    ∧ f.endsAt now v n = max now (f.sampledAt + min n 25) := by
  cases hfollows : f.follows now v n with
  | true =>
    have within := LineFilter.follows_iff.1 hfollows
    obtain ⟨carried, taken, ends⟩ := LineFilter.of_follows hfollows
    rw [h] at carried taken ends within
    exact ⟨carried, taken, by rw [ends]; omega⟩
  | false =>
    obtain ⟨carried, taken, ends⟩ := LineFilter.of_not_follows hfollows
    rw [if_pos h] at ends
    exact ⟨carried, taken, ends⟩

/-! ### The filter after a run -/

theorem LineFilter.changes_iff : f.changes now v n = true ↔ f.level ≠ v ∧ 25 ≤ f.carried now v n + f.taken now v n := by
  refine ⟨LineFilter.counted_of_changes, fun ⟨hlevel, hall⟩ => ?_⟩
  have all : Config.filterTicks ≤ f.carried now v n + f.taken now v n := hall
  simp [LineFilter.changes, hlevel, all]

/-- R79: the level is the one sampled, which it was or has become. -/
theorem LineFilter.sample_of_settles (h : f.level = v ∨ f.changes now v n = true) :
    f.sample now v n = LineFilter.mk v v 0 (f.endsAt now v n) false := by
  rw [LineFilter.sample, if_pos]
  simpa using h

/-- R79: the level stays, with the differing ticks counted on. -/
theorem LineFilter.sample_of_counts (hlevel : f.level ≠ v) (hfew : f.carried now v n + f.taken now v n < 25) :
    f.changes now v n = false ∧ f.sample now v n = LineFilter.mk f.level v (f.carried now v n + f.taken now v n)
      (f.endsAt now v n) (f.rests now v n) := by
  have unchanged : f.changes now v n = false :=
    Bool.eq_false_iff.2 fun hchanges => (LineFilter.counted_of_changes hchanges).2.not_gt hfew
  refine ⟨unchanged, ?_⟩
  rw [LineFilter.sample, if_neg]
  simpa [unchanged] using hlevel

theorem LineFilter.sample_sampledAt : (f.sample now v n).sampledAt = f.endsAt now v n := by
  obtain ⟨hat, -⟩ := f.sample_cases now v n
  exact hat

/-- R93: a line rests HIGH while every run follows the latest sample. -/
theorem LineFilter.rests_iff : f.rests now v n = true ↔ f.resting = true ∧ v = .high
    ∧ now ≤ f.sampledAt + min n (25 - if f.level ≠ v ∧ f.sampled = v then f.differing else 0) := by
  rw [← LineFilter.running_eq, ← LineFilter.follows_iff]
  simp [LineFilter.rests, and_assoc]

/-! ### The cases of a run (R79) -/

/-- A run at the filtered level starts the count anew. -/
theorem LineFilter.sample_at_level (hn : n ≤ 25) (h : f.level = v) :
    f.changes now v n = false ∧ f.sample now v n = LineFilter.mk v v 0 (max now (f.sampledAt + n)) false := by
  have none : f.running v = 0 := by rw [LineFilter.running_eq, if_neg fun ⟨hlevel, _⟩ => hlevel h]
  obtain ⟨-, -, ends⟩ := LineFilter.of_running_zero (now := now) (n := n) none
  rw [Nat.min_eq_left hn] at ends
  refine ⟨Bool.eq_false_iff.2 fun hchanges => (LineFilter.counted_of_changes hchanges).1 h, ?_⟩
  rw [LineFilter.sample_of_settles (.inl h), ends]

section
variable (hlevel : f.level ≠ v)
include hlevel

/-- A run that continues the differing ticks without filling the 25. -/
theorem LineFilter.sample_continues (hsampled : f.sampled = v) (hfew : f.differing + n < 25) (hnow : now ≤ f.sampledAt + n) :
    f.changes now v n = false
      ∧ f.sample now v n = LineFilter.mk f.level v (f.differing + n) (f.sampledAt + n) (f.resting && v = .high) := by
  have running : f.running v = f.differing := by rw [LineFilter.running_eq, if_pos ⟨hlevel, hsampled⟩]
  have all : min n (25 - f.running v) = n := by omega
  have follows : f.follows now v n = true := LineFilter.follows_iff.2 (by rwa [all])
  obtain ⟨carried, taken, ends⟩ := LineFilter.of_follows follows
  rw [all] at taken ends
  rw [running] at carried
  obtain ⟨unchanged, sample⟩ := LineFilter.sample_of_counts hlevel (by rwa [carried, taken])
  refine ⟨unchanged, ?_⟩
  rw [sample, carried, taken, ends, LineFilter.rests, follows, Bool.and_true]

/-- A run that fills the 25 differing ticks changes the level at the 25th. -/
theorem LineFilter.sample_completes (hsampled : f.sampled = v) (hall : 25 ≤ f.differing + n) (hfew : f.differing ≤ 25)
    (hnow : now ≤ f.sampledAt + (25 - f.differing)) :
    f.changes now v n = true ∧ f.sample now v n = LineFilter.mk v v 0 (f.sampledAt + (25 - f.differing)) false := by
  have running : f.running v = f.differing := by rw [LineFilter.running_eq, if_pos ⟨hlevel, hsampled⟩]
  have rest : min n (25 - f.running v) = 25 - f.differing := by omega
  have follows : f.follows now v n = true := LineFilter.follows_iff.2 (by rwa [rest])
  obtain ⟨carried, taken, ends⟩ := LineFilter.of_follows follows
  have changes : f.changes now v n = true := LineFilter.changes_iff.2 ⟨hlevel, by omega⟩
  exact ⟨changes, by rw [LineFilter.sample_of_settles (.inr changes), ends, rest]⟩

/-- The filter after a run of its own. -/
theorem LineFilter.sample_starts (hn : n ≤ 25) {gap : Nat} {rests : Bool} (hcarried : f.carried now v n = 0)
    (htaken : f.taken now v n = min n 25) (hends : f.endsAt now v n = max now (f.sampledAt + gap + min n 25))
    (hrests : f.rests now v n = rests) :
    (n < 25 → f.changes now v n = false
      ∧ f.sample now v n = LineFilter.mk f.level v n (max now (f.sampledAt + gap + n)) rests)
    ∧ (n = 25 → f.changes now v n = true
      ∧ f.sample now v n = LineFilter.mk v v 0 (max now (f.sampledAt + gap + 25)) false) := by
  rw [Nat.min_eq_left hn] at htaken hends
  refine ⟨fun hfew => ?_, fun hall => ?_⟩
  · obtain ⟨unchanged, sample⟩ := LineFilter.sample_of_counts hlevel (by rwa [hcarried, htaken, Nat.zero_add])
    exact ⟨unchanged, by rw [sample, hcarried, htaken, hends, hrests, Nat.zero_add]⟩
  · have changes : f.changes now v n = true := LineFilter.changes_iff.2 ⟨hlevel, by omega⟩
    exact ⟨changes, by rw [LineFilter.sample_of_settles (.inr changes), hends, hall]⟩

/-- A run of differing ticks that no differing tick stands before, or that comes too late to follow those counted. -/
theorem LineFilter.sample_anew (hn : n ≤ 25) {gap : Nat}
    (h : f.sampled ≠ v ∧ gap = 0
      ∨ f.sampled = v ∧ f.sampledAt + min n (25 - f.differing) < now ∧ gap = if f.differing = 0 then 0 else 1) :
    (n < 25 → f.changes now v n = false
      ∧ f.sample now v n = LineFilter.mk f.level v n (max now (f.sampledAt + gap + n))
          (f.resting && v = .high && decide (now ≤ f.sampledAt + n ∧ f.sampled ≠ v)))
    ∧ (n = 25 → f.changes now v n = true
      ∧ f.sample now v n = LineFilter.mk v v 0 (max now (f.sampledAt + gap + 25)) false) := by
  obtain ⟨hsampled, rfl⟩ | ⟨hsampled, hlate, rfl⟩ := h
  · have none : f.running v = 0 := by rw [LineFilter.running_eq, if_neg fun ⟨_, heq⟩ => hsampled heq]
    obtain ⟨carried, taken, ends⟩ := LineFilter.of_running_zero (now := now) (n := n) none
    have follows : f.follows now v n = decide (now ≤ f.sampledAt + n ∧ f.sampled ≠ v) := by
      rw [Bool.eq_iff_iff, LineFilter.follows_iff, decide_eq_true_iff, none, Nat.sub_zero, Nat.min_eq_left hn]
      exact (and_iff_left hsampled).symm
    exact LineFilter.sample_starts hlevel hn carried taken ends (by rw [LineFilter.rests, follows])
  · have running : f.running v = f.differing := by rw [LineFilter.running_eq, if_pos ⟨hlevel, hsampled⟩]
    have late : f.follows now v n = false := Bool.eq_false_iff.2 fun hfollows => by
      have within := LineFilter.follows_iff.1 hfollows
      rw [running] at within
      omega
    obtain ⟨carried, taken, ends⟩ := LineFilter.of_not_follows late
    rw [running] at ends
    have unrested : decide (now ≤ f.sampledAt + n ∧ f.sampled ≠ v) = false := decide_eq_false fun ⟨_, hne⟩ => hne hsampled
    exact LineFilter.sample_starts hlevel hn carried taken ends (by rw [LineFilter.rests, late, unrested])

end

/-! ### Runs that change the level (R79) -/

/-- A run that changes the level takes the ticks a run of 25 would take. -/
theorem LineFilter.taken_of_changes (h : f.changes now v n = true) :
    f.follows now v 25 = f.follows now v n ∧ f.taken now v 25 = f.taken now v n := by
  obtain ⟨-, hall⟩ := LineFilter.counted_of_changes h
  cases hfollows : f.follows now v n with
  | true =>
    obtain ⟨carried, taken, -⟩ := LineFilter.of_follows hfollows
    have rest : min n (25 - f.running v) = min 25 (25 - f.running v) := by omega
    have follows : f.follows now v 25 = true :=
      LineFilter.follows_iff.2 (rest ▸ LineFilter.follows_iff.1 hfollows)
    obtain ⟨-, taken', -⟩ := LineFilter.of_follows follows
    exact ⟨follows, by rw [taken, taken', rest]⟩
  | false =>
    obtain ⟨carried, taken, -⟩ := LineFilter.of_not_follows hfollows
    have enough : 25 ≤ n := by omega
    have follows : f.follows now v 25 = false := Bool.eq_false_iff.2 fun hfollows' => by
      have within := LineFilter.follows_iff.1 hfollows'
      exact Bool.eq_false_iff.1 hfollows (LineFilter.follows_iff.2 (by omega))
    obtain ⟨-, taken', -⟩ := LineFilter.of_not_follows follows
    exact ⟨follows, by omega⟩

/-- A run that changes the level ends as a run of 25 would. -/
theorem LineFilter.full_of_changes (h : f.changes now v n = true) : f.changes now v 25 = true
    ∧ f.endsAt now v 25 = f.endsAt now v n ∧ f.rests now v 25 = f.rests now v n := by
  obtain ⟨follows, taken⟩ := LineFilter.taken_of_changes h
  have carried : f.carried now v 25 = f.carried now v n := by rw [LineFilter.carried, follows, ← LineFilter.carried]
  have gap : f.gap now v 25 = f.gap now v n := by rw [LineFilter.gap, follows, ← LineFilter.gap]
  refine ⟨?_, by rw [LineFilter.endsAt, gap, taken, ← LineFilter.endsAt], by rw [LineFilter.rests, follows, ← LineFilter.rests]⟩
  rw [LineFilter.changes_iff, carried, taken, ← LineFilter.changes_iff]
  exact h

/-- A run of 25 met at the tick it ends at is the same run. -/
theorem LineFilter.changes_at_end (h : f.changes now v 25 = true) : f.changes (f.endsAt now v 25) v 25 = true
    ∧ f.endsAt (f.endsAt now v 25) v 25 = f.endsAt now v 25 := by
  obtain ⟨hlevel, hall⟩ := LineFilter.counted_of_changes h
  have later := f.le_endsAt now v 25
  cases hfollows : f.follows now v 25 with
  | true =>
    obtain ⟨carried, taken, ends⟩ := LineFilter.of_follows hfollows
    obtain ⟨carried', taken', ends'⟩ :=
      LineFilter.of_follows (f := f) (v := v) (now := f.endsAt now v 25) (n := 25) (LineFilter.follows_iff.2 ends.le)
    exact ⟨LineFilter.changes_iff.2 ⟨hlevel, by omega⟩, by rw [ends', ends]⟩
  | false =>
    obtain ⟨-, -, ends⟩ := LineFilter.of_not_follows hfollows
    have late : f.follows (f.endsAt now v 25) v 25 = false := Bool.eq_false_iff.2 fun hfollows' =>
      Bool.eq_false_iff.1 hfollows (LineFilter.follows_iff.2 (later.trans (LineFilter.follows_iff.1 hfollows')))
    obtain ⟨carried', taken', ends'⟩ := LineFilter.of_not_follows late
    exact ⟨LineFilter.changes_iff.2 ⟨hlevel, by omega⟩, by omega⟩

end

end Sys2Proof.Machine
end

section
/-! The events of a probe line: a run of samples, and the rising edge it may bring to the unit that measures the line (R79, R84,
R85, R93). -/

namespace Sys2Proof.Machine

/-! ### A line sampled (R79) -/

/-- R79: the samples of a line are taken up to the tick they end at; an edge is still to act on its unit. -/
def State.sampled (s : State) (port : Fin 24) (line : PinLine) (v : PinLevel) (n : Nat) : State :=
  (s.elapseTo ((s.capture.filter line port).endsAt s.now v n)).setFilter line port
    ((s.capture.filter line port).sample s.now v n)

theorem State.sampleLine_eq (s : State) (port : Fin 24) (line : PinLine) (v : PinLevel) (n : Nat) :
    s.sampleLine port line v n =
      if ((s.capture.filter line port).changes s.now v n && v = .high) = true then
        (s.sampled port line v n).risingEdge port line ((s.capture.filter line port).rests s.now v n)
      else s.sampled port line v n := rfl

/-- From `s` to `t` the clock came to `e`, the units to `units` and the filter of one line to `g`; nothing else changed. -/
def State.LineEvent (s t : State) (port : Fin 24) (line : PinLine) (e : Nat) (units : Vector CaptureUnit 4) (g : LineFilter) :
    Prop :=
  t = { s with
      now := e
      capture := { s.capture with units := units, fFilter := t.capture.fFilter, dFilter := t.capture.dFilter } }
    ∧ s.capture.FilterBecomes t.capture port line g

section
variable {s t : State} {port : Fin 24} {line : PinLine} {e n : Nat} {g : LineFilter}

theorem State.LineEvent.setUnit {units : Vector CaptureUnit 4} (h : s.LineEvent t port line e units g) (k : Fin 4)
    (u : CaptureUnit) : s.LineEvent (t.setUnit k u) port line e (units.set k u) g := by
  obtain ⟨hstate, hfilter⟩ := h
  have units' : t.capture.units = units := (congrArg (fun x : State => x.capture.units) hstate :)
  refine ⟨?_, hfilter⟩
  rw [← units']
  exact congrArg (fun x : State => ({ x with capture := { x.capture with
    units := t.capture.units.set k u, fFilter := t.capture.fFilter, dFilter := t.capture.dFilter } } : State)) hstate

theorem State.setFilter_lineEvent (he : s.now ≤ e) :
    s.LineEvent ((s.elapseTo e).setFilter line port g) port line e (s.elapseTo e).capture.units g := by
  have clock : s.now + (e - s.now) = e := by omega
  have frame (t : State) (ht : t = (s.elapseTo e).setFilter line port g) : t = { s with
      now := s.now + (e - s.now)
      capture := { s.capture with
        units := (s.elapseTo e).capture.units, fFilter := t.capture.fFilter, dFilter := t.capture.dFilter } } := by
    subst ht
    cases line <;> rfl
  rw [clock] at frame
  exact ⟨frame _ rfl, Capture.setFilter_filter _ _ _ _, fun q m hne => Capture.setFilter_filter_ne _ (by tauto) _⟩

theorem State.sampled_lineEvent {v : PinLevel} (he : e = ((s.capture.filter line port).sample s.now v n).sampledAt) :
    s.LineEvent (s.sampled port line v n) port line e (s.elapseTo e).capture.units
      ((s.capture.filter line port).sample s.now v n) := by
  rw [LineFilter.sample_sampledAt] at he
  rw [State.sampled, ← he]
  exact State.setFilter_lineEvent (he ▸ LineFilter.le_endsAt _ _ _ _)

theorem State.sampled_unitOf {v : PinLevel} (q : Fin 24) (m : PinLine) :
    (s.sampled port line v n).capture.unitOf q m = s.capture.unitOf q m :=
  (State.setFilter_unitOf _ _ _ _ _ _).trans (State.elapse_unitOf _ _ _ _)

/-- R79: the line has become HIGH at tick `e`; the edge is still to act on its unit. -/
def State.risen (s : State) (port : Fin 24) (line : PinLine) (e : Nat) : State :=
  (s.elapseTo e).setFilter line port (LineFilter.mk .high .high 0 e false)

theorem State.risen_unit (s : State) (port : Fin 24) (line : PinLine) (e : Nat) (k : Fin 4) :
    (s.risen port line e).capture.units[k] = (s.capture.units[k]).count s.capture.level (e - s.now) := by
  rw [State.risen, State.setFilter_capture, Capture.setFilter_units]
  exact s.elapse_unit _ k

theorem State.risen_of_armed (s : State) {port : Fin 24} {line : PinLine} {e : Nat} {k : Fin 4} {j : Job} {taken w : Nat}
    (hk : s.capture.units[k] = .armed j taken w) : (s.risen port line e).capture.units[k] = .armed j taken w := by
  rw [State.risen_unit, hk]
  rfl

theorem exec_filteredLevelChange (hpower : s.power = .running) (v : PinLevel) (n : Nat) :
    exec (.filteredLevelChange port line (SampleRun.mk v n)) s = .next (s.sampleLine port line v n) := by
  change execFilteredLevelChange port line _ s = _
  rw [execFilteredLevelChange, hpower]

/-- R79: samples that bring no rising edge to a unit. -/
theorem State.sampleLine_quiet {v : PinLevel}
    (h : v = .low ∨ (s.capture.filter line port).changes s.now v n = false ∨ s.capture.unitOf port line = none) :
    s.sampleLine port line v n = s.sampled port line v n := by
  rw [State.sampleLine_eq]
  split
  next hrises =>
    obtain ⟨hchanges, hv⟩ := (Bool.and_eq_true _ _).mp hrises
    obtain rfl | hkept | hnone := h
    · exact absurd hv (by decide)
    · exact absurd hchanges (Bool.eq_false_iff.1 hkept)
    · rw [State.risingEdge, State.sampled_unitOf, hnone]
  next => rfl

/-! ### Rising edges at a unit (R84, R85, R93) -/

section
variable {k : Fin 4} {j : Job} {w : Nat} {rests : Bool} (hunit : s.capture.unitOf port line = some k)
include hunit

/-- R84, R93: a rising edge at a unit that is ARMED. -/
theorem State.risingEdge_armed {taken : Nat} (hk : s.capture.units[k] = .armed j taken w) :
    s.risingEdge port line rests =
      if taken < s.now ∧ s.now ≤ w ∧ rests = false then s.setUnit k (.counting j w 0 0 0) else s := by
  rw [State.risingEdge, hunit]
  simp only [hk]
  refine if_congr ?_ rfl rfl
  simp [and_assoc]

/-- R84: a further period. -/
theorem State.risingEdge_counts {periods total high : Nat} (hk : s.capture.units[k] = .counting j w periods total high)
    (hin : s.now ≤ w) (hmore : periods + 1 < j.n) :
    s.risingEdge port line rests = s.setUnit k (.counting j w (periods + 1) total high) := by
  rw [State.risingEdge, hunit]
  simp only [hk]
  rw [if_neg hin.not_gt, if_pos hmore]

/-- R85: an edge after the window. -/
theorem State.risingEdge_late {periods total high : Nat} (hk : s.capture.units[k] = .counting j w periods total high)
    (hlate : w < s.now) : s.risingEdge port line rests = s := by
  rw [State.risingEdge, hunit]
  simp only [hk]
  rw [if_pos hlate]

end

/-- The line that unit `k` measures becomes HIGH at tick `e`, by a run of `n` samples of a part that runs. -/
structure State.Rises (s : State) (port : Fin 24) (line : PinLine) (n e : Nat) (k : Fin 4) : Prop where
  power : s.power = .running
  unit : s.capture.unitOf port line = some k
  changes : (s.capture.filter line port).changes s.now .high n = true
  ends : e = ((s.capture.filter line port).sample s.now .high n).sampledAt

namespace State.Rises
variable {k : Fin 4} {j : Job} {w : Nat} (h : s.Rises port line n e k)
include h

theorem endsAt : e = (s.capture.filter line port).endsAt s.now .high n := h.ends.trans LineFilter.sample_sampledAt

theorem now_le : s.now ≤ e := by
  rw [h.endsAt]
  exact LineFilter.le_endsAt _ _ _ _

/-- R79: the run settles the filter at HIGH. -/
theorem sampled_eq : s.sampled port line .high n = s.risen port line e := by
  rw [State.sampled, LineFilter.sample_of_settles (.inr h.changes), ← h.endsAt, State.risen]

/-- The same rise, by a run of 25 samples. -/
theorem full : s.Rises port line 25 e k
    ∧ (s.capture.filter line port).rests s.now .high 25 = (s.capture.filter line port).rests s.now .high n := by
  obtain ⟨changes, ends, rests⟩ := LineFilter.full_of_changes h.changes
  exact ⟨⟨h.power, h.unit, changes, by rw [LineFilter.sample_sampledAt, ends, ← h.endsAt]⟩, rests⟩

theorem sampleLine_eq : s.sampleLine port line .high n =
    (s.risen port line e).risingEdge port line ((s.capture.filter line port).rests s.now .high n) := by
  rw [State.sampleLine_eq, if_pos (by rw [h.changes]; rfl), h.sampled_eq]

theorem exec : exec (.filteredLevelChange port line (SampleRun.mk .high n)) s =
    .next ((s.risen port line e).risingEdge port line ((s.capture.filter line port).rests s.now .high n)) := by
  rw [exec_filteredLevelChange h.power, h.sampleLine_eq]

theorem risen_now : (s.risen port line e).now = e := by
  have := h.now_le
  rw [State.risen, State.setFilter_now, State.elapseTo_now]
  omega

theorem risen_unitOf : (s.risen port line e).capture.unitOf port line = some k := by
  rw [State.risen, State.setFilter_unitOf, State.elapseTo, State.elapse_unitOf, h.unit]

theorem risen_lineEvent : s.LineEvent (s.risen port line e) port line e
    (s.elapseTo e).capture.units (LineFilter.mk .high .high 0 e false) :=
  State.setFilter_lineEvent h.now_le

/-! ### An edge at a unit that is ARMED (R84, R93) -/

section
variable {taken : Nat} (hk : s.capture.units[k] = .armed j taken w)
include hk

/-- R84, assumption 9: the rise is the start edge under its own name. -/
theorem exec_startEdge (hrests : (s.capture.filter line port).rests s.now .high n = false) (htaken : taken < e) (hin : e ≤ w) :
    Machine.exec (.startEdge port line) s = Machine.exec (.filteredLevelChange port line (SampleRun.mk .high n)) s := by
  obtain ⟨full, rests⟩ := h.full
  have ends : (s.capture.filter line port).endsAt s.now .high 25 = e := full.endsAt.symm
  have due : s.startEdgeDue port line = true := by
    rw [State.startEdgeDue, h.unit]
    simp only [hk, Config.filterTicks, full.changes, rests, hrests, ends]
    simp [htaken, hin]
  change execStartEdge port line s = _
  rw [execStartEdge, if_pos (by rw [due, h.power]; rfl), h.exec, Config.filterTicks, full.sampleLine_eq, rests]

/-- R84: the start edge, the first after the taking. -/
theorem starts (hrests : (s.capture.filter line port).rests s.now .high n = false) (htaken : taken < e) (hin : e ≤ w) :
    ∃ t : State, Machine.exec (.startEdge port line) s = .next t
      ∧ Machine.exec (.filteredLevelChange port line (SampleRun.mk .high n)) s = .next t
      ∧ s.LineEvent t port line e ((s.elapseTo e).capture.units.set k (.counting j w 0 0 0))
          (LineFilter.mk .high .high 0 e false) := by
  have edge := h.exec
  rw [State.risingEdge_armed h.risen_unitOf (s.risen_of_armed hk), h.risen_now, if_pos ⟨htaken, hin, hrests⟩] at edge
  exact ⟨_, (h.exec_startEdge hk hrests htaken hin).trans edge, edge, h.risen_lineEvent.setUnit k _⟩

/-- R84, R85, R93: an edge at or before the taking, after the window, or of a line that has rested HIGH. -/
theorem unstarted (hnone : (s.capture.filter line port).rests s.now .high n = true ∨ e ≤ taken ∨ w < e) :
    ∃ t : State, Machine.exec (.filteredLevelChange port line (SampleRun.mk .high n)) s = .next t
      ∧ s.LineEvent t port line e (s.elapseTo e).capture.units (LineFilter.mk .high .high 0 e false) := by
  have edge := h.exec
  rw [State.risingEdge_armed h.risen_unitOf (s.risen_of_armed hk), h.risen_now, if_neg] at edge
  · exact ⟨_, edge, h.risen_lineEvent⟩
  · rintro ⟨htaken, hin, hrests⟩
    rw [hrests] at hnone
    obtain hrest | hbefore | hafter := hnone
    · exact Bool.noConfusion hrest
    · omega
    · omega

end

/-! ### An edge at a unit in COUNTING (R84, R85) -/

section
variable {periods total high : Nat} (hk : s.capture.units[k] = .counting j w periods total high)
include hk

theorem own : j.port = port ∧ j.line = line := Capture.unitOf_eq_some h.unit j (by rw [hk]; rfl)

/-- R84: the ticks up to the edge are counted, with the line at LOW. -/
theorem risen_counting : (s.risen port line e).capture.units[k] =
    .counting j w periods (total + (e - s.now)) high := by
  obtain ⟨hport, hline⟩ := h.own hk
  have low : s.capture.level j.line j.port = .low := by
    rw [hport, hline]
    exact LineFilter.level_of_rises h.changes
  rw [State.risen_unit, hk, CaptureUnit.count, low]
  rfl

/-- R84: a further period. -/
theorem counts (hin : e ≤ w) (hmore : periods + 1 < j.n) :
    ∃ t : State, Machine.exec (.filteredLevelChange port line (SampleRun.mk .high n)) s = .next t
      ∧ s.LineEvent t port line e
          ((s.elapseTo e).capture.units.set k (.counting j w (periods + 1) (total + (e - s.now)) high))
          (LineFilter.mk .high .high 0 e false) := by
  have edge := h.exec
  rw [State.risingEdge_counts h.risen_unitOf (h.risen_counting hk) (h.risen_now.trans_le hin) hmore] at edge
  exact ⟨_, edge, h.risen_lineEvent.setUnit k _⟩

/-- R84, assumption 9: the edge that completes the N-th period is the closing edge under its own name. -/
theorem exec_captureJobComplete (hin : e ≤ w) (hlast : j.n ≤ periods + 1) :
    Machine.exec (.filteredLevelChange port line (SampleRun.mk .high n)) s =
      Machine.exec (.captureJobComplete port line (total + (e - s.now)) high) s := by
  have edge := h.exec
  rw [State.risingEdge_closes h.risen_unitOf (h.risen_counting hk) hlast (h.risen_now.trans_le hin)] at edge
  obtain ⟨full, -⟩ := h.full
  obtain ⟨changes, ends⟩ := LineFilter.changes_at_end full.changes
  rw [← full.endsAt] at changes ends
  have later := h.now_le
  obtain ⟨rfl, rfl⟩ := h.own hk
  rw [edge, Machine.exec_captureJobComplete h.power h.unit changes ends hk hlast hin (by omega) (by omega),
    State.risen]

/-- R85: an edge after the window is none of the unit's. -/
theorem uncounted (hlate : w < e) :
    ∃ t : State, Machine.exec (.filteredLevelChange port line (SampleRun.mk .high n)) s = .next t
      ∧ s.LineEvent t port line e (s.elapseTo e).capture.units (LineFilter.mk .high .high 0 e false) := by
  have edge := h.exec
  rw [State.risingEdge_late h.risen_unitOf (h.risen_counting hk) (by rwa [h.risen_now])] at edge
  exact ⟨_, edge, h.risen_lineEvent⟩

end

end State.Rises

end

/-- Settles O39: the filter case by case, then each edge at the unit that measures its line. -/
theorem probeLineEvents : Obligations.ProbeLineEvents := by
  refine ⟨fun f now n v hn => ⟨LineFilter.sample_at_level hn, fun hlevel => LineFilter.sample_continues hlevel,
    fun hlevel => LineFilter.sample_completes hlevel, fun gap hlevel => LineFilter.sample_anew hlevel hn,
    LineFilter.rests_iff⟩, ?_⟩
  rintro port line n e f s hpower rfl
  refine ⟨fun v he hquiet => ?_, fun k j w hunit hrises he => ?_⟩
  · refine ⟨s.sampled port line v n, ?_, State.sampled_lineEvent he⟩
    rw [exec_filteredLevelChange hpower, State.sampleLine_quiet hquiet]
  · have rise : s.Rises port line n e k := ⟨hpower, hunit, hrises, he⟩
    exact ⟨fun taken hk => ⟨rise.starts hk, rise.unstarted hk⟩,
      fun periods total high hk => ⟨rise.counts hk, rise.exec_captureJobComplete hk, rise.uncounted hk⟩⟩

end Sys2Proof.Machine
end

section
/-! WETLINE_READ (R119). -/

namespace Sys2Proof.Machine

/-- Table 10-13: the bytes of a wet-line entry one field after the other, its remaining time in tenths of a second. -/
theorem wetEntry_eq (now : Nat) (enabled : Bool) (w : WetLine) : wetEntry now enabled w =
    u8 (boolCode enabled) ++ u8 (wetLevelCode w.raw) ++ u8 (wetLevelCode w.debounced) ++ u8 (boolCode w.latch)
      ++ u8 (boolCode w.timer.isSome) ++ u16 (remaining now w.timer 400000) :=
  (List.append_assoc _ _ _).symm

section
variable {p : List Byte}

/-- R119: an empty payload is answered with the debounce time and the eight entries. -/
theorem wetlineReadRequest_accepted (hlen : p.length = 0) (s : State) : wetlineReadRequest p s =
    s.accept (u16 s.store.written.wet.debounce
      ++ (List.finRange 8).flatMap fun l => wetEntry s.now (s.lineEnabled l) s.wet[l]) :=
  if_neg (not_not.2 hlen)

/-- R119: any other payload is refused. -/
theorem wetlineReadRequest_badLength (hlen : p.length ≠ 0) (s : State) :
    wetlineReadRequest p s = s.refuse .badLength :=
  if_pos hlen

end

/-- Settles O30: an empty payload is accepted with the debounce time and the entries field by field; any other is refused. -/
theorem wetlineReadReply : Obligations.WetlineReadReply := by
  intro p s htakes
  refine congrArg Host.Outcome.next (?_ : s.answer 0x19 (wetlineReadRequest p) = _)
  by_cases hlen : p.length = 0
  · rw [if_pos hlen, State.answer_of_accept htakes _ (wetlineReadRequest_accepted hlen s)]
    simp only [wetEntry_eq]
    rfl
  · rw [if_neg hlen, State.answer_of_refuse htakes _ (wetlineReadRequest_badLength hlen s)]

end Sys2Proof.Machine
end

section
/-! SWEEP RUN, STOP, ONCE and INTERVAL (R124 to R130). -/

namespace Sys2Proof.Machine

/-! ### Accepted SWEEP requests (R124, R125, R129) -/

section
variable {s t : State} {rest : List Byte}

/-- R124: an accepted SWEEP is answered with the sweep record of the state it leaves. -/
theorem State.answer_of_sweepAnswer (htakes : s.takesOwn = true) (kind : Byte) {st : Status}
    {handle : State → State × Answer} (h : handle s = t.sweepAnswer st) :
    s.answer kind handle = t.postReply kind (Answer.mk st (sweepRecord t.sweep)) := by
  rw [State.answer_of_takes htakes, h]
  rfl

theorem sweepRunRequest_accepted (hlen : rest.length = 2) (hsave : s.store.saving = none) :
    sweepRunRequest rest s = s.run.sweepAnswer .ok := by
  simp [sweepRunRequest, hlen, State.isSaving_eq_false hsave]

theorem sweepStopRequest_accepted (hlen : rest.length = 2) (hsave : s.store.saving = none) :
    sweepStopRequest rest s = s.stop.sweepAnswer .ok := by
  simp [sweepStopRequest, hlen, State.isSaving_eq_false hsave]

theorem sweepOnceRequest_accepted (hlen : rest.length = 2) (hmode : s.sweep.mode = .stopped)
    (hflight : s.sweep.inFlight = false) : sweepOnceRequest rest s = s.startSweep.sweepAnswer .ok := by
  simp [sweepOnceRequest, hlen, hmode, hflight]

theorem sweepOnceRequest_badState (hlen : rest.length = 2) (hmode : s.sweep.mode = .continuous) :
    sweepOnceRequest rest s = s.refuse .badState := by
  simp [sweepOnceRequest, hlen, hmode]

theorem sweepOnceRequest_busy (hlen : rest.length = 2) (hmode : s.sweep.mode = .stopped)
    (hflight : s.sweep.inFlight = true) : sweepOnceRequest rest s = s.refuse .busy := by
  simp [sweepOnceRequest, hlen, hmode, hflight]

theorem sweepIntervalRequest_accepted (hlen : rest.length = 2) (hsave : s.store.saving = none) {v : Nat}
    (hv : v = limitNat 2 600 (u16At rest 0)) :
    sweepIntervalRequest rest s = (s.setInterval v).sweepAnswer (if v = u16At rest 0 then .ok else .okAdjusted) := by
  rw [← ite_not, ← writeStatus_eq, hv]
  simp [sweepIntervalRequest, hlen, State.isSaving_eq_false hsave]

/-- R129: the start-up mode is written, and DIRTY set where it differs. -/
theorem State.writeStartMode_eq (s : State) (m : SweepMode) : s.writeStartMode m =
    { s with store := { s.store with
        written := { s.store.written with startMode := m }
        dirty := s.store.dirty || decide (s.store.written.startMode ≠ m) } } := by
  by_cases h : s.store.written.startMode = m
  · subst h
    simp [State.writeStartMode]
  · simp [State.writeStartMode, State.writeImage, h]

/-- R129: the interval is written, and DIRTY set where it differs. -/
theorem State.writeInterval_eq (s : State) (v : Nat) : s.writeInterval v =
    { s with store := { s.store with
        written := { s.store.written with interval := v }
        dirty := s.store.dirty || decide (s.store.written.interval ≠ v) } } := by
  by_cases h : s.store.written.interval = v
  · subst h
    simp [State.writeInterval]
  · simp [State.writeInterval, State.writeImage, h]

end

/-! ### RUN, ONCE, STOP and INTERVAL (R125 to R128) -/

section
variable {s : State} {iv : Nat}

theorem State.run_of_continuous (hmode : s.sweep.mode = .continuous) : s.run = s := by
  rw [State.run, hmode]

theorem State.stop_of_stopped (hmode : s.sweep.mode = .stopped) : s.stop = s := by
  rw [State.stop, hmode]

theorem State.stop_of_continuous (hmode : s.sweep.mode = .continuous) : s.stop =
    State.writeStartMode { s with sweep := { s.sweep with mode := .stopped, timer := none } } .stopped := by
  rw [State.stop, hmode]

/-- R125, R129: CONTINUOUS entered with the interval `iv`: the timer is loaded and the start-up mode written. -/
def State.resumed (s : State) (iv : Nat) : State :=
  { s with
    store := { s.store with
      written := { s.store.written with startMode := .continuous }
      dirty := s.store.dirty || decide (s.store.written.startMode ≠ .continuous) }
    sweep := { s.sweep with
      mode := .continuous, interval := iv, pendingIv := none, timer := some (s.now + iv * 4000000) } }

/-- R125: RUN in STOPPED enters CONTINUOUS and, unless a sweep is in flight, starts one. -/
theorem State.run_of_stopped (hmode : s.sweep.mode = .stopped) (hiv : iv = s.sweep.pendingIv.getD s.sweep.interval) :
    s.run = if s.sweep.inFlight = true then s.resumed iv else (s.resumed iv).startSweep := by
  rw [State.run, hmode, hiv]
  simp only [State.writeStartMode_eq]
  rfl

end

/-- Settles O34: RUN enters CONTINUOUS and starts a sweep when none is in flight; ONCE starts one in STOPPED alone. -/
theorem sweepRunAndOnce : Obligations.SweepRunAndOnce := by
  intro rest iv s htakes hlen hiv
  refine ⟨fun hsave hmode => ?_, fun hsave hmode => ?_, fun hmode => ?_, fun hmode hflight => ?_, fun hmode hflight => ?_⟩
  · have accepted := sweepRunRequest_accepted hlen hsave
    rw [State.run_of_continuous hmode] at accepted
    exact congrArg _ (State.answer_of_sweepAnswer htakes _ accepted)
  · have answered := State.answer_of_sweepAnswer htakes 0x20 (sweepRunRequest_accepted hlen hsave)
    refine ⟨s.resumed iv, s.run, congrArg _ answered, rfl, State.run_of_stopped hmode hiv, ?_⟩
    rw [State.run_of_stopped hmode hiv]
    cases hflight : s.sweep.inFlight with
    | true => exact ⟨rfl, rfl, rfl, rfl, rfl, rfl, rfl, rfl, nofun⟩
    | false =>
      obtain ⟨hnow, -, hlink, hstore, hwet, -⟩ := (s.resumed iv).startSweep_keeps
      obtain ⟨hmode', hinterval, hpending, htimer⟩ := (s.resumed iv).startSweep_sweep_keeps
      exact ⟨hmode', hinterval, hpending, htimer, hstore, hnow, hlink, hwet, fun _ => (s.resumed iv).startSweep_number⟩
  · exact congrArg _ (State.answer_of_refuse htakes _ (sweepOnceRequest_badState hlen hmode))
  · exact congrArg _ (State.answer_of_refuse htakes _ (sweepOnceRequest_busy hlen hmode hflight))
  · obtain ⟨hnow, -, hlink, hstore, hwet, -⟩ := s.startSweep_keeps
    obtain ⟨hmode', hinterval, hpending, htimer⟩ := s.startSweep_sweep_keeps
    have answered := State.answer_of_sweepAnswer htakes 0x20 (sweepOnceRequest_accepted hlen hmode hflight)
    exact ⟨s.startSweep, rfl, congrArg _ answered, hmode'.trans hmode, s.startSweep_number, hinterval, hpending, htimer,
      hstore, hnow, hlink, hwet⟩

/-- Settles O35: what STOP and INTERVAL write, and the record that answers them. -/
theorem sweepStopAndInterval : Obligations.SweepStopAndInterval := by
  intro rest v s htakes hlen hsave hv
  have stopped := sweepStopRequest_accepted hlen hsave
  refine ⟨fun hmode => ?_, fun hmode => ?_, ?_⟩
  · rw [State.stop_of_stopped hmode] at stopped
    exact congrArg _ (State.answer_of_sweepAnswer htakes _ stopped)
  · rw [State.stop_of_continuous hmode, State.writeStartMode_eq] at stopped
    exact congrArg _ (State.answer_of_sweepAnswer htakes _ stopped)
  · have accepted := sweepIntervalRequest_accepted hlen hsave hv
    rw [State.setInterval, State.writeInterval_eq] at accepted
    exact congrArg _ (State.answer_of_sweepAnswer htakes _ accepted)

end Sys2Proof.Machine
end

section
/-! SNAP_ARM and SNAP_READ, the entries of a snapshot page, and the completion that fills the snapshot (R131, R133 to R135). -/

namespace Sys2Proof.Machine

/-! ### Entries and pages (R135, Table 10-12) -/

theorem optSigned_eq (x : Option (Int × Quals)) : optSigned x =
    match x with
    | none => [0, 0, 0]
    | some (v, q) => s16 v ++ q.present := by
  cases x <;> rfl

theorem optUnsigned_eq (x : Option (Nat × Quals)) : optUnsigned x =
    match x with
    | none => [0, 0, 0]
    | some (v, q) => u16 v ++ q.present := by
  cases x <;> rfl

/-- Table 10-12: a point entry ends with its three signed values. -/
theorem snapPointRecord_eq (p : SnapPoint) : snapPointRecord p =
    u8 p.kind.code ++ u8 (10 * p.health.code + p.phase.code) ++ optUnsigned p.rh
      ++ [p.t, p.td, p.frozen].flatMap optSigned := by
  simp [snapPointRecord]

/-- Table 10-12: a surface entry is its state byte and three signed values. -/
theorem snapSurfaceRecord_eq (r : SnapSurface) : snapSurfaceRecord r =
    u8 (r.state.code + flagBit r.live 128) ++ [r.margin, r.ts, r.td].flatMap optSigned := by
  simp [snapSurfaceRecord]

/-- R135: the eight points of a page below 3 are those from eight times its number on. -/
theorem snapPage_points (b : Snapshot) {page : Nat} (h : page < 3) :
    (b.points.toList.drop (8 * page)).take 8 =
      (List.finRange 8).map fun j => b.points[(8 * page + j.val) % 24] := by
  refine List.ext_getElem (by simp; omega) fun j hj _ => ?_
  have inPage : j < 8 := by simp at hj; omega
  have inTable : (8 * page + j) % 24 = 8 * page + j := Nat.mod_eq_of_lt (by omega)
  simp [inTable]

theorem snapPage_eq (b : Snapshot) (page : Fin 4) : snapPage b page =
    BitVec.ofNat 8 page :: (u32 b.sweep.toNat
      ++ if page = 3 then (List.finRange 16).flatMap fun i => snapSurfaceRecord b.surfaces[i]
         else (List.finRange 8).flatMap fun j => snapPointRecord b.points[(8 * page.val + j.val) % 24]) := by
  rw [snapPage]
  by_cases h : page = 3
  · subst h
    rfl
  · have below : page.val < 3 := by omega
    rw [if_neg h, if_neg below.ne, snapPage_points b below, List.flatMap_map]
    rfl

/-! ### SNAP_ARM and SNAP_READ (R133, R135) -/

section
variable {s : State} {page : Fin 4}

/-- Table 10-13: the record that answers SNAP_ARM. -/
theorem snapArmRecord_eq {w : Sweep} (h : w.arm = true) : snapArmRecord w =
    1 :: (optSweep w.snapSweep ++ u8 (boolCode w.ready) ++ optSweep (w.buffer.map Snapshot.sweep)) := by
  rw [snapArmRecord, h]
  rfl

/-- R133: SNAP_ARM arms the next sweep and is answered with the record as it then stands. -/
theorem State.answer_snapArm (htakes : s.takesOwn = true) (kind : Byte) :
    s.answer kind (snapArmRequest []) =
      State.postReply { s with sweep := { s.sweep with arm := true } } kind
        (Answer.mk .ok (snapArmRecord { s.sweep with arm := true })) :=
  State.answer_of_takes htakes _ _

theorem snapReadRequest_badState (h : s.sweep.ready = false) :
    snapReadRequest [BitVec.ofNat 8 page] s = s.refuse .badState := by
  simp [snapReadRequest, index_mod_byte page, page.isLt.not_ge, h]

theorem snapReadRequest_accepted (h : s.sweep.ready = true) {b : Snapshot} (hb : s.sweep.buffer = some b) :
    snapReadRequest [BitVec.ofNat 8 page] s = s.accept (snapPage b page) := by
  simp [snapReadRequest, index_mod_byte page, page.isLt.not_ge, h, hb]

end

/-- Settles O38: the answers by their requests, the entries byte by byte, and the completion field by field. -/
theorem snapshotArmFillAndRead : Obligations.SnapshotArmFillAndRead := by
  refine ⟨fun s htakes => ?_, fun page b s htakes => ⟨fun hready => ?_, fun hready hb => ?_⟩, fun p => ?_, fun r => ?_,
    fun _ => rfl, fun _ => rfl, fun s => ⟨s.completeSweep_inFlight, s.completeSweep_notices, fun hsnap => ?_,
      fun hother => ?_, fun o => ?_⟩⟩
  · exact congrArg _ ((State.answer_snapArm htakes _).trans (by rw [snapArmRecord_eq rfl]))
  · exact congrArg _ (State.answer_of_refuse htakes _ (snapReadRequest_badState hready))
  · rw [← snapPage_eq]
    exact congrArg _ (State.answer_of_accept htakes _ (snapReadRequest_accepted hready hb))
  · rw [snapPointRecord_eq, optUnsigned_eq]
    exact congrArg _ (List.flatMap_congr fun x _ => optSigned_eq x)
  · rw [snapSurfaceRecord_eq]
    exact congrArg _ (List.flatMap_congr fun x _ => optSigned_eq x)
  · rw [s.completeSweep_sweep rfl, if_pos hsnap]
    exact ⟨rfl, rfl, rfl⟩
  · rw [s.completeSweep_sweep rfl, if_neg hother]
  · rw [s.completeSweep_outputs]
    simp [actOn]

end Sys2Proof.Machine
end

section
/-! What a line makes of its demand (R143 to R146), the law of its held states (Table 9-5) and its minimum times (R147), line by
line. -/

namespace Sys2Proof.Machine

/-! ### A line acts on its demand (R144, R145) -/

section
variable {l : OutLine} {c : OutputCfg} {now : Nat}

/-- R143: a demand the line already holds moves nothing. -/
theorem OutLine.act_of_held {demand : Bool} (h : l.state.heldDemand = demand) : l.act c demand now = l := if_pos h.symm

theorem OutLine.act_of_appears (h : l.state.heldDemand = false) : l.act c true now = l.demandAppears c now := by
  simp [OutLine.act, h]

theorem OutLine.act_of_lost (h : l.state.heldDemand = true) : l.act c false now = l.demandLost c now := by
  simp [OutLine.act, h]

theorem OutLine.act_of_off_idle (h : l.state = .off) (hidle : l.minOff = none) : l.act c true now = l.turnOn c now := by
  rw [OutLine.act_of_appears (h ▸ rfl), OutLine.demandAppears, h, hidle]
  rfl

theorem OutLine.act_of_off_timed (h : l.state = .off) (htimed : l.minOff.isSome = true) :
    l.act c true now = { l with state := .offHeld } := by
  rw [OutLine.act_of_appears (h ▸ rfl), OutLine.demandAppears, h]
  exact if_pos htimed

theorem OutLine.act_of_onHeld (h : l.state = .onHeld) : l.act c true now = { l with state := .on } := by
  rw [OutLine.act_of_appears (h ▸ rfl), OutLine.demandAppears, h]

theorem OutLine.act_of_on_idle (h : l.state = .on) (hidle : l.minOn = none) : l.act c false now = l.turnOff c now := by
  rw [OutLine.act_of_lost (h ▸ rfl), OutLine.demandLost, h, hidle]
  rfl

theorem OutLine.act_of_on_timed (h : l.state = .on) (htimed : l.minOn.isSome = true) :
    l.act c false now = { l with state := .onHeld } := by
  rw [OutLine.act_of_lost (h ▸ rfl), OutLine.demandLost, h]
  exact if_pos htimed

theorem OutLine.act_of_offHeld (h : l.state = .offHeld) : l.act c false now = { l with state := .off } := by
  rw [OutLine.act_of_lost (h ▸ rfl), OutLine.demandLost, h]

end

/-! ### The turns of a line -/

/-- R144, R145: what one evaluation of its demand makes of a line: it stays, it changes its state on its side, a held state with
that side's timer running, or it turns with no timer of its side. -/
inductive OutLine.Acts (c : OutputCfg) (now : Nat) (l : OutLine) : OutLine → Prop where
  | stays : Acts c now l l
  | follows (state : LineState) (hside : state.isOn = l.state.isOn) (hon : state = .onHeld → l.minOn.isSome = true)
      (hoff : state = .offHeld → l.minOff.isSome = true) : Acts c now l { l with state := state }
  | turnsOn (hoff : l.state.isOn = false) (hidle : l.minOff = none) : Acts c now l (l.turnOn c now)
  | turnsOff (hon : l.state.isOn = true) (hidle : l.minOn = none) : Acts c now l (l.turnOff c now)

/-- R143: what the evaluations of one event make of a line. -/
abbrev OutLine.Course (c : OutputCfg) (now : Nat) : OutLine → OutLine → Prop := Relation.ReflTransGen (OutLine.Acts c now)

theorem OutLine.acts_of_appears (l : OutLine) (c : OutputCfg) (now : Nat) : l.Acts c now (l.act c true now) := by
  cases h : l.state with
  | off =>
    cases hminOff : l.minOff with
    | none => rw [OutLine.act_of_off_idle h hminOff]; exact .turnsOn (h ▸ rfl) hminOff
    | some e =>
      have timed : l.minOff.isSome = true := hminOff ▸ rfl
      rw [OutLine.act_of_off_timed h timed]
      exact .follows _ (h ▸ rfl) nofun fun _ => timed
  | onHeld => rw [OutLine.act_of_onHeld h]; exact .follows _ (h ▸ rfl) nofun nofun
  | on => rw [OutLine.act_of_held (h ▸ rfl)]; exact .stays
  | offHeld => rw [OutLine.act_of_held (h ▸ rfl)]; exact .stays

theorem OutLine.acts_of_lost (l : OutLine) (c : OutputCfg) (now : Nat) : l.Acts c now (l.act c false now) := by
  cases h : l.state with
  | on =>
    cases hminOn : l.minOn with
    | none => rw [OutLine.act_of_on_idle h hminOn]; exact .turnsOff (h ▸ rfl) hminOn
    | some e =>
      have timed : l.minOn.isSome = true := hminOn ▸ rfl
      rw [OutLine.act_of_on_timed h timed]
      exact .follows _ (h ▸ rfl) (fun _ => timed) nofun
  | offHeld => rw [OutLine.act_of_offHeld h]; exact .follows _ (h ▸ rfl) nofun nofun
  | off => rw [OutLine.act_of_held (h ▸ rfl)]; exact .stays
  | onHeld => rw [OutLine.act_of_held (h ▸ rfl)]; exact .stays

theorem OutLine.acts_of_act (l : OutLine) (c : OutputCfg) (demand : Bool) (now : Nat) :
    l.Acts c now (l.act c demand now) := by
  cases demand with
  | true => exact l.acts_of_appears c now
  | false => exact l.acts_of_lost c now

/-! ### Held states and timers (Table 9-5) -/

/-- Table 9-5: a held state has its timer running, and no timer of the other side runs. -/
structure OutLine.Lawful (l : OutLine) : Prop where
  onHeld : l.state = .onHeld → l.minOn.isSome = true
  offHeld : l.state = .offHeld → l.minOff.isSome = true
  on : l.state.isOn = true → l.minOff = none
  off : l.state.isOn = false → l.minOn = none

theorem State.outputLaw_iff {s : State} : s.OutputLaw ↔ ∀ o : Fin 2, (s.outputs[o]).Lawful :=
  forall_congr' fun _ => ⟨fun ⟨h1, h2, h3, h4⟩ => ⟨h1, h2, h3, h4⟩, fun ⟨h1, h2, h3, h4⟩ => ⟨h1, h2, h3, h4⟩⟩

section
variable {l l' : OutLine} {c : OutputCfg} {now : Nat}

theorem OutLine.fresh_lawful : OutLine.fresh.Lawful := ⟨nofun, nofun, nofun, fun _ => rfl⟩

theorem OutLine.turnOn_lawful (h : l.minOff = none) : (l.turnOn c now).Lawful := ⟨nofun, nofun, fun _ => h, nofun⟩

theorem OutLine.turnOff_lawful (h : l.minOn = none) : (l.turnOff c now).Lawful := ⟨nofun, nofun, nofun, fun _ => h⟩

theorem OutLine.Acts.lawful (m : l.Acts c now l') (h : l.Lawful) : l'.Lawful := by
  cases m with
  | stays => exact h
  | follows state hside hon hoff =>
    exact ⟨hon, hoff, fun hstate => h.on (hside.symm.trans hstate), fun hstate => h.off (hside.symm.trans hstate)⟩
  | turnsOn _ hidle => exact OutLine.turnOn_lawful hidle
  | turnsOff _ hidle => exact OutLine.turnOff_lawful hidle

theorem OutLine.Course.lawful (m : OutLine.Course c now l l') (h : l.Lawful) : l'.Lawful := by
  induction m with
  | refl => exact h
  | tail _ last ih => exact last.lawful ih

end

/-! ### Minimum times (R147) -/

/-- R147: what becomes of the timers of a line: a turn starts the timer of its new side, and but for its own expiry a running
timer keeps its side. -/
structure OutLine.Timed (c : OutputCfg) (now : Nat) (onExpires offExpires : Prop) (l l' : OutLine) : Prop where
  turnedOn : l.state.isOn = false → l'.state.isOn = true → l'.minOn = startTimer now c.minOn 4000000
  turnedOff : l.state.isOn = true → l'.state.isOn = false → l'.minOff = startTimer now c.minOff 4000000
  keptOn : ¬onExpires → ∀ e : Nat, l.state.isOn = true → l.minOn = some e → l'.state.isOn = true ∧ l'.minOn = some e
  keptOff : ¬offExpires → ∀ e : Nat, l.state.isOn = false → l.minOff = some e →
    l'.state.isOn = false ∧ l'.minOff = some e

section
variable {l l' m : OutLine} {c : OutputCfg} {now : Nat} {onExpires offExpires : Prop}

theorem OutLine.Timed.refl (l : OutLine) : l.Timed c now onExpires offExpires l :=
  ⟨fun hoff hon => absurd (hoff.symm.trans hon) nofun, fun hon hoff => absurd (hoff.symm.trans hon) nofun,
    fun _ _ hon he => ⟨hon, he⟩, fun _ _ hoff he => ⟨hoff, he⟩⟩

/-- A change of state on one side moves no timer. -/
theorem OutLine.Timed.tail (h : l.Timed c now onExpires offExpires m) (last : m.Acts c now l') :
    l.Timed c now onExpires offExpires l' := by
  cases last with
  | stays => exact h
  | follows state hside =>
    obtain ⟨turnedOn, turnedOff, keptOn, keptOff⟩ := h
    rw [← hside] at turnedOn turnedOff keptOn keptOff
    exact ⟨turnedOn, turnedOff, keptOn, keptOff⟩
  | turnsOn hoff hidle =>
    refine ⟨fun _ _ => rfl, fun _ => nofun, fun hlast e hon he => ?_, fun hlast e hon he => ?_⟩
    · exact absurd ((h.keptOn hlast e hon he).1.symm.trans hoff) nofun
    · exact absurd ((h.keptOff hlast e hon he).2.symm.trans hidle) nofun
  | turnsOff hon hidle =>
    refine ⟨fun _ => nofun, fun _ _ => rfl, fun hlast e hside he => ?_, fun hlast e hside he => ?_⟩
    · exact absurd ((h.keptOn hlast e hside he).2.symm.trans hidle) nofun
    · exact absurd ((h.keptOff hlast e hside he).1.symm.trans hon) nofun

theorem OutLine.Course.timed (m : OutLine.Course c now l l') : l.Timed c now onExpires offExpires l' := by
  induction m with
  | refl => exact .refl l
  | tail _ last ih => exact ih.tail last

end

/-! ### The expiries (R146) -/

section
variable {l : OutLine} {c : OutputCfg} {now : Nat}

theorem OutLine.minOnExpires_of_onHeld (h : l.state = .onHeld) :
    l.minOnExpires c now = OutLine.mk .off none (startTimer now c.minOff 4000000) := if_pos h

theorem OutLine.minOnExpires_of_other (h : l.state ≠ .onHeld) : l.minOnExpires c now = { l with minOn := none } := if_neg h

theorem OutLine.minOffExpires_of_offHeld (h : l.state = .offHeld) :
    l.minOffExpires c now = OutLine.mk .on (startTimer now c.minOn 4000000) none := if_pos h

theorem OutLine.minOffExpires_of_other (h : l.state ≠ .offHeld) : l.minOffExpires c now = { l with minOff := none } :=
  if_neg h

theorem OutLine.Lawful.minOnExpires (h : l.Lawful) : (l.minOnExpires c now).Lawful := by
  by_cases hheld : l.state = .onHeld
  · rw [OutLine.minOnExpires_of_onHeld hheld]
    exact ⟨nofun, nofun, nofun, fun _ => rfl⟩
  · rw [OutLine.minOnExpires_of_other hheld]
    exact ⟨fun hstate => absurd hstate hheld, h.offHeld, h.on, fun _ => rfl⟩

theorem OutLine.Lawful.minOffExpires (h : l.Lawful) : (l.minOffExpires c now).Lawful := by
  by_cases hheld : l.state = .offHeld
  · rw [OutLine.minOffExpires_of_offHeld hheld]
    exact ⟨nofun, nofun, fun _ => rfl, nofun⟩
  · rw [OutLine.minOffExpires_of_other hheld]
    exact ⟨h.onHeld, fun hstate => absurd hstate hheld, fun _ => rfl, h.off⟩

theorem OutLine.minOnExpires_timed {onExpires offExpires : Prop} (h : onExpires) :
    l.Timed c now onExpires offExpires (l.minOnExpires c now) := by
  by_cases hheld : l.state = .onHeld
  · rw [OutLine.minOnExpires_of_onHeld hheld]
    refine ⟨fun _ => nofun, fun _ _ => rfl, absurd h, fun _ e hoff => ?_⟩
    rw [hheld] at hoff
    cases hoff
  · rw [OutLine.minOnExpires_of_other hheld]
    exact ⟨fun hoff hon => absurd (hoff.symm.trans hon) nofun, fun hon hoff => absurd (hon.symm.trans hoff) nofun, absurd h,
      fun _ _ hoff he => ⟨hoff, he⟩⟩

theorem OutLine.minOffExpires_timed {onExpires offExpires : Prop} (h : offExpires) :
    l.Timed c now onExpires offExpires (l.minOffExpires c now) := by
  by_cases hheld : l.state = .offHeld
  · rw [OutLine.minOffExpires_of_offHeld hheld]
    refine ⟨fun _ _ => rfl, fun _ => nofun, fun _ e hon => ?_, absurd h⟩
    rw [hheld] at hon
    cases hon
  · rw [OutLine.minOffExpires_of_other hheld]
    exact ⟨fun hoff hon => absurd (hoff.symm.trans hon) nofun, fun hon hoff => absurd (hon.symm.trans hoff) nofun,
      fun _ _ hon he => ⟨hon, he⟩, absurd h⟩

end

end Sys2Proof.Machine
end

section
/-! Demand, the line states, the two timers and the pin of an output line (R143 to R146, R148). -/

namespace Sys2Proof.Machine

/-! ### Demand and pins (R143, R148) -/

theorem OutputCfg.trippedBy_iff (c : OutputCfg) (st : RiskState) : c.trippedBy st = true ↔
    st = .unknown ∧ c.unknownTrips = true
      ∨ st ≠ .unknown ∧ st ≠ .unused ∧ c.tripLevel.risk.severity ≤ st.severity := by
  cases st <;> simp [OutputCfg.trippedBy]

theorem demandOf_iff (c : OutputCfg) (surfaces : Vector SurfaceRec 16) : demandOf c surfaces = true ↔
    ∃ i : Fin 16, c.members.getLsbD i = true ∧ c.trippedBy (surfaces[i]).run.state = true := by
  simp only [demandOf, List.any_eq_true, List.mem_finRange, true_and, Bool.and_eq_true]

theorem LineState.isOn_iff (st : LineState) : st.isOn = true ↔ st = .on ∨ st = .onHeld := by cases st <;> decide

theorem LineState.not_isOn_iff (st : LineState) : (!st.isOn) = true ↔ st = .off ∨ st = .offHeld := by cases st <;> decide

theorem State.outDrive_iff {s : State} (h : s.power = .running) (o : Fin 2) : s.outDrive o = true ↔
    if (s.store.written.outputs[o]).contact = .closedOnDemand then
      (s.outputs[o]).state = .on ∨ (s.outputs[o]).state = .onHeld
    else (s.outputs[o]).state = .off ∨ (s.outputs[o]).state = .offHeld := by
  unfold State.outDrive
  rw [h]
  cases (s.store.written.outputs[o]).contact with
  | closedOnDemand => exact (LineState.isOn_iff _).trans (iff_of_eq (if_pos rfl).symm)
  | openOnDemand => exact (LineState.not_isOn_iff _).trans (iff_of_eq (if_neg nofun).symm)

/-! ### The expiries (R146) -/

section
variable {s : State} {o : Fin 2} {e : Nat}

/-- R146: at its expiry a line's min-on timer is gone, and an ON_HELD line turns off. -/
theorem State.minOnExpires_eq (s : State) (o : Fin 2) (e : Nat) : s.minOnExpires o e = { s with
    now := max s.now e
    outputs := s.outputs.set o ((s.outputs[o]).minOnExpires s.store.written.outputs[o] (max s.now e))
    capture := { s.capture with units := (s.elapseTo e).capture.units } } := by
  unfold State.minOnExpires
  rw [s.elapseTo_eq e]
  rfl

/-- R146: at its expiry a line's min-off timer is gone, and an OFF_HELD line turns on. -/
theorem State.minOffExpires_eq (s : State) (o : Fin 2) (e : Nat) : s.minOffExpires o e = { s with
    now := max s.now e
    outputs := s.outputs.set o ((s.outputs[o]).minOffExpires s.store.written.outputs[o] (max s.now e))
    capture := { s.capture with units := (s.elapseTo e).capture.units } } := by
  unfold State.minOffExpires
  rw [s.elapseTo_eq e]
  rfl

theorem exec_minOnExpiry (hpower : s.power = .running) (h : (s.outputs[o]).minOn = some e) :
    exec (.minOnExpiry o) s = .next (s.minOnExpires o e) := by
  change execMinOnExpiry o s = _
  rw [execMinOnExpiry, hpower, h]

theorem exec_minOffExpiry (hpower : s.power = .running) (h : (s.outputs[o]).minOff = some e) :
    exec (.minOffExpiry o) s = .next (s.minOffExpires o e) := by
  change execMinOffExpiry o s = _
  rw [execMinOffExpiry, hpower, h]

end

/-- Settles O47: demand member by member, each state under each demand, the two expiries, and the pin. -/
theorem outputLineTransitions : Obligations.OutputLineTransitions := by
  refine ⟨fun c surfaces => ?_, fun l c now => ?_, ?_, fun o s hpower => State.outDrive_iff hpower o⟩
  · simp only [demandOf_iff, OutputCfg.trippedBy_iff]
  · refine ⟨OutLine.act_of_off_idle, fun h htimed => OutLine.act_of_off_timed h (Option.isSome_iff_ne_none.2 htimed),
      OutLine.act_of_onHeld, ?_, OutLine.act_of_on_idle,
      fun h htimed => OutLine.act_of_on_timed h (Option.isSome_iff_ne_none.2 htimed), OutLine.act_of_offHeld, ?_⟩ <;>
    rintro (h | h) <;> exact OutLine.act_of_held (h ▸ rfl)
  · rintro o e c s hpower rfl
    exact ⟨fun h => ⟨_, exec_minOnExpiry hpower h, s.minOnExpires_eq o e⟩,
      fun h => ⟨_, exec_minOffExpiry hpower h, s.minOffExpires_eq o e⟩⟩

end Sys2Proof.Machine
end

section
/-! OUTPUT_READ and OUTPUT_WRITE (R143, R150, R151). -/

namespace Sys2Proof.Machine

/-- Table 10-13: the bytes of an output record one field after the other, its remaining times in seconds. -/
theorem outputRecord_eq (now : Nat) (o : Fin 2) (c : OutputCfg) (l : OutLine) : outputRecord now o c l =
    u8 o ++ u16 c.members.toNat ++ u8 c.tripLevel.risk.code ++ u8 (boolCode c.unknownTrips) ++ u16 c.minOn ++ u16 c.minOff
      ++ u8 c.contact.code ++ u8 l.state.code ++ u8 (boolCode l.state.heldDemand)
      ++ u8 (boolCode l.minOn.isSome) ++ u16 (remaining now l.minOn 4000000)
      ++ u8 (boolCode l.minOff.isSome) ++ u16 (remaining now l.minOff 4000000) := by
  simp only [outputRecord, timerBytes, List.append_assoc]
  rfl

section
variable {s : State} {p : List Byte} {o : Fin 2} {trip : TripLevel} {contact : ContactSense}

theorem outputReadRequest_accepted (o : Fin 2) (s : State) :
    outputReadRequest [BitVec.ofNat 8 o] s = s.accept (s.outputBytes o) := by
  simp [outputReadRequest, index_mod_byte o, o.isLt.not_ge]

/-- R150: the two times are stored as they are written when neither is above its range. -/
theorem outputCfgAt_limit_eq_iff : (outputCfgAt trip contact p).limit = outputCfgAt trip contact p ↔
    u16At p 5 ≤ 3600 ∧ u16At p 7 ≤ 3600 := by
  simp [OutputCfg.limit, outputCfgAt, limitNat]

/-- R150: an OUTPUT_WRITE that passes its checks stores the payload's configuration limited. -/
theorem outputWriteRequest_stored (hlen : p.length = 10) (hsave : s.store.saving = none) (hindex : byteAt p 0 = o)
    (htrip : tripLevelOf (byteAt p 3) = some trip) (hbool : byteAt p 4 ≤ 1)
    (hcontact : contactOf (byteAt p 9) = some contact) : outputWriteRequest p s =
      (s.writeOutput o (outputCfgAt trip contact p).limit,
        Answer.mk (if u16At p 5 ≤ 3600 ∧ u16At p 7 ≤ 3600 then .ok else .okAdjusted)
          ((s.writeOutput o (outputCfgAt trip contact p).limit).outputBytes o)) := by
  have status := writeStatus_eq ((outputCfgAt trip contact p).limit ≠ outputCfgAt trip contact p)
  rw [ite_not, if_congr outputCfgAt_limit_eq_iff rfl rfl] at status
  simp [outputWriteRequest, hlen, State.isSaving_eq_false hsave, hindex, o.isLt.not_ge, htrip, isBoolCode, hbool, hcontact,
    ← status]

end

/-- Settles O46: the record field by field; an accepted write stores, and both lines act under what is then written. -/
theorem outputRequests : Obligations.OutputRequests := by
  intro s htakes
  refine ⟨?_, ?_⟩
  · rintro o c l rfl rfl
    refine congrArg Host.Outcome.next ((State.answer_of_accept htakes 0x17 (outputReadRequest_accepted o s)).trans ?_)
    rw [State.outputBytes, outputRecord_eq]
    rfl
  · rintro p trip contact o c hsave hlen hindex htrip hbool hcontact hc
    obtain rfl : c = (outputCfgAt trip contact p).limit := hc
    refine ⟨s.writeOutput o (outputCfgAt trip contact p).limit, ?_, rfl, fun q => ?_⟩
    · refine congrArg Host.Outcome.next ((State.answer_of_takes htakes 0x16 (outputWriteRequest p)).trans ?_)
      rw [outputWriteRequest_stored hlen hsave hindex htrip hbool hcontact]
      simp [State.outputBytes, State.writeOutput]
    · simp [State.writeOutput, State.evalOutputs_outputs, actOn]

end Sys2Proof.Machine
end

section
/-! NOTICE_READ and NOTICE_DROP (R136, R138, R140). -/

namespace Sys2Proof.Machine

section
variable {b : Byte} {s : State}

/-- R138: a NOTICE_READ is limited when its count is outside 1 to 5. -/
theorem noticeCount_limited (b : Byte) :
    writeStatus (limitNat 1 5 b.toNat ≠ b.toNat) = if 1 ≤ b.toNat ∧ b.toNat ≤ 5 then .ok else .okAdjusted := by
  have : limitNat 1 5 b.toNat = b.toNat ↔ 1 ≤ b.toNat ∧ b.toNat ≤ 5 := by unfold limitNat; omega
  rw [writeStatus_eq, ite_not, if_congr this rfl rfl]

theorem noticeReadRequest_accepted : noticeReadRequest [b] s =
    (s, Answer.mk (writeStatus (limitNat 1 5 b.toNat ≠ b.toNat)) (noticeReadPayload s.notices (limitNat 1 5 b.toNat))) :=
  rfl

theorem noticeDropRequest_accepted : noticeDropRequest [b] s =
    State.accept { s with notices := s.notices.dropOldest b.toNat }
      (u8 (min b.toNat s.notices.list.length) ++ u8 (s.notices.list.length - b.toNat)) := rfl

end

/-- Settles O45: the read's count limited and its records field by field, and the drop. -/
theorem noticeReadAndDrop : Obligations.NoticeReadAndDrop := by
  rintro b q k s htakes rfl rfl
  refine ⟨congrArg Host.Outcome.next ((State.answer_of_takes htakes 0x21 (noticeReadRequest [b])).trans ?_),
    congrArg Host.Outcome.next ((State.answer_of_takes htakes 0x22 (noticeDropRequest [b])).trans ?_)⟩
  · rw [noticeReadRequest_accepted, noticeCount_limited]
    rfl
  · rw [noticeDropRequest_accepted]
    rfl

end Sys2Proof.Machine
end

section
/-! What the operations of the blocks make of the notice queue and of the output lines: notices offered, and evaluations of
demand at one instant under one configuration (R136, R143). -/

namespace Sys2Proof.Machine

/-! ### Notices offered and lines acting (R136, R143) -/

/-- The notice queue and the output lines, and what the lines' timers are started by. -/
structure OutSide where
  now     : Nat
  cfg     : Vector OutputCfg 2
  outputs : Vector OutLine 2
  notices : NoticeQueue

/-- That part of a state. -/
def State.outSide (s : State) : OutSide :=
  { now := s.now, cfg := s.store.written.outputs, outputs := s.outputs, notices := s.notices }

/-- R136, R143: from `s` to `t`, at one instant and under one configuration of the lines, notices are offered and the lines act
on demands. -/
structure State.Emits (s t : State) : Prop where
  now : t.now = s.now
  cfg : t.store.written.outputs = s.store.written.outputs
  notices : ∃ ns : List Notice, t.notices = ns.foldl NoticeQueue.arrive s.notices
  outputs : ∀ o : Fin 2, OutLine.Course s.store.written.outputs[o] s.now s.outputs[o] t.outputs[o]

namespace State.Emits
variable {s t u : State}

theorem trans (m : s.Emits t) (n : t.Emits u) : s.Emits u := by
  obtain ⟨mnow, mcfg, ⟨ms, mnotices⟩, moutputs⟩ := m
  obtain ⟨nnow, ncfg, ⟨ns, nnotices⟩, noutputs⟩ := n
  refine ⟨nnow.trans mnow, ncfg.trans mcfg, ⟨ms ++ ns, by rw [nnotices, mnotices, List.foldl_append]⟩,
    fun o => (moutputs o).trans ?_⟩
  rw [← mnow, ← mcfg]
  exact noutputs o

theorem of_notices (hnow : t.now = s.now) (hcfg : t.store.written.outputs = s.store.written.outputs)
    (houtputs : t.outputs = s.outputs) {ns : List Notice} (hnotices : t.notices = ns.foldl NoticeQueue.arrive s.notices) :
    s.Emits t :=
  ⟨hnow, hcfg, ⟨ns, hnotices⟩, fun _ => houtputs ▸ .refl⟩

theorem of_side (h : t.outSide = s.outSide) : s.Emits t := by
  simp only [State.outSide, OutSide.mk.injEq] at h
  obtain ⟨now, cfg, outputs, notices⟩ := h
  exact of_notices (ns := []) now cfg outputs notices

theorem refl (s : State) : s.Emits s := of_side rfl

/-- What leaves the lines, the notices and the clock alone adds nothing. -/
theorem frame (m : s.Emits t) (h : u.outSide = t.outSide) : s.Emits u := m.trans (of_side h)

/-- What leaves them alone beforehand adds nothing either. -/
theorem after (m : t.Emits u) (h : t.outSide = s.outSide) : s.Emits u := (of_side h).trans m

theorem offer (s : State) (ns : List Notice) : s.Emits (s.offer ns) := of_notices rfl rfl rfl rfl

theorem evalOutputs (s : State) : s.Emits s.evalOutputs := by
  refine ⟨rfl, rfl, ⟨[], rfl⟩, fun o => ?_⟩
  have acted : s.evalOutputs.outputs[o] =
      (s.outputs[o]).act s.store.written.outputs[o] (demandOf s.store.written.outputs[o] s.surfaces) s.now := by
    simp [State.evalOutputs_outputs, actOn]
  rw [acted]
  exact .single (OutLine.acts_of_act _ _ _ _)

end State.Emits

/-! ### Purges and conversions (R60, R70, R96, R99) -/

section
variable (s : State)

theorem State.serve_outSide : s.serve.1.outSide = s.outSide := by
  simp only [State.outSide, State.serve_keeps]

theorem State.arrivePurge_emits (p : Fin 24) (o : PurgeOrigin) : s.Emits (s.arrivePurge p o) :=
  (State.Emits.offer _ _).after ((s.queued p o).serve_outSide.trans rfl)

theorem State.recordPoint_emits (p : Fin 24) (new : PointRun) : s.Emits (s.recordPoint p new) :=
  (State.Emits.offer (s.setRun p new) _).after rfl

theorem State.convert_emits (p : Fin 24) : s.Emits (s.convert p) := by
  have recorded {u : State} (h : u.outSide = s.outSide) (new : PointRun) : s.Emits (u.recordPoint p new) :=
    (u.recordPoint_emits p new).after h
  cases h : s.conversion p with
  | none => exact State.convert_of_none h ▸ .of_side rfl
  | some v =>
    cases v with
    | failed cause => exact State.convert_of_failed h rfl ▸ recorded (u := s.consumedFailed p _) rfl _
    | surface t => exact State.convert_of_surface h ▸ recorded (u := s.consumed p) rfl _
    | air raw t =>
      rw [State.convert_of_air h rfl]
      have kept := recorded (u := s.consumed p) rfl ((s.points[p]).run.goodAir s.work s.sweep.number raw t).1
      split
      · exact kept.trans (State.arrivePurge_emits _ p .auto)
      · exact kept

theorem State.adoptPoints_emits : s.Emits s.adoptPoints := by
  have revised : s.pointsRevised.outSide = s.outSide := by simp only [State.outSide, State.pointsRevised]
  rw [State.adoptPoints_eq]
  exact (State.Emits.offer _ _).after (s.pointsRevised.serve_outSide.trans revised)

/-! ### Surfaces (R19, R25, R41, R43, R45) -/

theorem State.evaluated_emits : s.Emits s.evaluated := by
  refine .of_notices ?_ ?_ ?_ s.evaluated_notices
  · rw [State.evaluated, State.evaluateSurfaces_now]
  · rw [State.evaluated, State.evaluateSurfaces_store]
  · rw [State.evaluated, State.evaluateSurfaces_outputs]

theorem State.reviseSurfaces_emits (new : Vector SurfaceRec 16) (cleared : Fin 16 → Bool) :
    s.Emits (s.reviseSurfaces new cleared) :=
  .of_notices rfl rfl rfl (s.reviseSurfaces_notices new cleared)

theorem State.latchEvent_emits (f : SurfaceRec → SurfaceRec) : s.Emits (s.latchEvent f) :=
  State.latchEvent_induct (P := s.Emits) (s.reviseSurfaces_emits _ _) fun u hu => hu.trans (.evalOutputs u)

theorem State.adoptSurfaces_emits : s.Emits s.adoptSurfaces := by
  have revised := s.reviseSurfaces_emits s.surfacesRevised s.surfaceCleared
  rw [State.adoptSurfaces_eq]
  split
  · exact revised.trans (.evalOutputs _)
  · exact revised

/-! ### Sweeps (R83, R89, R122, R125, R130, R131, R134) -/

theorem State.takeSnapshot_emits : s.Emits s.takeSnapshot := by
  unfold State.takeSnapshot
  split
  · exact (State.Emits.offer s _).frame rfl
  · exact .refl s

theorem State.completeSweep_emits : s.Emits s.completeSweep :=
  (s.evaluated_emits.trans s.evaluated.takeSnapshot_emits).trans (.evalOutputs _)

theorem State.settle_emits : s.Emits s.settle := by
  have given : s.Emits s.giveJobs := .of_side rfl
  obtain ⟨e, -⟩ | ⟨e, -⟩ := s.settle_cases <;> rw [e]
  · exact given.trans s.giveJobs.completeSweep_emits
  · exact given

theorem State.startSweep_emits : s.Emits s.startSweep := by
  have begun : s.Emits s.begun := .of_side rfl
  have adopted := (begun.trans s.begun.adoptPoints_emits).trans (State.adoptSurfaces_emits _)
  exact (adopted.frame (u := s.sweepQueued) rfl).trans s.sweepQueued.settle_emits

theorem State.sweepTimerExpires_emits (t : Nat) : s.Emits (s.sweepTimerExpires t) := by
  unfold State.sweepTimerExpires
  dsimp only
  split
  · exact (State.Emits.offer _ _).after rfl
  · exact (State.startSweep_emits _).after rfl

theorem State.writeStartMode_outSide (m : SweepMode) : (s.writeStartMode m).outSide = s.outSide := by
  rw [State.writeStartMode_eq]
  rfl

theorem State.run_emits : s.Emits s.run := by
  unfold State.run
  split
  · exact .refl s
  · have written := State.Emits.of_side (s := s) ((State.writeStartMode_outSide { s with
      sweep := ({ s.sweep with mode := .continuous }).takePending.loadTimer s.now } .continuous).trans rfl)
    dsimp only
    split
    · exact written
    · exact written.trans (State.startSweep_emits _)

theorem State.stop_outSide : s.stop.outSide = s.outSide := by
  unfold State.stop
  split
  · rfl
  · exact State.writeStartMode_outSide _ _

theorem State.setInterval_outSide (v : Nat) : (s.setInterval v).outSide = s.outSide := by
  rw [State.setInterval, State.writeInterval_eq]
  rfl

/-! ### Capture and purge events (R79, R84, R85, R88, R103, R104, R106) -/

theorem State.endJob_emits (k : Fin 4) (j : Job) (o : JobOutcome) : s.Emits (s.endJob k j o) := by
  have handedOn : s.Emits (s.handOn k j o) := .of_side rfl
  have ended : s.Emits (s.jobEnded k j o) := by
    unfold State.jobEnded
    split
    · exact handedOn
    · exact handedOn.trans (State.convert_emits _ _)
  exact ended.trans (State.settle_emits _)

theorem State.risingEdge_emits (port : Fin 24) (line : PinLine) (rests : Bool) : s.Emits (s.risingEdge port line rests) := by
  obtain e | ⟨_, _, _, _, _, _, _, _, e⟩ | ⟨_, _, _, _, _, _, _, _, _, e⟩ | ⟨_, _, _, _, _, _, _, _, _, e⟩ :=
    s.risingEdge_cases port line rests <;> rw [e]
  · exact .refl s
  · exact .of_side rfl
  · exact .of_side rfl
  · exact s.endJob_emits _ _ _

theorem State.manualPurge_emits (p : Fin 24) : s.Emits (s.manualPurge p) :=
  ((s.recordPoint_emits p _).trans (State.arrivePurge_emits _ p .manual)).trans (State.settle_emits _)

theorem State.purgeExpires_emits (p : Fin 24) : s.Emits (s.purgeExpires p) := by
  have ended : s.Emits (s.purgeEnded p) := .of_side rfl
  rw [State.purgeExpires_eq]
  exact ((ended.frame (State.serve_outSide _)).trans (.offer _ _)).trans (State.settle_emits _)

theorem State.recoveryExpires_emits (p : Fin 24) : s.Emits (s.recoveryExpires p) :=
  (State.recordPoint_emits { s with purge := { s.purge with recovery := s.purge.recovery.set p none } } p _).after rfl

/-! ### Wet lines (R41, R43, R112, R115, R117, R118) -/

theorem State.clearLatch_emits (l : Fin 8) : s.Emits (s.clearLatch l) := by
  unfold State.clearLatch
  split
  · exact (State.latchEvent_emits (s.setWet l _) _).after rfl
  · exact .refl s

theorem State.enabledChanged_emits (l : Fin 8) : s.Emits (s.enabledChanged l) := by
  unfold State.enabledChanged
  split
  · exact .of_side rfl
  · exact (State.clearLatch_emits (s.setWet l _) l).after rfl

theorem State.actOnLines_emits (old : Vector Bool 8) : s.Emits (s.actOnLines old) :=
  State.actOnLines_induct (P := s.Emits) (fun u l hu => hu.trans (u.enabledChanged_emits l)) (.refl s) old

theorem State.debounceExpires_emits (l : Fin 8) : s.Emits (s.debounceExpires l) := by
  have offered : s.Emits (s.wetOffered l) := .offer s _
  rw [State.debounceExpires_eq]
  unfold State.debounceSeen
  split
  · exact .of_side rfl
  · split
    · exact offered.frame rfl
    · exact (offered.trans (State.latchEvent_emits _ _)).frame rfl

end

end Sys2Proof.Machine
end

section
/-! What the requests of the line, the bytes of a frame and the starts of the part make of the notice queue and of the output
lines. -/

namespace Sys2Proof.Machine

/-! ### Reactions -/

/-- R136, R143: from `s` to `t` time may pass and settings may be written, and then notices are offered and the lines act. -/
def State.Reacts (s t : State) : Prop := ∃ u : State, u.outputs = s.outputs ∧ u.notices = s.notices ∧ u.Emits t

/-- R141, R149, R162: at a start every line is off and the queue holds no more than the STARTUP notice, before the first sweep
may start. -/
def State.Begins (t : State) : Prop :=
  ∃ u : State, u.outputs = Vector.replicate 2 .fresh ∧ u.notices.list.length ≤ 1 ∧ u.Emits t

/-- R140: a NOTICE_DROP with the payload `p` removes the oldest notices. -/
def State.Drops (s : State) (p : List Byte) (t : State) : Prop :=
  t.outputs = s.outputs ∧ ∃ n ≤ byteAt p 0, t.notices.list = s.notices.list.drop n

namespace State.Reacts
variable {s t u : State}

theorem of_still (houtputs : t.outputs = s.outputs) (hnotices : t.notices = s.notices) : s.Reacts t :=
  ⟨t, houtputs, hnotices, .refl t⟩

theorem of_emits (m : s.Emits t) : s.Reacts t := ⟨s, rfl, rfl, m⟩

theorem refl (s : State) : s.Reacts s := .of_still rfl rfl

/-- R84, R143: time passes before the lines act. -/
theorem of_elapseTo {n : Nat} (m : (s.elapseTo n).Emits t) : s.Reacts t := ⟨s.elapseTo n, rfl, rfl, m⟩

theorem frame (m : s.Reacts t) (h : u.outSide = t.outSide) : s.Reacts u := by
  obtain ⟨v, houtputs, hnotices, m⟩ := m
  exact ⟨v, houtputs, hnotices, m.frame h⟩

theorem setPurge (m : s.Reacts t) (g : Purge) : s.Reacts { t with purge := g } := m.frame rfl

end State.Reacts

/-! ### Heaters and probe lines (R79, R84, R101) -/

section
variable (s : State)

theorem State.elapseTo_reacts (n : Nat) : s.Reacts (s.elapseTo n) := .of_elapseTo (.refl _)

theorem State.periodStarts_reacts (g : Grant) : s.Reacts (s.periodStarts g) := by
  unfold State.periodStarts
  dsimp only
  split
  · exact (s.elapseTo_reacts _).setPurge _
  · exact .refl s

theorem State.onTimeEnds_reacts (g : Grant) : s.Reacts (s.onTimeEnds g) := by
  unfold State.onTimeEnds
  dsimp only
  split
  · exact (s.elapseTo_reacts _).setPurge _
  · exact .refl s

/-- R79, R84: a run of samples passes its ticks before an edge may end a job. -/
theorem State.sampleLine_reacts {u : State} (houtputs : u.outputs = s.outputs) (hnotices : u.notices = s.notices)
    (port : Fin 24) (line : PinLine) (v : PinLevel) (n : Nat) : s.Reacts (u.sampleLine port line v n) := by
  let f := u.capture.filter line port
  let sampled := (u.elapseTo (f.endsAt u.now v n)).setFilter line port (f.sample u.now v n)
  unfold State.sampleLine
  dsimp only
  split
  · exact ⟨sampled, houtputs, hnotices, sampled.risingEdge_emits _ _ _⟩
  · exact .of_still (t := sampled) houtputs hnotices

theorem State.windowExpires_reacts (port : Fin 24) (line : PinLine) : s.Reacts (s.windowExpires port line) := by
  unfold State.windowExpires
  split
  · exact .refl s
  · split
    · exact .refl s
    · exact .of_elapseTo (State.endJob_emits _ _ _ _)
    · exact .of_elapseTo (State.endJob_emits _ _ _ _)

end

/-! ### Requests that are refused or only read (R155, R157, R158) -/

section
variable {s : State} {c : Prop} [Decidable c] {st : Status} {r : State × Answer} {handle : State → State × Answer}

theorem State.Reacts.unless (h : ¬c → s.Reacts r.1) : s.Reacts (if c then s.refuse st else r).1 :=
  kept_unless (P := s.Reacts) (.refl s) h

theorem State.Reacts.onlyIf (h : c → s.Reacts r.1) : s.Reacts (if c then r else s.refuse st).1 :=
  kept_onlyIf (P := s.Reacts) (.refl s) h

theorem State.Reacts.answer (h : s.Reacts (handle s).1) (kind : Byte) : s.Reacts (s.answer kind handle) := by
  cases htakes : s.takesOwn with
  | true => rw [State.answer_of_takes htakes]; exact h.frame rfl
  | false => rw [State.answer_of_not htakes]; exact .refl s

theorem State.Reacts.broadcast (h : s.Reacts (handle s).1) : s.Reacts (s.broadcast handle) := by
  cases hreceives : s.receives with
  | true => rw [State.broadcast_of_receives hreceives]; exact h.frame rfl
  | false => rw [State.broadcast_of_not hreceives]; exact .refl s

theorem State.Reacts.request (h : s.Reacts (handle s).1) (dest : Dest) (kind : Byte) : s.Reacts (s.request dest kind handle) := by
  cases dest with
  | own => exact h.answer kind
  | broadcast => exact h.broadcast

end

/-! ### Requests (Table 10-3) -/

section
variable (s : State) (p : List Byte)

theorem pointWriteRequest_reacts : s.Reacts (pointWriteRequest p s).1 := by
  refine .unless fun _ => .unless fun _ => .unless fun _ => ?_
  split
  · exact .refl s
  · exact .unless fun _ => .of_still rfl rfl

theorem surfaceWriteRequest_reacts : s.Reacts (surfaceWriteRequest p s).1 := by
  refine .unless fun _ => .unless fun _ => .unless fun _ => ?_
  split
  · exact .refl s
  · exact .onlyIf fun _ => .of_still rfl rfl

theorem globalWriteRequest_reacts : s.Reacts (globalWriteRequest p s).1 :=
  .unless fun _ => .unless fun _ => .onlyIf fun _ => .of_still rfl rfl

theorem outputWriteRequest_reacts : s.Reacts (outputWriteRequest p s).1 := by
  refine .unless fun _ => .unless fun _ => .unless fun _ => ?_
  split
  · exact .onlyIf fun _ => ⟨s.writeImage _, rfl, rfl, .evalOutputs _⟩
  · exact .refl s

theorem wetlineWriteRequest_reacts : s.Reacts (wetlineWriteRequest p s).1 :=
  .unless fun _ => .unless fun _ => .onlyIf fun _ => ⟨s.writeImage _, rfl, rfl, State.actOnLines_emits _ _⟩

theorem wetAckRequest_reacts : s.Reacts (wetAckRequest p s).1 :=
  .unless fun _ => .unless fun _ => .unless fun _ => .of_emits (s.clearLatch_emits _)

theorem purgeRequest_reacts : s.Reacts (purgeRequest p s).1 :=
  .unless fun _ => .unless fun _ => .onlyIf fun _ => .of_emits (s.manualPurge_emits _)

theorem State.loadImage_reacts (i : Image) : s.Reacts (s.loadImage i) := by
  rw [State.loadImage_eq]
  have acted := State.actOnLines_emits { s with store := s.store.load i } s.store.written.wet.enabled
  exact ⟨{ s with store := s.store.load i }, rfl, rfl, (acted.trans (.evalOutputs _)).frame rfl⟩

theorem loadRequest_reacts : s.Reacts (loadRequest p s).1 := by
  refine .unless fun _ => .unless fun _ => ?_
  split
  · exact .refl s
  · exact s.loadImage_reacts _

theorem saveRequest_reacts : s.Reacts (saveRequest p s).1 := .unless fun _ => .unless fun _ => .of_still rfl rfl

theorem sweepRunRequest_reacts : s.Reacts (sweepRunRequest p s).1 :=
  .unless fun _ => .unless fun _ => .of_emits s.run_emits

theorem sweepStopRequest_reacts : s.Reacts (sweepStopRequest p s).1 :=
  .unless fun _ => .unless fun _ => (State.Reacts.refl s).frame s.stop_outSide

theorem sweepOnceRequest_reacts : s.Reacts (sweepOnceRequest p s).1 :=
  .unless fun _ => .unless fun _ => .unless fun _ => .of_emits s.startSweep_emits

theorem sweepIntervalRequest_reacts : s.Reacts (sweepIntervalRequest p s).1 :=
  .unless fun _ => .unless fun _ => (State.Reacts.refl s).frame (s.setInterval_outSide _)

theorem sweepRequest_reacts : s.Reacts (sweepRequest p s).1 := by
  unfold sweepRequest
  split
  · exact .refl s
  · split
    · exact sweepRunRequest_reacts s _
    · exact sweepStopRequest_reacts s _
    · exact sweepOnceRequest_reacts s _
    · exact sweepIntervalRequest_reacts s _
    · exact .unless fun _ => .refl s

theorem snapArmRequest_reacts : s.Reacts (snapArmRequest p s).1 := .unless fun _ => .of_still rfl rfl

/-- R140: a NOTICE_DROP is refused, or removes the oldest notices. -/
theorem noticeDropRequest_drops : s.Drops p (noticeDropRequest p s).1 := by
  unfold noticeDropRequest
  split
  · exact ⟨rfl, 0, Nat.zero_le _, rfl⟩
  · exact ⟨rfl, byteAt p 0, le_rfl, rfl⟩

theorem State.answer_noticeDrop_drops (kind : Byte) : s.Drops p (s.answer kind (noticeDropRequest p)) := by
  cases htakes : s.takesOwn with
  | true => rw [State.answer_of_takes htakes]; exact noticeDropRequest_drops s p
  | false => rw [State.answer_of_not htakes]; exact ⟨rfl, 0, Nat.zero_le _, rfl⟩

end

/-! ### RESTART and the starts (R141, R149, R162, R169) -/

section
variable (s : State) (p : List Byte)

theorem State.Begins.of_fresh {t : State} (houtputs : t.outputs = Vector.replicate 2 .fresh)
    (hnotices : t.notices.list.length ≤ 1) : t.Begins := ⟨t, houtputs, hnotices, .refl t⟩

theorem State.restart_begins : s.restart.Begins := by
  rw [State.restart_eq]
  split
  · exact ⟨s.restarted, rfl, Nat.zero_le _, State.startSweep_emits _⟩
  · exact .of_fresh rfl (Nat.zero_le _)

theorem State.restartOwn_cases : s.Reacts (s.restartOwn p) ∨ (s.restartOwn p).Begins := by
  unfold State.restartOwn
  dsimp only
  split
  · split
    · exact .inr (State.restart_begins _)
    · exact .inl (.of_still rfl rfl)
  · exact .inl (.refl s)

theorem State.restartBroadcast_cases : s.Reacts (s.restartBroadcast p) ∨ (s.restartBroadcast p).Begins := by
  unfold State.restartBroadcast
  split
  · split
    · exact .inr (State.restart_begins _)
    · exact .inl (.of_still rfl rfl)
  · exact .inl (.refl s)

theorem State.startUp_begins (cause : Nat) (pins : StartPins) : (s.startUp cause pins).Begins := by
  rw [State.startUp, State.startUpOn_eq]
  split
  · exact ⟨s.startedUp cause pins _, rfl, le_rfl, State.startSweep_emits _⟩
  · exact .of_fresh rfl le_rfl

theorem State.losePower_begins (power : Power) : ({ s.losePower with power := power } : State).Begins :=
  .of_fresh rfl (Nat.zero_le _)

end

/-! ### Frames (R153 to R157) -/

/-- What a request of kind `kind` makes of the notices and the lines: it reacts, drops notices, or restarts the part. -/
def State.TakesKind (s : State) (kind : Byte) (p : List Byte) (t : State) : Prop :=
  s.Reacts t ∨ (kind.toNat = 0x22 ∧ s.Drops p t) ∨ (kind.toNat = 0x32 ∧ t.Begins)

section
variable (s : State) (kind : Byte) (p : List Byte)

theorem State.dropFrame_reacts : s.Reacts s.dropFrame := by
  unfold State.dropFrame
  split <;> exact .of_still rfl rfl

theorem State.huntByte_reacts (b : Byte) : s.Reacts (s.huntByte b) := by
  unfold State.huntByte
  split <;> exact .of_still rfl rfl

theorem State.dispatchOwn_takes : s.TakesKind kind p (s.dispatchOwn kind p) := by
  have taken {handle : State → State × Answer} (h : s.Reacts (handle s).1) : s.TakesKind kind p (s.answer kind handle) :=
    .inl (h.answer kind)
  have still : s.Reacts s := .refl s
  unfold State.dispatchOwn
  split
  · exact taken (.unless fun _ => still)
  · exact taken (.unless fun _ => still)
  · exact taken (pointWriteRequest_reacts s p)
  · exact taken (KeptByEvents.pointReadRequest (P := s.Reacts) still p)
  · exact taken (surfaceWriteRequest_reacts s p)
  · exact taken (KeptByEvents.surfaceReadRequest (P := s.Reacts) still p)
  · exact taken (globalWriteRequest_reacts s p)
  · exact taken (.unless fun _ => still)
  · exact taken (outputWriteRequest_reacts s p)
  · exact taken (.unless fun _ => .unless fun _ => still)
  · exact taken (wetlineWriteRequest_reacts s p)
  · exact taken (.unless fun _ => still)
  · exact taken (sweepRequest_reacts s p)
  · exact taken (.unless fun _ => still)
  next hkind => exact .inr (.inl ⟨hkind, s.answer_noticeDrop_drops p kind⟩)
  · exact taken (.unless fun _ => still)
  · exact taken (snapArmRequest_reacts s p)
  · exact taken (KeptByEvents.snapReadRequest (P := s.Reacts) still p)
  · exact taken (wetAckRequest_reacts s p)
  · exact taken (purgeRequest_reacts s p)
  · exact taken (saveRequest_reacts s p)
  · exact taken (loadRequest_reacts s p)
  next hkind => exact (s.restartOwn_cases p).imp_right fun h => .inr ⟨hkind, h⟩
  · exact taken still

theorem State.dispatchBroadcast_takes : s.TakesKind kind p (s.dispatchBroadcast kind p) := by
  unfold State.dispatchBroadcast
  split
  · exact .inl (sweepRequest_reacts s p).broadcast
  · exact .inl (snapArmRequest_reacts s p).broadcast
  next hkind => exact (s.restartBroadcast_cases p).imp_right fun h => .inr ⟨hkind, h⟩
  · exact .inl s.dropFrame_reacts

theorem State.judgeFrame_takes (buffer : List Byte) :
    s.TakesKind (buffer.getD 2 0) ((buffer.drop 4).take (frameLength buffer)) (s.judgeFrame buffer) := by
  unfold State.judgeFrame
  dsimp only
  split
  · exact .inl s.dropFrame_reacts
  · split
    · exact s.dispatchBroadcast_takes _ _
    · split
      · exact s.dispatchOwn_takes _ _
      · exact .inl s.dropFrame_reacts

end

/-- The payload of a frame starts with the byte behind its head. -/
theorem byteAt_take_le (p : List Byte) (n : Nat) : byteAt (p.take n) 0 ≤ byteAt p 0 := by
  cases n with
  | zero => exact Nat.zero_le _
  | succ n => cases p <;> exact le_rfl

section
variable {buffer : List Byte} {b : Byte}

theorem byteAt_append {k : Nat} (h : k < buffer.length) : byteAt (buffer ++ [b]) k = byteAt buffer k :=
  congrArg BitVec.toNat (List.getD_append _ _ _ _ h)

/-- The last byte of a frame, the second of its CRC, is not the first of its payload. -/
theorem payload_byte_le (h : (buffer ++ [b]).length = 6 + frameLength (buffer ++ [b])) :
    byteAt (((buffer ++ [b]).drop 4).take (frameLength (buffer ++ [b]))) 0 ≤ byteAt (buffer.drop 4) 0 := by
  generalize frameLength (buffer ++ [b]) = n at h ⊢
  rw [List.length_append, List.length_singleton] at h
  rw [List.drop_append_of_le_length (by omega)]
  cases n with
  | zero => exact Nat.zero_le _
  | succ n =>
    refine (byteAt_take_le _ _).trans_eq (byteAt_append ?_)
    rw [List.length_drop]
    omega

end

/-- R153, R155: what a byte makes of the notices and the lines; only the last of a frame drops notices or restarts. -/
theorem State.receiveByte_cases (s : State) (b : Byte) (silence : Nat) :
    s.Reacts (s.receiveByte b silence)
      ∨ (s.link.receiver = .frame
          ∧ ((byteAt s.link.buffer 2 = 0x22 ∧ s.Drops (s.link.buffer.drop 4) (s.receiveByte b silence))
            ∨ (byteAt s.link.buffer 2 = 0x32 ∧ (s.receiveByte b silence).Begins))) := by
  unfold State.receiveByte
  split
  · exact .inl (.refl s)
  · exact .inl (s.huntByte_reacts b)
  next hframe =>
    split
    · exact .inl (s.huntByte_reacts b)
    · unfold State.frameByte
      dsimp only
      split
      · exact .inl (.of_still rfl rfl)
      · split
        next hend =>
          obtain ⟨-, hlen⟩ := (Bool.and_eq_true _ _).mp hend
          have complete := of_decide_eq_true hlen
          have kind : ((s.link.buffer ++ [b]).getD 2 0).toNat = byteAt s.link.buffer 2 := by
            refine byteAt_append ?_
            rw [List.length_append, List.length_singleton] at complete
            omega
          refine (s.judgeFrame_takes _).imp_right fun h => ⟨hframe, h.imp ?_ ?_⟩ <;> rw [kind] <;> refine And.imp_right ?_
          · exact fun ⟨houtputs, n, hn, hlist⟩ => ⟨houtputs, n, hn.trans (payload_byte_le complete), hlist⟩
          · exact id
        next => exact .inl (.of_still rfl rfl)

end Sys2Proof.Machine
end

section
/-! What a command makes of the notice queue and of the output lines (`State.Yields`), and the laws of both that follow from it:
the minimum times of the lines (R147), and notices that leave the queue only from its head (R136, R138, R140). -/

namespace Sys2Proof.Machine

/-! ### Commands -/

/-- R140: the rows at which notices with the drop payload `p` leave the queue: NOTICE_DROP and the last byte of its frame. -/
def State.DropRow (s : State) (c : Instr) (p : List Byte) : Prop :=
  c = .noticeDrop p
    ∨ (∃ b n, c = .byteReceived b n) ∧ s.link.receiver = .frame ∧ byteAt s.link.buffer 2 = 0x22
      ∧ p = s.link.buffer.drop 4

/-- R136, R140, R143, R146, R149, R162: what a command makes of the notices and the lines: notices are offered and the lines act
on their demand, a timer of a line expires, notices are dropped, or the part starts anew. -/
inductive State.Yields (s : State) (c : Instr) (t : State) : Prop where
  | reacts (h : s.Reacts t)
  | minOnExpires (o : Fin 2) (e : Nat) (hc : c = .minOnExpiry o) (ht : t = s.minOnExpires o e)
  | minOffExpires (o : Fin 2) (e : Nat) (hc : c = .minOffExpiry o) (ht : t = s.minOffExpires o e)
  | drops (p : List Byte) (hc : c.wellFormed = true → s.DropRow c p) (h : s.Drops p t)
  | begins (hc : c.wellFormed = true → s.mayRestart c = true) (h : t.Begins)

namespace State.Yields
variable (s : State)

theorem still (c : Instr) : s.Yields c s := .reacts (.refl s)

/-! ### Supply and reset (R167, R169) -/

theorem execPowerOn (pins : StartPins) : Meets (s.Yields (.powerOn pins)) (execPowerOn pins s) := by
  unfold Machine.execPowerOn
  split
  · exact .begins (fun _ => rfl) (State.startUp_begins _ 1 pins)
  · exact .reacts (.of_still rfl rfl)
  · exact .begins (fun _ => rfl) (s.losePower_begins .held)
  · exact .begins (fun _ => rfl) (State.startUp_begins _ 1 pins)

theorem execResetPinAssert : Meets (s.Yields .resetPinAssert) (execResetPinAssert s) := by
  unfold Machine.execResetPinAssert
  split
  · exact .reacts (.of_still rfl rfl)
  · exact .reacts (.of_still rfl rfl)
  · exact still s _
  · exact still s _

theorem execResetPinRelease (pins : StartPins) :
    Meets (s.Yields (.resetPinRelease pins)) (execResetPinRelease pins s) := by
  unfold Machine.execResetPinRelease
  split
  · exact .begins (fun _ => rfl) (State.startUp_begins _ 2 pins)
  · exact .reacts (.of_still rfl rfl)
  · exact still s _
  · exact still s _

theorem execPowerLoss : Meets (s.Yields .powerLoss) (execPowerLoss s) := by
  unfold Machine.execPowerLoss
  split
  · exact still s _
  · exact still s _
  · exact .begins (fun _ => rfl) (s.losePower_begins .offHeld)
  · exact .begins (fun _ => rfl) (s.losePower_begins .off)

/-! ### The line (R153 to R157, R161, R162) -/

/-- A request row with a kind of its own; the kinds of NOTICE_DROP and of RESTART are those rows' own. -/
theorem of_takes {c : Instr} {kind : Byte} {p : List Byte} {t : State} (h : s.TakesKind kind p t)
    (hdrop : c.wellFormed = true → kind.toNat = 0x22 → c = .noticeDrop p)
    (hrestart : c.wellFormed = true → kind.toNat ≠ 0x32) : s.Yields c t := by
  obtain h | ⟨hkind, h⟩ | ⟨hkind, h⟩ := h
  · exact .reacts h
  · exact .drops p (fun hwell => .inl (hdrop hwell hkind)) h
  · exact .begins (fun hwell => absurd hkind (hrestart hwell)) h

theorem unknownKind (kind : Byte) (p : List Byte) : s.Yields (.unknownKind kind p) (s.dispatchOwn kind p) := by
  have unknown (k : Byte) (hk : k ∈ knownKinds) (hwell : (Instr.unknownKind kind p).wellFormed = true) :
      kind.toNat ≠ k.toNat := by
    rintro hkind
    obtain ⟨hkinds, -⟩ := (Bool.and_eq_true _ _).mp hwell
    rw [BitVec.eq_of_toNat_eq hkind, kindIsUnknown, List.contains_iff_mem.2 hk] at hkinds
    exact absurd hkinds nofun
  exact of_takes s (s.dispatchOwn_takes kind p) (fun hwell hkind => absurd hkind (unknown 0x22 (by decide) hwell))
    (unknown 0x32 (by decide))

theorem execRestart (dest : Dest) (p : List Byte) : Meets (s.Yields (.restart dest p)) (execRestart dest p s) := by
  have taken {t : State} (h : s.Reacts t ∨ t.Begins) : s.Yields (.restart dest p) t :=
    h.elim .reacts (.begins fun _ => rfl)
  cases dest with
  | own => exact taken (s.restartOwn_cases p)
  | broadcast => exact taken (s.restartBroadcast_cases p)

theorem execByteReceived (b : Byte) (silence : Nat) :
    Meets (s.Yields (.byteReceived b silence)) (execByteReceived b silence s) := by
  unfold Machine.execByteReceived
  split
  · obtain h | ⟨hframe, ⟨hkind, h⟩ | ⟨hkind, h⟩⟩ := s.receiveByte_cases b silence
    · exact .reacts h
    · exact .drops _ (fun _ => .inr ⟨⟨b, silence, rfl⟩, hframe, hkind, rfl⟩) h
    · exact .begins (fun _ => by simp [State.mayRestart, hframe, hkind]) h
  · exact still s _

theorem execReplyStart : Meets (s.Yields .replyStart) (execReplyStart s) := by
  unfold Machine.execReplyStart
  split <;> exact .reacts (.of_still rfl rfl)

theorem execReplyEnd : Meets (s.Yields .replyEnd) (execReplyEnd s) := by
  unfold Machine.execReplyEnd
  split <;> exact .reacts (.of_still rfl rfl)

theorem execSecondsCount : Meets (s.Yields .secondsCount) (execSecondsCount s) := by
  unfold Machine.execSecondsCount
  split <;> exact .reacts (.of_still rfl rfl)

theorem execSaveComplete (verified : Bool) : Meets (s.Yields (.saveComplete verified)) (execSaveComplete verified s) := by
  unfold Machine.execSaveComplete
  split
  next copy _ _ =>
    exact .reacts ⟨{ s with store := s.store.saved? copy verified }, rfl, rfl, .offer _ _⟩
  next => exact still s _

/-! ### Timers and probe lines -/

theorem execSweepTimerExpiry : Meets (s.Yields .sweepTimerExpiry) (execSweepTimerExpiry s) := by
  unfold Machine.execSweepTimerExpiry
  split
  · exact .reacts (.of_elapseTo (State.sweepTimerExpires_emits _ _))
  · exact still s _

theorem execHeaterPeriodStart (p : Fin 24) : Meets (s.Yields (.heaterPeriodStart p)) (execHeaterPeriodStart p s) := by
  unfold Machine.execHeaterPeriodStart
  split
  · exact .reacts (s.periodStarts_reacts _)
  · exact still s _

theorem execHeaterOnTimeEnd (p : Fin 24) : Meets (s.Yields (.heaterOnTimeEnd p)) (execHeaterOnTimeEnd p s) := by
  unfold Machine.execHeaterOnTimeEnd
  split
  · exact .reacts (s.onTimeEnds_reacts _)
  · exact still s _

theorem execPurgeTimerExpiry (p : Fin 24) : Meets (s.Yields (.purgeTimerExpiry p)) (execPurgeTimerExpiry p s) := by
  unfold Machine.execPurgeTimerExpiry
  split
  · exact .reacts (.of_elapseTo (State.purgeExpires_emits _ p))
  · exact still s _

theorem execRecoveryTimerExpiry (p : Fin 24) :
    Meets (s.Yields (.recoveryTimerExpiry p)) (execRecoveryTimerExpiry p s) := by
  unfold Machine.execRecoveryTimerExpiry
  split
  · exact .reacts (.of_elapseTo (State.recoveryExpires_emits _ p))
  · exact still s _

theorem execRawLevelChange (l : Fin 8) (ohms : Nat) : Meets (s.Yields (.rawLevelChange l ohms)) (execRawLevelChange l ohms s) := by
  unfold Machine.execRawLevelChange
  split
  · rw [State.rawChange_eq]
    exact .reacts (.of_still rfl rfl)
  · exact still s _

theorem execDebounceExpiry (l : Fin 8) : Meets (s.Yields (.debounceExpiry l)) (execDebounceExpiry l s) := by
  unfold Machine.execDebounceExpiry
  split
  · exact .reacts (.of_elapseTo (State.debounceExpires_emits _ l))
  · exact still s _

theorem execMinOnExpiry (o : Fin 2) : Meets (s.Yields (.minOnExpiry o)) (execMinOnExpiry o s) := by
  unfold Machine.execMinOnExpiry
  split
  · exact .minOnExpires o _ rfl rfl
  · exact still s _

theorem execMinOffExpiry (o : Fin 2) : Meets (s.Yields (.minOffExpiry o)) (execMinOffExpiry o s) := by
  unfold Machine.execMinOffExpiry
  split
  · exact .minOffExpires o _ rfl rfl
  · exact still s _

theorem execStartEdge (port : Fin 24) (line : PinLine) : Meets (s.Yields (.startEdge port line)) (execStartEdge port line s) := by
  unfold Machine.execStartEdge
  split
  · exact .reacts (s.sampleLine_reacts rfl rfl port line .high _)
  · exact still s _

theorem execCaptureJobComplete (port : Fin 24) (line : PinLine) (total high : Nat) :
    Meets (s.Yields (.captureJobComplete port line total high)) (execCaptureJobComplete port line total high s) := by
  unfold Machine.execCaptureJobComplete
  dsimp only
  split
  · exact .reacts (s.sampleLine_reacts (u := s.elapse _) rfl rfl port line .high _)
  · exact still s _

theorem execCaptureWindowExpiry (port : Fin 24) (line : PinLine) :
    Meets (s.Yields (.captureWindowExpiry port line)) (execCaptureWindowExpiry port line s) := by
  unfold Machine.execCaptureWindowExpiry
  split
  · exact .reacts (s.windowExpires_reacts port line)
  · exact still s _

theorem execFilteredLevelChange (port : Fin 24) (line : PinLine) (samples : SampleRun) :
    Meets (s.Yields (.filteredLevelChange port line samples)) (execFilteredLevelChange port line samples s) := by
  unfold Machine.execFilteredLevelChange
  split
  · exact .reacts (s.sampleLine_reacts rfl rfl port line _ _)
  · exact still s _

/-! ### Every command -/

theorem exec (i : Instr) : Meets (s.Yields i) (exec i s) := by
  have own {c : Instr} {p : List Byte} (kind : Byte) (hkind : kind.toNat ≠ 0x22 ∧ kind.toNat ≠ 0x32) :
      s.Yields c (s.dispatchOwn kind p) :=
    of_takes s (s.dispatchOwn_takes kind p) (fun _ h => absurd h hkind.1) fun _ => hkind.2
  cases i with
  | powerOn pins => exact execPowerOn s pins
  | resetPinAssert => exact execResetPinAssert s
  | resetPinRelease pins => exact execResetPinRelease s pins
  | powerLoss => exact execPowerLoss s
  | ident p => exact own 0x01 (by decide)
  | status p => exact own 0x02 (by decide)
  | pointWrite p => exact own 0x10 (by decide)
  | pointRead p => exact own 0x11 (by decide)
  | surfaceWrite p => exact own 0x12 (by decide)
  | surfaceRead p => exact own 0x13 (by decide)
  | globalWrite p => exact own 0x14 (by decide)
  | globalRead p => exact own 0x15 (by decide)
  | outputWrite p => exact own 0x16 (by decide)
  | outputRead p => exact own 0x17 (by decide)
  | wetlineWrite p => exact own 0x18 (by decide)
  | wetlineRead p => exact own 0x19 (by decide)
  | noticeRead p => exact own 0x21 (by decide)
  | noticeDrop p => exact .drops p (fun _ => .inl rfl) (s.answer_noticeDrop_drops p 0x22)
  | rankRead p => exact own 0x23 (by decide)
  | snapRead p => exact own 0x25 (by decide)
  | wetAck p => exact own 0x26 (by decide)
  | purge p => exact own 0x27 (by decide)
  | save p => exact own 0x30 (by decide)
  | load p => exact own 0x31 (by decide)
  | unknownKind kind p => exact unknownKind s kind p
  | sweepRun dest r => exact .reacts ((sweepRunRequest_reacts s r).request dest _)
  | sweepStop dest r => exact .reacts ((sweepStopRequest_reacts s r).request dest _)
  | sweepOnce dest r => exact .reacts ((sweepOnceRequest_reacts s r).request dest _)
  | sweepInterval dest r => exact .reacts ((sweepIntervalRequest_reacts s r).request dest _)
  | snapArm dest p => exact .reacts ((snapArmRequest_reacts s p).request dest _)
  | restart dest p => exact execRestart s dest p
  | frameDiscard cause => exact .reacts s.dropFrame_reacts
  | frameAbandon cause => exact .reacts s.dropFrame_reacts
  | byteReceived b silence => exact execByteReceived s b silence
  | replyStart => exact execReplyStart s
  | replyEnd => exact execReplyEnd s
  | secondsCount => exact execSecondsCount s
  | sweepTimerExpiry => exact execSweepTimerExpiry s
  | startEdge port line => exact execStartEdge s port line
  | captureJobComplete port line total high => exact execCaptureJobComplete s port line total high
  | captureWindowExpiry port line => exact execCaptureWindowExpiry s port line
  | filteredLevelChange port line samples => exact execFilteredLevelChange s port line samples
  | heaterPeriodStart port => exact execHeaterPeriodStart s port
  | heaterOnTimeEnd port => exact execHeaterOnTimeEnd s port
  | purgeTimerExpiry port => exact execPurgeTimerExpiry s port
  | recoveryTimerExpiry port => exact execRecoveryTimerExpiry s port
  | rawLevelChange l ohms => exact execRawLevelChange s l ohms
  | debounceExpiry l => exact execDebounceExpiry s l
  | minOnExpiry o => exact execMinOnExpiry s o
  | minOffExpiry o => exact execMinOffExpiry s o
  | saveComplete verified => exact execSaveComplete s verified

variable {s}

theorem of_exec {c : Instr} {t : State} (h : Machine.exec c s = .next t) : s.Yields c t := by
  have met := exec s c
  rwa [h] at met

end State.Yields

/-- A law of the notices and the lines that the yields of every command keep is kept by every step. -/
theorem step_keeps {P : State → Prop} (hside : ∀ s t : State, P s → t.outputs = s.outputs → t.notices = s.notices → P t)
    (hyields : ∀ (c : Instr) (s t : State), P s → s.Yields c t → P t) {s t : State} (h : P s) (hstep : step s = .next t) :
    P t := by
  unfold step at hstep
  split at hstep
  next =>
    cases hstep
    refine hside s _ h ?_ ?_ <;> unfold State.tick <;> split <;> rfl
  next i rest _ =>
    have m := State.Yields.of_exec hstep
    exact hyields i { s with pending := rest } t (hside s _ h rfl rfl) m

/-! ### Minimum times (R147) -/

section
variable {s t : State} {c : Instr}

/-- R147: the lines react at the clock and under the configuration that the command leaves. -/
theorem State.Reacts.course (h : s.Reacts t) (o : Fin 2) :
    OutLine.Course t.store.written.outputs[o] t.now s.outputs[o] t.outputs[o] := by
  obtain ⟨u, houtputs, -, now, cfg, -, outputs⟩ := h
  rw [now, cfg, ← houtputs]
  exact outputs o

theorem getElem_set_output {lines : Vector OutLine 2} {l : OutLine} {q o : Fin 2} :
    (lines.set q l)[o] = if o = q then l else lines[o] := by
  simp [Vector.getElem_set, Fin.ext_iff, eq_comm]

theorem State.minOnExpires_line (s : State) (q : Fin 2) (e : Nat) (o : Fin 2) : (s.minOnExpires q e).outputs[o] =
    if o = q then (s.outputs[q]).minOnExpires s.store.written.outputs[q] (s.minOnExpires q e).now else s.outputs[o] :=
  getElem_set_output

theorem State.minOffExpires_line (s : State) (q : Fin 2) (e : Nat) (o : Fin 2) : (s.minOffExpires q e).outputs[o] =
    if o = q then (s.outputs[q]).minOffExpires s.store.written.outputs[q] (s.minOffExpires q e).now else s.outputs[o] :=
  getElem_set_output

theorem State.Begins.outputLaw (h : t.Begins) : t.OutputLaw := by
  obtain ⟨u, fresh, -, -, -, -, outputs⟩ := h
  refine State.outputLaw_iff.2 fun o => (outputs o).lawful ?_
  have line : u.outputs[o] = .fresh := by simp [fresh]
  exact line ▸ OutLine.fresh_lawful

theorem State.Yields.outputLaw (m : s.Yields c t) (h : s.OutputLaw) : t.OutputLaw := by
  have lines := State.outputLaw_iff.1 h
  cases m with
  | reacts h => exact State.outputLaw_iff.2 fun o => (h.course o).lawful (lines o)
  | minOnExpires q e hc ht =>
    subst ht
    refine State.outputLaw_iff.2 fun o => ?_
    rw [State.minOnExpires_line]
    split
    · exact (lines q).minOnExpires
    · exact lines o
  | minOffExpires q e hc ht =>
    subst ht
    refine State.outputLaw_iff.2 fun o => ?_
    rw [State.minOffExpires_line]
    split
    · exact (lines q).minOffExpires
    · exact lines o
  | drops p hc h =>
    obtain ⟨houtputs, -⟩ := h
    exact State.outputLaw_iff.2 fun o => houtputs ▸ lines o
  | begins hc h => exact h.outputLaw

/-- R147: but at a new start each line keeps its minimum times. -/
theorem State.Yields.timed (m : s.Yields c t) (hwell : c.wellFormed = true) (hrestart : s.mayRestart c = false) (o : Fin 2) :
    (s.outputs[o]).Timed t.store.written.outputs[o] t.now (c = .minOnExpiry o) (c = .minOffExpiry o) t.outputs[o] := by
  cases m with
  | reacts h => exact (h.course o).timed
  | minOnExpires q e hc ht =>
    subst ht
    rw [State.minOnExpires_line]
    split
    next hq =>
      subst hq hc
      exact OutLine.minOnExpires_timed rfl
    next => exact .refl _
  | minOffExpires q e hc ht =>
    subst ht
    rw [State.minOffExpires_line]
    split
    next hq =>
      subst hq hc
      exact OutLine.minOffExpires_timed rfl
    next => exact .refl _
  | drops p hc h =>
    obtain ⟨houtputs, -⟩ := h
    rw [houtputs]
    exact .refl _
  | begins hc h => exact absurd (hrestart.symm.trans (hc hwell)) nofun

end

/-- Settles O48: what each command makes of a line keeps the law of its held states, and but at a new start its times. -/
theorem outputLineKeepsMinimumTimes : Obligations.OutputLineKeepsMinimumTimes := by
  refine ⟨fun s t h hstep => step_keeps (fun s t h houtputs _ o => houtputs ▸ h o) (fun c s t h m => m.outputLaw h) h hstep,
    fun c s t o hwell hrestart hexec => ?_⟩
  obtain ⟨turnedOn, turnedOff, keptOn, keptOff⟩ := (State.Yields.of_exec hexec).timed hwell hrestart o
  refine ⟨fun hon hrunning hoff => ?_, fun hoff hrunning hon => ?_, turnedOn, turnedOff, fun e hon he hc => keptOn hc e hon he,
    fun e hoff he hc => keptOff hc e hoff he⟩
  · by_contra hc
    obtain ⟨e, he⟩ := Option.ne_none_iff_exists'.1 hrunning
    exact absurd ((keptOn hc e hon he).1.symm.trans hoff) nofun
  · by_contra hc
    obtain ⟨e, he⟩ := Option.ne_none_iff_exists'.1 hrunning
    exact absurd ((keptOff hc e hoff he).1.symm.trans hon) nofun

/-! ### The notice queue (R136, R138, R140) -/

section
variable {s t : State} {c : Instr}

theorem NoticeQueue.arriveAll_length_le (ns : List Notice) {q : NoticeQueue} (h : q.list.length ≤ 32) :
    (ns.foldl NoticeQueue.arrive q).list.length ≤ 32 := by
  induction ns generalizing q with
  | nil => exact h
  | cons n ns ih => exact ih (NoticeQueue.arrive_length_le h n)

/-- R136: a notice that arrives joins the tail of the queue or is lost. -/
theorem NoticeQueue.arriveAll_extends (ns : List Notice) (q : NoticeQueue) :
    q.list <+: (ns.foldl NoticeQueue.arrive q).list := by
  induction ns generalizing q with
  | nil => exact ⟨[], List.append_nil _⟩
  | cons n ns ih =>
    refine List.IsPrefix.trans ?_ (ih (q.arrive n))
    obtain ⟨-, e⟩ | ⟨-, e⟩ := q.arrive_cases n
    · exact e ▸ ⟨[n], rfl⟩
    · exact e ▸ ⟨[], List.append_nil _⟩

theorem State.Reacts.notices (h : s.Reacts t) : ∃ ns : List Notice, t.notices = ns.foldl NoticeQueue.arrive s.notices := by
  obtain ⟨u, -, hnotices, m⟩ := h
  exact hnotices ▸ m.notices

theorem State.Yields.noticeLaw (m : s.Yields c t) (h : s.NoticeLaw) : t.NoticeLaw := by
  unfold State.NoticeLaw at h ⊢
  cases m with
  | reacts hreacts =>
    obtain ⟨ns, hns⟩ := hreacts.notices
    exact hns ▸ NoticeQueue.arriveAll_length_le ns h
  | minOnExpires o e hc ht => exact ht ▸ h
  | minOffExpires o e hc ht => exact ht ▸ h
  | drops p hc hdrops =>
    obtain ⟨-, n, -, hlist⟩ := hdrops
    rw [hlist, List.length_drop]
    omega
  | begins hc hbegins =>
    obtain ⟨u, -, hfew, m⟩ := hbegins
    obtain ⟨ns, hns⟩ := m.notices
    exact hns ▸ NoticeQueue.arriveAll_length_le ns (hfew.trans (by decide))

end

/-- Settles O53: what each command makes of the queue keeps its bound, and only a drop removes notices, from the head. -/
theorem noticesLeaveOnlyFromTheHead : Obligations.NoticesLeaveOnlyFromTheHead := by
  refine ⟨fun s t h hstep => step_keeps (P := State.NoticeLaw)
    (fun s t h _ hnotices => (congrArg (fun q => q.list.length) hnotices).trans_le h) (fun c s t h m => m.noticeLaw h) h hstep,
    fun c s t hwell hrestart hexec => ?_⟩
  cases State.Yields.of_exec hexec with
  | reacts h =>
    obtain ⟨ns, hns⟩ := h.notices
    exact .inr (hns ▸ NoticeQueue.arriveAll_extends ns s.notices)
  | minOnExpires o e hc ht => exact .inr (ht ▸ ⟨[], List.append_nil _⟩)
  | minOffExpires o e hc ht => exact .inr (ht ▸ ⟨[], List.append_nil _⟩)
  | drops p hc h =>
    obtain ⟨-, n, hn, hlist⟩ := h
    exact .inl ⟨p, hc hwell, n, hn, hlist⟩
  | begins hc h => exact absurd (hrestart.symm.trans (hc hwell)) nofun

end Sys2Proof.Machine
end

section
/-! What the operations of the blocks do does not depend on the link controller, and leaves it alone (R152 to R157). -/

namespace Sys2Proof.Machine

/-- The state with another link controller. -/
def State.withLink (s : State) (k : Link) : State := { s with link := k }

/-- A result with another link controller in its state. -/
def relink {α : Type} (k : Link) (r : State × α) : State × α := (r.1.withLink k, r.2)

section
variable {s : State} {k : Link}

/-- Two branches under one condition, each with the other link controller. -/
theorem State.ite_withLink {c : Prop} [Decidable c] {a b a' b' : State} (ha : a' = a.withLink k) (hb : b' = b.withLink k) :
    (if c then a' else b') = (if c then a else b).withLink k := by
  rw [ha, hb]
  exact (apply_ite (State.withLink · k) _ _ _).symm

/-- The same of two results. -/
theorem ite_relink {α : Type} {c : Prop} [Decidable c] {a b a' b' : State × α} (ha : a' = relink k a) (hb : b' = relink k b) :
    (if c then a' else b') = relink k (if c then a else b) := by
  rw [ha, hb]
  exact (apply_ite (relink k) _ _ _).symm

end

section
variable (s : State) (k : Link)

@[simp] theorem State.withLink_link : (s.withLink k).link = k := rfl
@[simp] theorem State.withLink_store : (s.withLink k).store = s.store := rfl
@[simp] theorem State.withLink_points : (s.withLink k).points = s.points := rfl
@[simp] theorem State.withLink_purge : (s.withLink k).purge = s.purge := rfl
@[simp] theorem State.withLink_surfaces : (s.withLink k).surfaces = s.surfaces := rfl
@[simp] theorem State.withLink_sweep : (s.withLink k).sweep = s.sweep := rfl

/-! ### Notices and output lines (R136, R143) -/

theorem State.offer_withLink (ns : List Notice) : (s.withLink k).offer ns = (s.offer ns).withLink k := rfl
theorem State.evalOutputs_withLink : (s.withLink k).evalOutputs = s.evalOutputs.withLink k := rfl

/-! ### Purges (R99, R106) -/

theorem State.serveOne_withLink : (s.withLink k).serveOne = relink k s.serveOne := by
  simp only [State.serveOne, State.withLink_purge]
  cases s.purge.queue with
  | nil => rfl
  | cons e rest => exact ite_relink rfl rfl

theorem State.serve_withLink : (s.withLink k).serve = relink k s.serve := by
  simp only [State.serve, State.serveOne_withLink, relink]

theorem State.arrivePurge_withLink (p : Fin 24) (o : PurgeOrigin) :
    (s.withLink k).arrivePurge p o = (s.arrivePurge p o).withLink k :=
  congrArg (fun r => r.1.offer (bySubject r.2)) ((s.queued p o).serve_withLink k)

theorem State.adoptPoints_withLink : (s.withLink k).adoptPoints = s.adoptPoints.withLink k :=
  congrArg (fun r => r.1.offer (bySubject (s.adoptionNotices ++ r.2))) (s.pointsRevised.serve_withLink k)

/-! ### Surfaces and wet lines (R19, R25, R41, R43, R118) -/

theorem State.evaluated_withLink : (s.withLink k).evaluated = s.evaluated.withLink k := by
  simp only [State.evaluated, State.evaluateSurfaces, State.withLink_sweep, State.withLink_points, State.withLink_surfaces,
    State.offer_withLink]
  generalize s.offer _ = u
  rfl

theorem State.reviseSurfaces_withLink (new : Vector SurfaceRec 16) (cleared : Fin 16 → Bool) :
    (s.withLink k).reviseSurfaces new cleared = (s.reviseSurfaces new cleared).withLink k := rfl

theorem State.adoptSurfaces_withLink : (s.withLink k).adoptSurfaces = s.adoptSurfaces.withLink k := by
  have table : (s.withLink k).surfacesRevised = s.surfacesRevised := rfl
  have cleared : (s.withLink k).surfaceCleared = s.surfaceCleared := rfl
  rw [State.adoptSurfaces_eq, State.adoptSurfaces_eq, table, cleared, State.reviseSurfaces_withLink]
  exact ite_withLink rfl rfl

theorem State.latchEvent_withLink (f : SurfaceRec → SurfaceRec) :
    (s.withLink k).latchEvent f = (s.latchEvent f).withLink k := by
  simp only [State.latchEvent, State.reviseSurfaces_withLink, State.evalOutputs_withLink]
  exact ite_withLink rfl rfl

theorem State.clearLatch_withLink (l : Fin 8) : (s.withLink k).clearLatch l = (s.clearLatch l).withLink k := by
  unfold State.clearLatch
  exact ite_withLink (State.latchEvent_withLink (s.setWet l _) k _) rfl

theorem State.enabledChanged_withLink (l : Fin 8) : (s.withLink k).enabledChanged l = (s.enabledChanged l).withLink k := by
  unfold State.enabledChanged
  exact ite_withLink rfl (State.clearLatch_withLink (s.setWet l _) k l)

theorem State.actOnLines_withLink (old : Vector Bool 8) : (s.withLink k).actOnLines old = (s.actOnLines old).withLink k := by
  unfold State.actOnLines
  induction List.finRange 8 generalizing s with
  | nil => rfl
  | cons l ls ih =>
    rw [List.foldl_cons, List.foldl_cons, ← ih]
    exact congrArg (fun u => ls.foldl _ u) (ite_withLink rfl (s.enabledChanged_withLink k l))

/-! ### Sweeps (R83, R89, R125 to R132) -/

theorem State.takeSnapshot_withLink : (s.withLink k).takeSnapshot = s.takeSnapshot.withLink k := by
  unfold State.takeSnapshot
  exact ite_withLink rfl rfl

theorem State.completeSweep_withLink : (s.withLink k).completeSweep = s.completeSweep.withLink k := by
  rw [State.completeSweep_eq, State.completeSweep_eq, State.evaluated_withLink, State.takeSnapshot_withLink,
    State.evalOutputs_withLink]

theorem State.settle_withLink : (s.withLink k).settle = s.settle.withLink k := by
  unfold State.settle
  exact ite_withLink (s.giveJobs.completeSweep_withLink k) rfl

theorem State.startSweep_withLink : (s.withLink k).startSweep = s.startSweep.withLink k := by
  have queued : (s.withLink k).sweepQueued = s.sweepQueued.withLink k := by
    change (s.begun.withLink k).adoptPoints.adoptSurfaces.adoptCapture.buildJobs = _
    rw [State.adoptPoints_withLink, State.adoptSurfaces_withLink]
    rfl
  exact (congrArg State.settle queued).trans (s.sweepQueued.settle_withLink k)

theorem State.restart_withLink : (s.withLink k).restart = s.restart.withLink k := by
  rw [State.restart_eq, State.restart_eq]
  exact ite_withLink (s.restarted.startSweep_withLink k) rfl

theorem State.writeStartMode_withLink (m : SweepMode) : (s.withLink k).writeStartMode m = (s.writeStartMode m).withLink k := by
  unfold State.writeStartMode
  exact ite_withLink rfl rfl

theorem State.setInterval_withLink (v : Nat) : (s.withLink k).setInterval v = (s.setInterval v).withLink k := by
  unfold State.setInterval State.writeInterval
  exact ite_withLink rfl rfl

theorem State.run_withLink : (s.withLink k).run = s.run.withLink k := by
  simp only [State.run, State.withLink_sweep]
  cases s.sweep.mode with
  | continuous => rfl
  | stopped =>
    have written := State.writeStartMode_withLink { s with
      sweep := ({ s.sweep with mode := .continuous }).takePending.loadTimer s.now } k .continuous
    exact ite_withLink written ((congrArg State.startSweep written).trans (State.startSweep_withLink _ k))

theorem State.stop_withLink : (s.withLink k).stop = s.stop.withLink k := by
  simp only [State.stop, State.withLink_sweep]
  cases s.sweep.mode with
  | stopped => rfl
  | continuous =>
    exact State.writeStartMode_withLink { s with sweep := { s.sweep with mode := .stopped, timer := none } } k .stopped

theorem State.manualPurge_withLink (p : Fin 24) : (s.withLink k).manualPurge p = (s.manualPurge p).withLink k := by
  have arrived := State.arrivePurge_withLink (s.recordPoint p (s.points[p]).run.asked) k p .manual
  exact (congrArg State.settle arrived).trans (State.settle_withLink _ k)

theorem State.loadImage_withLink (i : Image) : (s.withLink k).loadImage i = (s.loadImage i).withLink k := by
  have acted : (s.withLink k).storedAndActedOn (s.store.load i) = (s.storedAndActedOn (s.store.load i)).withLink k :=
    State.actOnLines_withLink { s with store := s.store.load i } k _
  rw [State.loadImage_eq, State.loadImage_eq, State.withLink_store, acted, State.evalOutputs_withLink]
  rfl

end

/-! ### Requests (R155, R158) -/

/-- What a request comes to with another link controller (`r'`) and as the state stands (`r`): the same, and a refusal leaves
everything as it was (Table 10-4: the statuses from 2 on). -/
structure State.Treats (s : State) (k : Link) (r' r : State × Answer) : Prop where
  same : r' = relink k r
  whole : 2 ≤ r.2.status.code → r = s.refuse r.2.status

theorem writeStatus_code_lt (limited : Bool) : (writeStatus limited).code < 2 := by
  cases limited <;> decide

section
variable {s : State} {k : Link} {r' r : State × Answer}

theorem State.Treats.refused (st : Status) : s.Treats k ((s.withLink k).refuse st) (s.refuse st) := ⟨rfl, fun _ => rfl⟩

theorem State.Treats.limited (h : r' = relink k r) (hok : r.2.status.code < 2) : s.Treats k r' r :=
  ⟨h, fun hrefused => absurd hok (by omega)⟩

theorem State.Treats.accepted (h : r' = relink k r) (hok : r.2.status = .ok) : s.Treats k r' r :=
  .limited h (by rw [hok]; decide)

theorem State.Treats.read (payload : List Byte) : s.Treats k ((s.withLink k).accept payload) (s.accept payload) :=
  .accepted rfl rfl

/-- R124: a SWEEP that is accepted. -/
theorem State.Treats.swept {u u' : State} {st : Status} (h : u' = u.withLink k) (hok : st.code < 2) :
    s.Treats k (u'.sweepAnswer st) (u.sweepAnswer st) :=
  .limited (h ▸ rfl) hok

theorem State.Treats.unless {c : Prop} [Decidable c] {st : Status} (h : ¬c → s.Treats k r' r) :
    s.Treats k (if c then (s.withLink k).refuse st else r') (if c then s.refuse st else r) := by
  split
  · exact .refused st
  · exact h (by assumption)

theorem State.Treats.onlyIf {c : Prop} [Decidable c] {st : Status} (h : c → s.Treats k r' r) :
    s.Treats k (if c then r' else (s.withLink k).refuse st) (if c then r else s.refuse st) := by
  split
  · exact h (by assumption)
  · exact .refused st

end

section
variable (s : State) (k : Link) (p : List Byte)

/-- R160: IDENT reads the address. -/
theorem identRequest_treats (haddress : k.address = s.link.address) :
    s.Treats k (identRequest p (s.withLink k)) (identRequest p s) := by
  refine .unless fun _ => ?_
  rw [State.withLink_link, haddress]
  exact .read _

/-- R161: STATUS reads the seconds. -/
theorem statusRequest_treats (hseconds : k.seconds = s.link.seconds) :
    s.Treats k (statusRequest p (s.withLink k)) (statusRequest p s) := by
  have payload : (s.withLink k).statusPayload = s.statusPayload := by
    simp only [State.statusPayload, State.withLink_link, State.withLink_sweep, State.withLink_purge, hseconds]
  refine .unless fun _ => ?_
  rw [payload]
  exact .read _

theorem pointWriteRequest_treats : s.Treats k (pointWriteRequest p (s.withLink k)) (pointWriteRequest p s) := by
  refine .unless fun _ => .unless fun _ => .unless fun _ => ?_
  cases pointKindOf (byteAt p 1) with
  | none => exact .refused _
  | some kind => exact .unless fun _ => .limited rfl (writeStatus_code_lt _)

theorem pointReadRequest_treats : s.Treats k (pointReadRequest p (s.withLink k)) (pointReadRequest p s) := by
  refine .unless fun _ => .unless fun _ => ?_
  dsimp only
  split
  · exact .read _
  · exact .read _
  · exact .read _
  · exact .refused _

theorem surfaceWriteRequest_treats : s.Treats k (surfaceWriteRequest p (s.withLink k)) (surfaceWriteRequest p s) := by
  refine .unless fun _ => .unless fun _ => .unless fun _ => ?_
  cases combineModeOf (byteAt p 12) with
  | none => exact .refused _
  | some mode => exact .onlyIf fun _ => .limited rfl (writeStatus_code_lt _)

theorem surfaceReadRequest_treats : s.Treats k (surfaceReadRequest p (s.withLink k)) (surfaceReadRequest p s) := by
  refine .unless fun _ => .unless fun _ => ?_
  dsimp only
  split
  · exact .read _
  · exact .read _
  · exact .read _
  · exact .refused _

theorem globalWriteRequest_treats : s.Treats k (globalWriteRequest p (s.withLink k)) (globalWriteRequest p s) :=
  .unless fun _ => .unless fun _ => .onlyIf fun _ => .limited rfl (writeStatus_code_lt _)

theorem globalReadRequest_treats : s.Treats k (globalReadRequest p (s.withLink k)) (globalReadRequest p s) :=
  .unless fun _ => .read _

theorem outputWriteRequest_treats : s.Treats k (outputWriteRequest p (s.withLink k)) (outputWriteRequest p s) := by
  refine .unless fun _ => .unless fun _ => .unless fun _ => ?_
  cases tripLevelOf (byteAt p 3) with
  | none => exact .refused _
  | some trip =>
    cases contactOf (byteAt p 9) with
    | none => exact .refused _
    | some contact => exact .onlyIf fun _ => .limited rfl (writeStatus_code_lt _)

theorem outputReadRequest_treats : s.Treats k (outputReadRequest p (s.withLink k)) (outputReadRequest p s) :=
  .unless fun _ => .unless fun _ => .read _

theorem wetlineWriteRequest_treats : s.Treats k (wetlineWriteRequest p (s.withLink k)) (wetlineWriteRequest p s) :=
  .unless fun _ => .unless fun _ => .onlyIf fun _ =>
    .limited (congrArg (·, _) (State.actOnLines_withLink (s.writeImage _) k _)) (writeStatus_code_lt _)

theorem wetlineReadRequest_treats : s.Treats k (wetlineReadRequest p (s.withLink k)) (wetlineReadRequest p s) :=
  .unless fun _ => .read _

theorem sweepRunRequest_treats : s.Treats k (sweepRunRequest p (s.withLink k)) (sweepRunRequest p s) :=
  .unless fun _ => .unless fun _ => .swept (s.run_withLink k) Nat.zero_lt_two

theorem sweepStopRequest_treats : s.Treats k (sweepStopRequest p (s.withLink k)) (sweepStopRequest p s) :=
  .unless fun _ => .unless fun _ => .swept (s.stop_withLink k) Nat.zero_lt_two

theorem sweepOnceRequest_treats : s.Treats k (sweepOnceRequest p (s.withLink k)) (sweepOnceRequest p s) :=
  .unless fun _ => .unless fun _ => .unless fun _ => .swept (s.startSweep_withLink k) Nat.zero_lt_two

theorem sweepIntervalRequest_treats : s.Treats k (sweepIntervalRequest p (s.withLink k)) (sweepIntervalRequest p s) :=
  .unless fun _ => .unless fun _ => .swept (s.setInterval_withLink k _) (writeStatus_code_lt _)

theorem sweepRequest_treats : s.Treats k (sweepRequest p (s.withLink k)) (sweepRequest p s) := by
  cases p with
  | nil => exact .refused _
  | cons action rest =>
    dsimp only [sweepRequest]
    split
    · exact sweepRunRequest_treats s k rest
    · exact sweepStopRequest_treats s k rest
    · exact sweepOnceRequest_treats s k rest
    · exact sweepIntervalRequest_treats s k rest
    · exact .unless fun _ => .refused _

theorem noticeReadRequest_treats : s.Treats k (noticeReadRequest p (s.withLink k)) (noticeReadRequest p s) :=
  .unless fun _ => .limited rfl (writeStatus_code_lt _)

theorem noticeDropRequest_treats : s.Treats k (noticeDropRequest p (s.withLink k)) (noticeDropRequest p s) :=
  .unless fun _ => .accepted rfl rfl

theorem rankReadRequest_treats : s.Treats k (rankReadRequest p (s.withLink k)) (rankReadRequest p s) :=
  .unless fun _ => .read _

theorem snapArmRequest_treats : s.Treats k (snapArmRequest p (s.withLink k)) (snapArmRequest p s) :=
  .unless fun _ => .accepted rfl rfl

theorem snapReadRequest_treats : s.Treats k (snapReadRequest p (s.withLink k)) (snapReadRequest p s) := by
  refine .unless fun _ => .unless fun _ => ?_
  rw [State.withLink_sweep]
  split
  · exact .read _
  · exact .refused _

theorem wetAckRequest_treats : s.Treats k (wetAckRequest p (s.withLink k)) (wetAckRequest p s) := by
  refine .unless fun _ => .unless fun _ => .unless fun _ => .accepted ?_ rfl
  rw [State.clearLatch_withLink]
  rfl

theorem purgeRequest_treats : s.Treats k (purgeRequest p (s.withLink k)) (purgeRequest p s) := by
  refine .unless fun _ => .unless fun _ => .onlyIf fun _ => .accepted ?_ rfl
  rw [State.manualPurge_withLink]
  rfl

theorem saveRequest_treats : s.Treats k (saveRequest p (s.withLink k)) (saveRequest p s) :=
  .unless fun _ => .unless fun _ => .accepted rfl rfl

theorem loadRequest_treats : s.Treats k (loadRequest p (s.withLink k)) (loadRequest p s) := by
  refine .unless fun _ => .unless fun _ => ?_
  rw [State.withLink_store]
  cases s.store.saved with
  | none => exact .refused _
  | some m => exact .accepted (congrArg (·.accept []) (s.loadImage_withLink k m.image)) rfl

end

end Sys2Proof.Machine
end

section
/-! What the line makes of a frame it takes, kind by kind (R153 to R158): the requests under the part's own address and the
broadcasts. -/

namespace Sys2Proof.Machine

/-! ### Kinds (Table 10-3) -/

theorem kindIsUnknown_iff {kind : Byte} : kindIsUnknown kind = true ↔ kind ∉ knownKinds := by
  simp [kindIsUnknown]

/-- R155: a kind outside the table is answered for what it is. -/
theorem State.dispatchOwn_of_unknown {kind : Byte} (h : kind ∉ knownKinds) (s : State) (p : List Byte) :
    s.dispatchOwn kind p = s.answer kind unknownKindRequest := by
  have unknown {n : Nat} (hn : kind.toNat = n) : BitVec.ofNat 8 n ∉ knownKinds := by
    rwa [← hn, BitVec.ofNat_toNat, BitVec.setWidth_eq]
  unfold State.dispatchOwn
  split
  case h_24 => rfl
  all_goals
    rename_i hkind
    exact absurd (by decide) (unknown hkind)

/-- R155: the owner of a kind answers, with what it makes of the payload whatever reply or bytes the link controller holds; of a
RESTART the link controller itself is the owner. -/
theorem State.dispatchOwn_cases (kind : Byte) (p : List Byte) :
    (kind = 0x32 ∧ ∀ s : State, s.dispatchOwn kind p = s.restartOwn p)
      ∨ ∃ handle : State → State × Answer, (∀ s : State, s.dispatchOwn kind p = s.answer kind handle)
          ∧ ∀ (s : State) (k : Link), k.address = s.link.address → k.seconds = s.link.seconds →
              s.Treats k (handle (s.withLink k)) (handle s) := by
  have owned {handle : State → State × Answer} (h : ∀ s : State, s.dispatchOwn kind p = s.answer kind handle)
      (htreats : ∀ (s : State) (k : Link), s.Treats k (handle (s.withLink k)) (handle s)) :
      ∃ handle : State → State × Answer, (∀ s : State, s.dispatchOwn kind p = s.answer kind handle)
        ∧ ∀ (s : State) (k : Link), k.address = s.link.address → k.seconds = s.link.seconds →
            s.Treats k (handle (s.withLink k)) (handle s) :=
    ⟨handle, h, fun s k _ _ => htreats s k⟩
  by_cases hkind : kind ∈ knownKinds
  · simp only [knownKinds, List.mem_cons, List.not_mem_nil, or_false] at hkind
    obtain rfl | rfl | rfl | rfl | rfl | rfl | rfl | rfl | rfl | rfl | rfl | rfl | rfl | rfl | rfl | rfl | rfl | rfl | rfl
      | rfl | rfl | rfl | rfl := hkind
    · exact .inr ⟨identRequest p, fun _ => rfl, fun s k haddress _ => identRequest_treats s k p haddress⟩
    · exact .inr ⟨statusRequest p, fun _ => rfl, fun s k _ hseconds => statusRequest_treats s k p hseconds⟩
    · exact .inr <| owned (fun _ => rfl) fun s k => pointWriteRequest_treats s k p
    · exact .inr <| owned (fun _ => rfl) fun s k => pointReadRequest_treats s k p
    · exact .inr <| owned (fun _ => rfl) fun s k => surfaceWriteRequest_treats s k p
    · exact .inr <| owned (fun _ => rfl) fun s k => surfaceReadRequest_treats s k p
    · exact .inr <| owned (fun _ => rfl) fun s k => globalWriteRequest_treats s k p
    · exact .inr <| owned (fun _ => rfl) fun s k => globalReadRequest_treats s k p
    · exact .inr <| owned (fun _ => rfl) fun s k => outputWriteRequest_treats s k p
    · exact .inr <| owned (fun _ => rfl) fun s k => outputReadRequest_treats s k p
    · exact .inr <| owned (fun _ => rfl) fun s k => wetlineWriteRequest_treats s k p
    · exact .inr <| owned (fun _ => rfl) fun s k => wetlineReadRequest_treats s k p
    · exact .inr <| owned (fun _ => rfl) fun s k => sweepRequest_treats s k p
    · exact .inr <| owned (fun _ => rfl) fun s k => noticeReadRequest_treats s k p
    · exact .inr <| owned (fun _ => rfl) fun s k => noticeDropRequest_treats s k p
    · exact .inr <| owned (fun _ => rfl) fun s k => rankReadRequest_treats s k p
    · exact .inr <| owned (fun _ => rfl) fun s k => snapArmRequest_treats s k p
    · exact .inr <| owned (fun _ => rfl) fun s k => snapReadRequest_treats s k p
    · exact .inr <| owned (fun _ => rfl) fun s k => wetAckRequest_treats s k p
    · exact .inr <| owned (fun _ => rfl) fun s k => purgeRequest_treats s k p
    · exact .inr <| owned (fun _ => rfl) fun s k => saveRequest_treats s k p
    · exact .inr <| owned (fun _ => rfl) fun s k => loadRequest_treats s k p
    · exact .inl ⟨rfl, fun _ => rfl⟩
  · exact .inr <| owned (fun s => State.dispatchOwn_of_unknown hkind s p) fun _ _ => .refused _

/-- R157: a broadcast of a kind that is not acted on is dropped. -/
theorem State.dispatchBroadcast_of_ignored {kind : Byte} (hsweep : kind ≠ 0x20) (harm : kind ≠ 0x24) (hrestart : kind ≠ 0x32)
    (s : State) (p : List Byte) : s.dispatchBroadcast kind p = s.dropFrame := by
  unfold State.dispatchBroadcast
  split
  next h => exact absurd (BitVec.eq_of_toNat_eq h) hsweep
  next h => exact absurd (BitVec.eq_of_toNat_eq h) harm
  next h => exact absurd (BitVec.eq_of_toNat_eq h) hrestart
  next => rfl

/-! ### Rows (assumption 15) -/

/-- A request row is its request, taken under the part's own address. -/
theorem exec_ownRequest {c : Instr} {kind : Byte} {p : List Byte} (h : ownRequest c = some (kind, p)) (s : State) :
    exec c s = .next (s.dispatchOwn kind p) := by
  cases c with
  | sweepRun dest r => cases dest with
    | own => cases h; rfl
    | broadcast => cases h
  | sweepStop dest r => cases dest with
    | own => cases h; rfl
    | broadcast => cases h
  | sweepOnce dest r => cases dest with
    | own => cases h; rfl
    | broadcast => cases h
  | sweepInterval dest r => cases dest with
    | own => cases h; rfl
    | broadcast => cases h
  | snapArm dest p => cases dest with
    | own => cases h; rfl
    | broadcast => cases h
  | restart dest p => cases dest with
    | own => cases h; rfl
    | broadcast => cases h
  | _ => cases h <;> rfl

section
variable {c : Instr} {kind : Byte} {r p : List Byte}

/-- R157: the rows that broadcast too, with what their frames carry. -/
theorem mem_broadcastable_iff {dest : Dest} : (c, kind, p) ∈ broadcastable dest r ↔
    (c = .sweepRun dest r ∧ kind = 0x20 ∧ p = 0 :: r) ∨ (c = .sweepStop dest r ∧ kind = 0x20 ∧ p = 1 :: r)
      ∨ (c = .sweepOnce dest r ∧ kind = 0x20 ∧ p = 2 :: r) ∨ (c = .sweepInterval dest r ∧ kind = 0x20 ∧ p = 3 :: r)
      ∨ (c = .snapArm dest r ∧ kind = 0x24 ∧ p = r) ∨ (c = .restart dest r ∧ kind = 0x32 ∧ p = r) := by
  simp [broadcastable]

theorem broadcastable_kind {dest : Dest} (h : (c, kind, p) ∈ broadcastable dest r) :
    kind = 0x20 ∨ kind = 0x24 ∨ kind = 0x32 := by
  have row := mem_broadcastable_iff.1 h
  tauto

theorem ownRequest_of_broadcastable (h : (c, kind, p) ∈ broadcastable .own r) : ownRequest c = some (kind, p) := by
  obtain ⟨rfl, rfl, rfl⟩ | ⟨rfl, rfl, rfl⟩ | ⟨rfl, rfl, rfl⟩ | ⟨rfl, rfl, rfl⟩ | ⟨rfl, rfl, rfl⟩ | ⟨rfl, rfl, rfl⟩ :=
    mem_broadcastable_iff.1 h
  · rfl
  · rfl
  · rfl
  · rfl
  · rfl
  · rfl

/-- A broadcast row is its request, taken as a broadcast. -/
theorem exec_broadcastable (h : (c, kind, p) ∈ broadcastable .broadcast r) (s : State) :
    exec c s = .next (s.dispatchBroadcast kind p) := by
  obtain ⟨rfl, rfl, rfl⟩ | ⟨rfl, rfl, rfl⟩ | ⟨rfl, rfl, rfl⟩ | ⟨rfl, rfl, rfl⟩ | ⟨rfl, rfl, rfl⟩ | ⟨rfl, rfl, rfl⟩ :=
    mem_broadcastable_iff.1 h
  · rfl
  · rfl
  · rfl
  · rfl
  · rfl
  · rfl

/-- Table 10-6: the payload of a request row fits its frame. -/
theorem ownRequest_fits (h : ownRequest c = some (kind, p)) (hwell : c.wellFormed = true) : p.length ≤ 48 := by
  have sweep {a : Byte} {q : List Byte} (hq : sweepRestFits q = true) : (a :: q).length ≤ 48 :=
    Nat.succ_le_succ (of_decide_eq_true hq)
  cases c with
  | sweepRun dest r => cases dest <;> cases h; exact sweep hwell
  | sweepStop dest r => cases dest <;> cases h; exact sweep hwell
  | sweepOnce dest r => cases dest <;> cases h; exact sweep hwell
  | sweepInterval dest r => cases dest <;> cases h; exact sweep hwell
  | snapArm dest p => cases dest <;> cases h; exact of_decide_eq_true hwell
  | restart dest p => cases dest <;> cases h; exact of_decide_eq_true hwell
  | unknownKind k q =>
    cases h
    obtain ⟨-, hfits⟩ := (Bool.and_eq_true _ _).mp hwell
    exact of_decide_eq_true hfits
  | _ => cases h <;> exact of_decide_eq_true hwell

theorem broadcastable_fits (h : (c, kind, p) ∈ broadcastable .broadcast r) (hwell : c.wellFormed = true) : p.length ≤ 48 := by
  have sweep {a : Byte} (hr : sweepRestFits r = true) : (a :: r).length ≤ 48 := Nat.succ_le_succ (of_decide_eq_true hr)
  obtain ⟨rfl, rfl, rfl⟩ | ⟨rfl, rfl, rfl⟩ | ⟨rfl, rfl, rfl⟩ | ⟨rfl, rfl, rfl⟩ | ⟨rfl, rfl, rfl⟩ | ⟨rfl, rfl, rfl⟩ :=
    mem_broadcastable_iff.1 h
  · exact sweep hwell
  · exact sweep hwell
  · exact sweep hwell
  · exact sweep hwell
  · exact of_decide_eq_true hwell
  · exact of_decide_eq_true hwell

end

end Sys2Proof.Machine
end

section
/-! Requests taken and refused: the length of a payload, unknown kinds, a SAVE in flight, and what a refusal leaves (R155, R158,
R160, R166). -/

namespace Sys2Proof.Machine

section
variable {s : State} {kind : Byte} {p : List Byte}

/-! ### RESTART under the part's own address (R162) -/

/-- R162: a RESTART that is refused answers its status alone. -/
theorem State.restartOwn_refused (htakes : s.takesOwn = true) (h : s.restartStatus p ≠ .ok) :
    s.restartOwn p = s.postReply 0x32 (Answer.mk (s.restartStatus p) []) := by
  simp [State.restartOwn, htakes, h]

/-- R162: a RESTART that is accepted answers OK, then restarts. -/
theorem State.restartOwn_accepted (htakes : s.takesOwn = true) (h : s.restartStatus p = .ok) :
    s.restartOwn p = (s.postReply 0x32 (Answer.mk .ok [])).restart := by
  simp [State.restartOwn, htakes, h]

theorem State.restartOwn_of_not (htakes : s.takesOwn = false) : s.restartOwn p = s := by
  simp [State.restartOwn, htakes]

theorem State.dispatchOwn_of_not (htakes : s.takesOwn = false) : s.dispatchOwn kind p = s := by
  obtain ⟨-, h⟩ | ⟨handle, h, -⟩ := State.dispatchOwn_cases kind p
  · exact (h s).trans (State.restartOwn_of_not htakes)
  · exact (h s).trans (State.answer_of_not htakes kind handle)

/-! ### Wrong lengths (R155, R158) -/

theorem mem_knownKinds_of_requestLength {n : Nat} (h : requestLength kind = some n) : kind ∈ knownKinds := by
  have known : ∀ k : Byte, (requestLength k).isSome = true → k ∈ knownKinds := by decide
  exact known kind (by rw [h]; rfl)

/-- R155, R158: the length check stands first for every kind of Table 10-3. -/
theorem State.dispatchOwn_badLength {n : Nat} (hlength : requestLength kind = some n) (hp : p.length ≠ n)
    (htakes : s.takesOwn = true) : s.dispatchOwn kind p = s.postReply kind (Answer.mk .badLength []) := by
  have refused {kind : Byte} {handle : State → State × Answer} (h : handle s = s.refuse .badLength) :
      s.answer kind handle = s.postReply kind (Answer.mk .badLength []) := State.answer_of_refuse htakes kind h
  have hkind := mem_knownKinds_of_requestLength hlength
  by_cases hsweep : kind = 0x20
  · subst hsweep
    cases hlength
    exact refused (sweepRequest_badLength hp s)
  by_cases hrestart : kind = 0x32
  · subst hrestart
    cases hlength
    have status : s.restartStatus p = .badLength := if_pos hp
    exact status ▸ State.restartOwn_refused htakes (by rw [status]; decide)
  simp only [knownKinds, List.mem_cons, List.not_mem_nil, hsweep, hrestart, false_or, or_false] at hkind
  obtain rfl | rfl | rfl | rfl | rfl | rfl | rfl | rfl | rfl | rfl | rfl | rfl | rfl | rfl | rfl | rfl | rfl | rfl | rfl
    | rfl | rfl := hkind
  all_goals
    cases hlength
    exact refused (if_pos hp)

/-! ### A SAVE in flight (R166) -/

/-- R166: a request that makes the check of a SAVE in flight makes it after that of its length. -/
theorem busy_of_saving {n : Nat} {r : State × Answer} (hp : p.length = n) (hsave : s.store.saving.isSome = true) :
    (if p.length ≠ n then s.refuse .badLength else if s.isSaving then s.refuse .busy else r) = s.refuse .busy :=
  (if_neg (not_not.2 hp)).trans (if_pos hsave)

end

/-- Settles O4. -/
theorem identReply : Obligations.IdentReply := by
  intro p s htakes
  have own : u8 s.link.address.toNat = [s.link.address.zeroExtend 8] := by
    simp [u8, BitVec.ofNat_toNat]
  by_cases hp : p.length = 0
  · rw [if_pos hp]
    refine congrArg _ (State.answer_of_accept htakes 0x01 ((if_neg (not_not.2 hp)).trans (congrArg s.accept ?_)))
    rw [identPayload, own]
    rfl
  · rw [if_neg hp]
    exact congrArg _ (State.answer_of_refuse htakes 0x01 (if_pos hp))

/-- Settles O6: the length check of each kind, and the one answer of a kind outside the table. -/
theorem wrongLengthAndUnknownKindRefused : Obligations.WrongLengthAndUnknownKindRefused := by
  refine ⟨fun c kind p n s hrequest hlength hp htakes => ?_, fun kind p s hkind htakes => ?_⟩
  · rw [exec_ownRequest hrequest, State.dispatchOwn_badLength hlength hp htakes]
  · refine congrArg Host.Outcome.next ((State.dispatchOwn_of_unknown (kindIsUnknown_iff.1 hkind) s p).trans ?_)
    exact State.answer_of_refuse htakes kind rfl

/-- Settles O7: each of these requests looks at the SAVE in flight right after the length. -/
theorem saveInFlightRefusesWrites : Obligations.SaveInFlightRefusesWrites := by
  intro c kind p s hbusy hrequest hlength hsave htakes
  have refused {handle : State → State × Answer} {kind : Byte} (h : handle s = s.refuse .busy) :
      Host.Outcome.next (s.answer kind handle) =
        (.next (s.postReply kind (Answer.mk .busy [])) : Host.Outcome State Fault Refusal) :=
    congrArg _ (State.answer_of_refuse htakes kind h)
  have swept {a : Byte} {r : List Byte} (h : requestLength 0x20 = some (a :: r).length) : r.length = 2 :=
    Nat.succ.inj (length_of_requestLength h rfl)
  cases c with
  | pointWrite p => cases hrequest; exact refused (busy_of_saving (length_of_requestLength hlength rfl) hsave)
  | surfaceWrite p => cases hrequest; exact refused (busy_of_saving (length_of_requestLength hlength rfl) hsave)
  | globalWrite p => cases hrequest; exact refused (busy_of_saving (length_of_requestLength hlength rfl) hsave)
  | outputWrite p => cases hrequest; exact refused (busy_of_saving (length_of_requestLength hlength rfl) hsave)
  | wetlineWrite p => cases hrequest; exact refused (busy_of_saving (length_of_requestLength hlength rfl) hsave)
  | save p => cases hrequest; exact refused (busy_of_saving (length_of_requestLength hlength rfl) hsave)
  | load p => cases hrequest; exact refused (busy_of_saving (length_of_requestLength hlength rfl) hsave)
  | sweepRun dest r => cases dest <;> cases hrequest; exact refused (busy_of_saving (swept hlength) hsave)
  | sweepStop dest r => cases dest <;> cases hrequest; exact refused (busy_of_saving (swept hlength) hsave)
  | sweepInterval dest r => cases dest <;> cases hrequest; exact refused (busy_of_saving (swept hlength) hsave)
  | restart dest p =>
    cases dest <;> cases hrequest
    have status : s.restartStatus p = .busy :=
      (if_neg (not_not.2 (length_of_requestLength hlength rfl))).trans (if_pos hsave)
    exact congrArg _ (status ▸ State.restartOwn_refused htakes (by rw [status]; decide))
  | _ => cases hbusy

/-- Settles O8: a handler refuses with the state it was given; RESTART's reply stands before its restart, which keeps it. -/
theorem refusedRequestChangesNoBlock : Obligations.RefusedRequestChangesNoBlock := by
  intro c kind p s t r hrequest htakes hexec hreply hstatus
  rw [exec_ownRequest hrequest] at hexec
  cases hexec
  obtain ⟨rfl, h⟩ | ⟨handle, h, htreats⟩ := State.dispatchOwn_cases kind p
  · rw [h] at hreply ⊢
    by_cases hok : s.restartStatus p = .ok
    · obtain ⟨link, -⟩ := (s.postReply 0x32 (Answer.mk .ok [])).restart_keeps
      rw [State.restartOwn_accepted htakes hok, link] at hreply
      cases hreply
      have refused : 2 ≤ Status.ok.code := hstatus
      exact absurd refused (by decide)
    · rw [State.restartOwn_refused htakes hok] at hreply ⊢
      cases hreply
      rfl
  · rw [h, State.answer_of_takes htakes] at hreply ⊢
    cases hreply
    obtain ⟨-, whole⟩ := htreats s s.link rfl rfl
    exact congrArg (fun a : State × Answer => a.1.postReply kind a.2) (whole hstatus)

end Sys2Proof.Machine
end

section
/-! The frames of the line: requests and broadcasts by the bytes of their frames, and frames that are lost or dropped (R153 to
R157). -/

namespace Sys2Proof.Machine

section
variable {s : State} {kind : Byte} {p : List Byte}

/-! ### Broadcasts (R157) -/

theorem State.receives_iff (s : State) : s.receives = true ↔ s.power = .running ∧ s.link.receiver ≠ .answer := by
  simp [State.receives]

theorem State.receives_of_takesOwn (htakes : s.takesOwn = true) : s.receives = true := by
  obtain ⟨hrun, hreceiver, -⟩ := s.takesOwn_iff.1 htakes
  exact s.receives_iff.2 ⟨hrun, hreceiver⟩

theorem State.dropFrame_of_receives (hreceives : s.receives = true) : s.dropFrame = s.hunt := if_pos hreceives

theorem State.dropFrame_of_not (hreceives : s.receives = false) : s.dropFrame = s := by
  simp [State.dropFrame, hreceives]

/-- R157, R162: a broadcast RESTART acts or is refused, and leaves the receiver in HUNT. -/
theorem State.restartBroadcast_of_receives (hreceives : s.receives = true) :
    s.restartBroadcast p = if s.restartStatus p = .ok then s.hunt.restart else s.hunt := if_pos hreceives

theorem State.restartBroadcast_of_not (hreceives : s.receives = false) : s.restartBroadcast p = s := by
  simp [State.restartBroadcast, hreceives]

/-- R157: a broadcast is dropped, or acted on by the owner of its kind; of a RESTART that is the link controller itself. -/
theorem State.dispatchBroadcast_cases (kind : Byte) (p : List Byte) :
    (kind ≠ 0x20 ∧ kind ≠ 0x24 ∧ kind ≠ 0x32 ∧ ∀ s : State, s.dispatchBroadcast kind p = s.dropFrame)
      ∨ (∀ s : State, s.dispatchOwn kind p = s.restartOwn p ∧ s.dispatchBroadcast kind p = s.restartBroadcast p)
      ∨ ∃ handle : State → State × Answer,
          (∀ s : State, s.dispatchOwn kind p = s.answer kind handle ∧ s.dispatchBroadcast kind p = s.broadcast handle)
          ∧ ∀ (s : State) (k : Link), s.Treats k (handle (s.withLink k)) (handle s) := by
  by_cases hsweep : kind = 0x20
  · subst hsweep
    exact .inr (.inr ⟨sweepRequest p, fun _ => ⟨rfl, rfl⟩, fun s k => sweepRequest_treats s k p⟩)
  by_cases harm : kind = 0x24
  · subst harm
    exact .inr (.inr ⟨snapArmRequest p, fun _ => ⟨rfl, rfl⟩, fun s k => snapArmRequest_treats s k p⟩)
  by_cases hrestart : kind = 0x32
  · subst hrestart
    exact .inr (.inl fun _ => ⟨rfl, rfl⟩)
  exact .inl ⟨hsweep, harm, hrestart, fun s => State.dispatchBroadcast_of_ignored hsweep harm hrestart s p⟩

/-! ### The part with the bytes of a frame collected (R153) -/

theorem State.collecting_receives (hrun : s.power = .running) (buffer : List Byte) : (s.collecting buffer).receives = true :=
  (State.receives_iff _).2 ⟨hrun, nofun⟩

theorem State.collecting_takesOwn (htakes : s.takesOwn = true) (buffer : List Byte) :
    (s.collecting buffer).takesOwn = true := by
  obtain ⟨hrun, -, haddress⟩ := s.takesOwn_iff.1 htakes
  exact (State.takesOwn_iff _).2 ⟨hrun, nofun, haddress⟩

/-- A request leaves the link controller alone. -/
theorem State.Treats.link {r : State × Answer} (h : s.Treats s.link r r) : r.1.link = s.link :=
  congrArg (fun r : State × Answer => r.1.link) h.same

/-- R155: a request comes to the same with the bytes of its frame collected. -/
theorem State.handle_collecting {handle : State → State × Answer}
    (h : ∀ k : Link, k.address = s.link.address → k.seconds = s.link.seconds →
      s.Treats k (handle (s.withLink k)) (handle s)) (buffer : List Byte) :
    handle (s.collecting buffer) = ((handle s).1.collecting buffer, (handle s).2) := by
  have link : (handle s).1.link = s.link := (h s.link rfl rfl).link
  refine (h (s.collecting buffer).link rfl rfl).same.trans (Prod.ext ?_ rfl)
  change { (handle s).1 with link := { s.link with receiver := .frame, buffer := buffer } } = _
  rw [← link]
  rfl

theorem State.dispatchOwn_collecting (htakes : s.takesOwn = true) (buffer : List Byte) :
    (s.collecting buffer).dispatchOwn kind p = s.dispatchOwn kind p := by
  have htakes' := State.collecting_takesOwn htakes buffer
  obtain ⟨-, h⟩ | ⟨handle, h, htreats⟩ := State.dispatchOwn_cases kind p
  · rw [h, h]
    by_cases hok : s.restartStatus p = .ok
    · rw [State.restartOwn_accepted htakes hok, State.restartOwn_accepted htakes' hok]
      rfl
    · rw [State.restartOwn_refused htakes hok, State.restartOwn_refused htakes' hok]
      rfl
  · rw [h, h, State.answer_of_takes htakes, State.answer_of_takes htakes', State.handle_collecting (htreats s)]
    rfl

theorem State.dispatchBroadcast_collecting (hreceives : s.receives = true) (buffer : List Byte) :
    (s.collecting buffer).dispatchBroadcast kind p = s.dispatchBroadcast kind p := by
  obtain ⟨hrun, -⟩ := s.receives_iff.1 hreceives
  have hreceives' := State.collecting_receives hrun buffer
  obtain ⟨-, -, -, h⟩ | h | ⟨handle, h, htreats⟩ := State.dispatchBroadcast_cases kind p
  · rw [h, h, State.dropFrame_of_receives hreceives, State.dropFrame_of_receives hreceives']
    rfl
  · rw [(h _).2, (h _).2, State.restartBroadcast_of_receives hreceives, State.restartBroadcast_of_receives hreceives']
    rfl
  · rw [(h _).2, (h _).2, State.broadcast_of_receives hreceives, State.broadcast_of_receives hreceives',
      State.handle_collecting fun k _ _ => htreats s k]
    rfl

end

/-- Settles O9: the bytes before the last are collected, and the last has the frame judged and its request dispatched. -/
theorem requestFrameIsTaken : Obligations.RequestFrameIsTaken := by
  refine ⟨fun c kind p gap s hrequest hwell hgap htakes hhunt => ?_, fun c kind r p gap s hmem hwell hgap hreceives hhunt => ?_⟩
  · obtain ⟨buffer, h⟩ := runAll_ownFrame htakes hgap hhunt kind (ownRequest_fits hrequest hwell)
    rw [h, exec_ownRequest hrequest, State.dispatchOwn_collecting htakes]
  · obtain ⟨buffer, h⟩ := runAll_broadcastFrame hreceives hgap hhunt kind (broadcastable_fits hmem hwell)
    rw [h, exec_broadcastable hmem, State.dispatchBroadcast_collecting hreceives]

/-- Settles O10: what the owner does with a request does not depend on the link controller, whose part alone differs. -/
theorem broadcastActsLikeOwnRequest : Obligations.BroadcastActsLikeOwnRequest := by
  intro own bc kind r p a s hown hbc hreceives haddress
  let k : Link := { s.link with address := a }
  obtain ⟨hrun, hreceiver⟩ := s.receives_iff.1 hreceives
  have htakes : (s.withLink k).takesOwn = true := (State.takesOwn_iff _).2 ⟨hrun, hreceiver, haddress⟩
  refine ⟨(s.withLink k).dispatchOwn kind p, exec_ownRequest (ownRequest_of_broadcastable hown) _, ?_⟩
  rw [exec_broadcastable hbc]
  refine congrArg Host.Outcome.next ?_
  obtain ⟨hsweep, harm, hrestart, -⟩ | h | ⟨handle, h, htreats⟩ := State.dispatchBroadcast_cases kind p
  · obtain e | e | e := broadcastable_kind hbc
    · exact absurd e hsweep
    · exact absurd e harm
    · exact absurd e hrestart
  · obtain ⟨hown, -⟩ := h (s.withLink k)
    obtain ⟨-, hbroadcast⟩ := h s
    rw [hown, hbroadcast, State.restartBroadcast_of_receives hreceives]
    by_cases hok : s.restartStatus p = .ok
    · rw [if_pos hok, State.restartOwn_accepted htakes hok]
      have replied : (s.withLink k).postReply 0x32 (Answer.mk .ok []) =
          s.withLink ((s.withLink k).postReply 0x32 (Answer.mk .ok [])).link := rfl
      rw [replied, State.restart_withLink]
      exact s.restart_withLink s.hunt.link
    · rw [if_neg hok, State.restartOwn_refused htakes hok]
      rfl
  · obtain ⟨hown, -⟩ := h (s.withLink k)
    obtain ⟨-, hbroadcast⟩ := h s
    rw [hown, hbroadcast, State.answer_of_takes htakes, State.broadcast_of_receives hreceives, (htreats s k).same]
    have link : (handle s).1.link = s.link := (htreats s s.link).link
    rw [State.hunt, link]
    rfl

/-- Settles O11: a frame judged to be none of the part's is dropped as its discard is. -/
theorem framesNotForThisPartAreLost : Obligations.FramesNotForThisPartAreLost := by
  have dropped {s : State} (hreceives : s.receives = true) (buffer : List Byte) (cause : DiscardCause) :
      Host.Outcome.next (s.collecting buffer).dropFrame = exec (.frameDiscard cause) s := by
    obtain ⟨hrun, -⟩ := s.receives_iff.1 hreceives
    refine congrArg Host.Outcome.next ?_
    rw [State.dropFrame_of_receives hreceives, State.dropFrame_of_receives (State.collecting_receives hrun buffer)]
    rfl
  refine ⟨fun adr kind p crc gap s hp hgap hreceives hhunt hcrc => ?_,
    fun adr kind p gap s hp hgap hreceives hhunt hbroadcast hforeign => ?_,
    fun kind p gap s hp hgap hreceives hhunt hsweep harm hrestart => ?_⟩
  · obtain ⟨hrun, -⟩ := s.receives_iff.1 hreceives
    obtain ⟨buffer, h⟩ := runAll_arrivals_frame hrun hgap hhunt adr kind hp crc
    have bad : frameCrcOk (frameBytes adr kind p crc) = false := by
      rw [frameCrcOk_frameBytes adr kind hp]
      exact decide_eq_false hcrc.symm
    have judged : (s.collecting buffer).judgeFrame (frameBytes adr kind p crc) = (s.collecting buffer).dropFrame :=
      if_pos (by rw [bad]; rfl)
    exact h.trans (judged ▸ dropped hreceives buffer _)
  · obtain ⟨hrun, -⟩ := s.receives_iff.1 hreceives
    obtain ⟨buffer, h⟩ := runAll_arrivals_frame hrun hgap hhunt adr kind hp _
    have nonzero : adr.toNat ≠ 0 := fun e => hbroadcast (BitVec.eq_of_toNat_eq e)
    have foreign : adr.toNat ≠ (s.collecting buffer).link.address.toNat := hforeign
    rw [← requestFrame_eq, State.judgeFrame_requestFrame _ _ _ hp, if_neg nonzero, if_neg foreign] at h
    exact h.trans (dropped hreceives buffer _)
  · obtain ⟨buffer, h⟩ := runAll_broadcastFrame hreceives hgap hhunt kind hp
    rw [State.dispatchBroadcast_of_ignored hsweep harm hrestart] at h
    exact h.trans (dropped hreceives buffer _)

/-- Settles O13: in ANSWER no request is taken, by its row or as a broadcast, and no frame is there to drop. -/
theorem droppedAndLateFramesChangeNothing : Obligations.DroppedAndLateFramesChangeNothing := by
  refine ⟨fun cause s hreceives => congrArg _ (State.dropFrame_of_receives hreceives),
    fun cause s hreceives => congrArg _ (State.dropFrame_of_receives hreceives), fun c s hrow hanswer => ?_⟩
  have hreceives : s.receives = false := Bool.eq_false_iff.2 fun h => (s.receives_iff.1 h).2 hanswer
  have htakes : s.takesOwn = false := Bool.eq_false_iff.2 fun h => by simp [State.receives_of_takesOwn h] at hreceives
  have own (h : (ownRequest c).isSome = true) : exec c s = .next s := by
    obtain ⟨⟨kind, p⟩, hrequest⟩ := Option.isSome_iff_exists.1 h
    exact (exec_ownRequest hrequest s).trans (congrArg _ (State.dispatchOwn_of_not htakes))
  cases c with
  | frameDiscard cause => exact congrArg _ (State.dropFrame_of_not hreceives)
  | frameAbandon cause => exact congrArg _ (State.dropFrame_of_not hreceives)
  | sweepRun dest r =>
    cases dest with
    | own => exact own rfl
    | broadcast => exact congrArg _ (State.broadcast_of_not hreceives _)
  | sweepStop dest r =>
    cases dest with
    | own => exact own rfl
    | broadcast => exact congrArg _ (State.broadcast_of_not hreceives _)
  | sweepOnce dest r =>
    cases dest with
    | own => exact own rfl
    | broadcast => exact congrArg _ (State.broadcast_of_not hreceives _)
  | sweepInterval dest r =>
    cases dest with
    | own => exact own rfl
    | broadcast => exact congrArg _ (State.broadcast_of_not hreceives _)
  | snapArm dest r =>
    cases dest with
    | own => exact own rfl
    | broadcast => exact congrArg _ (State.broadcast_of_not hreceives _)
  | restart dest r =>
    cases dest with
    | own => exact own rfl
    | broadcast => exact congrArg _ (State.restartBroadcast_of_not hreceives)
  | _ => exact own hrow

end Sys2Proof.Machine
end

section
/-! The receiver byte by byte (R153), the reply as it is sent (R156, Table 10-7) and its summary block (R159). -/

namespace Sys2Proof.Machine

/-! ### Bytes received (R153) -/

theorem State.collecting_self {s : State} (h : s.link.receiver = .frame) : s.collecting s.link.buffer = s := by
  rw [State.collecting, ← h]

/-- R153: a byte received in HUNT opens a frame or is discarded. -/
theorem State.huntByte_eq (s : State) (b : Byte) : s.huntByte b = { s with link :=
    if b = 0xC3 then { s.link with receiver := .frame, buffer := [b] }
    else { s.link with receiver := .hunt, buffer := [] } } := by
  unfold State.huntByte
  by_cases h : b = 0xC3
  · rw [if_pos h]
    exact if_pos h
  · rw [if_neg h]
    exact if_neg h

/-- R153: a length byte above 48 abandons the frame. -/
theorem State.frameByte_tooLong {s : State} {b : Byte} (hlength : s.link.buffer.length = 3) (hb : 48 < b.toNat) :
    s.frameByte b = s.hunt := by
  simp [State.frameByte, hlength, hb]

/-- Settles O12: the receiver's three states, and in FRAME the gap, the length byte and the bytes that complete nothing. -/
theorem receiverTakesOneByte : Obligations.ReceiverTakesOneByte := by
  intro b n s hrun
  rw [exec_byteReceived hrun]
  have frame (hframe : s.link.receiver = .frame) : s.receiveByte b n =
      if 12000 < n then s.huntByte b else s.frameByte b := by
    rw [State.receiveByte, hframe]
    rfl
  refine ⟨fun hanswer => ?_, fun hhunt => ?_, fun hframe hgap => ?_, fun hframe hgap hlength hb => ?_,
    fun hframe hgap hfits hmore => ?_⟩
  · simp only [State.receiveByte, hanswer]
  · simp only [State.receiveByte, hhunt, State.huntByte_eq]
  · refine Eq.trans ?_ (exec_byteReceived (s := s.hunt) hrun b n).symm
    rw [frame hframe, if_pos hgap]
    change _ = Host.Outcome.next (s.hunt.huntByte b)
    rw [State.huntByte_eq, State.huntByte_eq]
    rfl
  · rw [frame hframe, if_neg (by omega), State.frameByte_tooLong hlength hb]
    rfl
  · have collected := State.frameByte_incomplete (s := s) (buffer := s.link.buffer) (b := b)
      (fun hlength => by by_contra hb; exact hfits ⟨hlength, by omega⟩) fun hlength hend => hmore ⟨hlength, hend⟩
    rw [State.collecting_self hframe] at collected
    rw [frame hframe, if_neg (by omega), collected, State.collecting, ← hframe]

/-! ### The reply sent (R156) -/

/-- Table 10-7: a CRC goes out high byte first. -/
theorem u16_toNat (c : BitVec 16) : u16 c.toNat = [c.extractLsb' 8 8, c.extractLsb' 0 8] := by
  have high : BitVec.ofNat 8 (c.toNat / 256) = c.extractLsb' 8 8 := by
    apply BitVec.eq_of_toNat_eq
    simp [Nat.shiftRight_eq_div_pow]
  have low : BitVec.ofNat 8 c.toNat = c.extractLsb' 0 8 := by
    apply BitVec.eq_of_toNat_eq
    simp
  rw [u16, high, low]

/-- Settles O14. -/
theorem replyIsSentAndEnds : Obligations.ReplyIsSentAndEnds := by
  intro r s hrun hreply
  refine ⟨?_, ?_, fun hsending => ?_, ?_⟩
  · simp [exec, execReplyStart, hrun, Link.startReply, hreply]
  · simp [State.driverEnabled, hrun, hreply]
  · simp [exec, execReplyEnd, hrun, Link.endReply, hreply, hsending]
  · rintro body rfl
    have own : BitVec.ofNat 8 s.link.address.toNat = s.link.address.zeroExtend 8 := BitVec.ofNat_toNat 8 _
    have body : r.body s.link.address = s.link.address.zeroExtend 8 :: r.kind :: BitVec.ofNat 8 r.status.code
        :: (r.summary ++ BitVec.ofNat 8 r.payload.length :: r.payload) := by
      simp [Reply.body, u8, own]
    rw [Reply.frame, body, u16_toNat]
    rfl

/-! ### The summary block (R159) -/

/-- Table 10-8: eight flags in one byte, the first in its lowest bit. -/
theorem flagByte_bits (f0 f1 f2 f3 f4 f5 f6 f7 : Bool) :
    let b : Byte := BitVec.ofNat 8 (flagBit f0 1 + flagBit f1 2 + flagBit f2 4 + flagBit f3 8 + flagBit f4 16 + flagBit f5 32
      + flagBit f6 64 + flagBit f7 128)
    b.getLsbD 0 = f0 ∧ b.getLsbD 1 = f1 ∧ b.getLsbD 2 = f2 ∧ b.getLsbD 3 = f3 ∧ b.getLsbD 4 = f4 ∧ b.getLsbD 5 = f5
      ∧ b.getLsbD 6 = f6 ∧ b.getLsbD 7 = f7 := by
  revert f0 f1 f2 f3 f4 f5 f6 f7
  decide

/-- A running maximum over the elements that count is reached, and is an upper bound. -/
theorem foldl_max_cases {α : Type} (counts : α → Prop) [DecidablePred counts] (f : α → Nat) (l : List α) (a : Nat) :
    let m := l.foldl (fun a i => if counts i then max a (f i) else a) a
    a ≤ m ∧ (∀ i ∈ l, counts i → f i ≤ m) ∧ (m = a ∨ ∃ i ∈ l, counts i ∧ f i = m) := by
  induction l generalizing a with
  | nil => exact ⟨le_rfl, nofun, .inl rfl⟩
  | cons x l ih =>
    dsimp only at ih ⊢
    rw [List.foldl_cons]
    by_cases hx : counts x
    · rw [if_pos hx]
      obtain ⟨above, bound, reached⟩ := ih (max a (f x))
      obtain ⟨habove, hx'⟩ := max_le_iff.1 above
      refine ⟨habove, List.forall_mem_cons.2 ⟨fun _ => hx', bound⟩, ?_⟩
      obtain reached | ⟨i, hi, h⟩ := reached
      · obtain h | h := max_choice a (f x)
        · exact .inl (reached.trans h)
        · exact .inr ⟨x, List.mem_cons_self, hx, (reached.trans h).symm⟩
      · exact .inr ⟨i, List.mem_cons_of_mem x hi, h⟩
    · rw [if_neg hx]
      obtain ⟨above, bound, reached⟩ := ih a
      exact ⟨above, List.forall_mem_cons.2 ⟨fun h => absurd h hx, bound⟩,
        reached.imp_right fun ⟨i, hi, h⟩ => ⟨i, List.mem_cons_of_mem x hi, h⟩⟩

/-- R36: the worst severity is that of some enabled surface, or 0, and no enabled surface has a higher one. -/
theorem worstState_spec (surfaces : Vector SurfaceRec 16) :
    (∀ i : Fin 16, (surfaces[i]).cfg.enabled = true → (surfaces[i]).run.state.severity ≤ worstState surfaces)
      ∧ (worstState surfaces = 0 ∨ ∃ i : Fin 16, (surfaces[i]).cfg.enabled = true
          ∧ (surfaces[i]).run.state.severity = worstState surfaces) := by
  obtain ⟨-, bound, reached⟩ := foldl_max_cases (fun i : Fin 16 => (surfaces[i]).cfg.enabled = true)
    (fun i => (surfaces[i]).run.state.severity) (List.finRange 16) 0
  exact ⟨fun i => bound i (List.mem_finRange i), reached.imp_right fun ⟨i, _, h⟩ => ⟨i, h⟩⟩

theorem RiskState.severity_le (st : RiskState) : st.severity ≤ 5 := by
  cases st <;> decide

theorem anyUnknown_iff {surfaces : Vector SurfaceRec 16} : anyUnknown surfaces = true ↔
    ∃ i : Fin 16, (surfaces[i]).cfg.enabled = true ∧ (surfaces[i]).run.state = .unknown := by
  simp [anyUnknown]

theorem State.wetAny_iff {s : State} : s.wetAny = true ↔ ∃ l : Fin 8, (s.wet[l]).latch = true := by
  simp [State.wetAny]

theorem State.tapeOpen_iff {s : State} :
    s.tapeOpen = true ↔ ∃ l : Fin 8, s.lineEnabled l = true ∧ (s.wet[l]).debounced = some .openTape := by
  simp [State.tapeOpen]

/-- Table 10-8: the summary's third byte, a severity in its low bits and a flag on top. -/
theorem severityByte_bits {n : Nat} (hn : n ≤ 5) (unknown : Bool) :
    (BitVec.ofNat 8 (n + flagBit unknown 128)).toNat % 128 = n
      ∧ (BitVec.ofNat 8 (n + flagBit unknown 128)).getLsbD 7 = unknown := by
  interval_cases n <;> cases unknown <;> decide

/-- Settles O5: byte by byte, the flags bit by bit. -/
theorem summaryBlockBits : Obligations.SummaryBlockBits := by
  intro s kind a hnotices
  obtain ⟨bound, reached⟩ := worstState_spec s.surfaces
  have worst : worstState s.surfaces ≤ 5 := by
    obtain h | ⟨i, -, h⟩ := reached
    · omega
    · exact h ▸ RiskState.severity_le _
  obtain ⟨severity, unknown⟩ := severityByte_bits worst (anyUnknown s.surfaces)
  obtain ⟨overflow, sweeping, dirty, nvFault, saving, wetAny, ready, tapeOpen⟩ := flagByte_bits s.notices.overflow
    s.sweep.inFlight s.store.dirty s.store.nvFault s.store.saving.isSome s.wetAny s.sweep.ready s.tapeOpen
  refine ⟨_, _, _, _, rfl, toNat_ofNat_of_lt (by omega), overflow, sweeping, dirty, nvFault, saving, ?_, ready, ?_, ?_, ?_, ?_,
    ?_⟩
  · rw [← State.wetAny_iff, ← wetAny]
    rfl
  · rw [← State.tapeOpen_iff, ← tapeOpen]
    rfl
  · rw [unknown, anyUnknown_iff]
  · rwa [severity]
  · rwa [severity]
  · simp

end Sys2Proof.Machine
end

section
/-! The receiver is in ANSWER exactly while a reply waits or is sent (R153, R156): what each command makes of the
link controller. -/

namespace Sys2Proof.Machine

/-! ### Events that leave the link controller alone -/

/-- The outcome is a next state with the link controller of `s`. -/
def State.LinkStays (s : State) : Host.Outcome State Fault Refusal → Prop := Meets fun t => t.link = s.link

section
variable (s : State)

theorem State.windowExpires_link (port : Fin 24) (line : PinLine) : (s.windowExpires port line).link = s.link := by
  unfold State.windowExpires
  split
  · rfl
  · split <;> simp [State.endJob_keeps]

theorem State.sweepTimerExpires_link (t : Nat) : (s.sweepTimerExpires t).link = s.link := by
  simp only [State.sweepTimerExpires]
  split <;> simp [State.startSweep_keeps]

theorem State.purgeExpires_link (p : Fin 24) : (s.purgeExpires p).link = s.link := by
  obtain ⟨-, -, served, -⟩ := (s.purgeEnded p).serve_keeps
  rw [State.purgeExpires_eq]
  obtain ⟨-, -, settled, -⟩ := State.settle_keeps ((s.purgeEnded p).serve.1.offer _)
  exact settled.trans served

theorem State.periodStarts_link (g : Grant) : (s.periodStarts g).link = s.link := by
  obtain ⟨next, hnext⟩ : ∃ n, n = g.periodStart + Config.ticksPerSecond := ⟨_, rfl⟩
  by_cases hends : next < g.purgeEnds
  · rw [State.periodStarts_eq hnext hends]
    rfl
  · simp only [State.periodStarts, ← hnext, if_neg hends]

theorem State.onTimeEnds_link (g : Grant) : (s.onTimeEnds g).link = s.link := by
  obtain ⟨ends, hends⟩ : ∃ n, n = g.periodStart + g.duty * Config.ticksPerDutyPercent := ⟨_, rfl⟩
  by_cases hon : (g.energised && g.duty < 100) = true
  · obtain ⟨henergised, hduty⟩ := (Bool.and_eq_true _ _).mp hon
    rw [State.onTimeEnds_eq hends henergised (of_decide_eq_true hduty)]
    rfl
  · simp only [State.onTimeEnds, if_neg hon]

theorem State.debounceExpires_link (l : Fin 8) : (s.debounceExpires l).link = s.link := by
  simp only [State.debounceExpires]
  split
  · rfl
  · split <;> simp [State.latchEvent_keeps]

theorem State.tick_link : s.tick.link = s.link := by
  unfold State.tick
  split <;> rfl

theorem execSweepTimerExpiry_link : s.LinkStays (execSweepTimerExpiry s) := by
  unfold execSweepTimerExpiry
  split
  · exact State.sweepTimerExpires_link _ _
  · exact rfl

theorem execStartEdge_link (port : Fin 24) (line : PinLine) : s.LinkStays (execStartEdge port line s) := by
  have ⟨_, _, sampled, _⟩ := s.sampleLine_keeps port line .high Config.filterTicks
  unfold execStartEdge
  split
  · exact sampled
  · exact rfl

theorem execCaptureJobComplete_link (port : Fin 24) (line : PinLine) (total high : Nat) :
    s.LinkStays (execCaptureJobComplete port line total high s) := by
  have ⟨_, _, sampled, _⟩ := (s.elapse (s.ticksTo port line total)).sampleLine_keeps port line .high Config.filterTicks
  unfold execCaptureJobComplete
  dsimp only
  split
  · exact sampled
  · exact rfl

theorem execCaptureWindowExpiry_link (port : Fin 24) (line : PinLine) :
    s.LinkStays (execCaptureWindowExpiry port line s) := by
  unfold execCaptureWindowExpiry
  split
  · exact s.windowExpires_link port line
  · exact rfl

theorem execFilteredLevelChange_link (port : Fin 24) (line : PinLine) (samples : SampleRun) :
    s.LinkStays (execFilteredLevelChange port line samples s) := by
  have ⟨_, _, sampled, _⟩ := s.sampleLine_keeps port line samples.level samples.ticks
  unfold execFilteredLevelChange
  split
  · exact sampled
  · exact rfl

theorem execHeaterPeriodStart_link (p : Fin 24) : s.LinkStays (execHeaterPeriodStart p s) := by
  unfold execHeaterPeriodStart
  split
  · exact s.periodStarts_link _
  · exact rfl

theorem execHeaterOnTimeEnd_link (p : Fin 24) : s.LinkStays (execHeaterOnTimeEnd p s) := by
  unfold execHeaterOnTimeEnd
  split
  · exact s.onTimeEnds_link _
  · exact rfl

theorem execPurgeTimerExpiry_link (p : Fin 24) : s.LinkStays (execPurgeTimerExpiry p s) := by
  unfold execPurgeTimerExpiry
  split
  · exact State.purgeExpires_link _ p
  · exact rfl

theorem execRecoveryTimerExpiry_link (p : Fin 24) : s.LinkStays (execRecoveryTimerExpiry p s) := by
  unfold execRecoveryTimerExpiry
  split <;> exact rfl

theorem execRawLevelChange_link (l : Fin 8) (ohms : Nat) : s.LinkStays (execRawLevelChange l ohms s) := by
  unfold execRawLevelChange
  split
  · rw [State.rawChange_eq]
    exact rfl
  · exact rfl

theorem execDebounceExpiry_link (l : Fin 8) : s.LinkStays (execDebounceExpiry l s) := by
  unfold execDebounceExpiry
  split
  · exact State.debounceExpires_link _ l
  · exact rfl

theorem execMinOnExpiry_link (o : Fin 2) : s.LinkStays (execMinOnExpiry o s) := by
  unfold execMinOnExpiry
  split <;> exact rfl

theorem execMinOffExpiry_link (o : Fin 2) : s.LinkStays (execMinOffExpiry o s) := by
  unfold execMinOffExpiry
  split <;> exact rfl

theorem execSaveComplete_link (verified : Bool) : s.LinkStays (execSaveComplete verified s) := by
  unfold execSaveComplete
  split <;> exact rfl

theorem execResetPinAssert_link : s.LinkStays (execResetPinAssert s) := by
  unfold execResetPinAssert
  split <;> exact rfl

end

/-! ### The law of the receiver -/

section
variable {s t : State}

theorem State.ReceiverLaw.of_link (h : s.ReceiverLaw) (hlink : t.link = s.link) : t.ReceiverLaw := by
  unfold State.ReceiverLaw
  rwa [hlink]

theorem State.ReceiverLaw.of_stays (h : s.ReceiverLaw) {o : Host.Outcome State Fault Refusal} (ho : s.LinkStays o) :
    Meets State.ReceiverLaw o := by
  cases o with
  | next t => exact h.of_link ho
  | fault r => trivial
  | refused r => trivial

/-- Table 10-2: outside ANSWER no reply is in progress, and in HUNT no byte is collected. -/
theorem State.ReceiverLaw.of_hunt (hhunt : t.link.receiver = .hunt) (hbuffer : t.link.buffer = [])
    (hreply : t.link.reply = none) : t.ReceiverLaw :=
  ⟨by simp [hhunt, hreply], fun _ => hbuffer⟩

theorem State.ReceiverLaw.reply_eq_none (h : s.ReceiverLaw) (hreceiver : s.link.receiver ≠ .answer) :
    s.link.reply = none := by
  obtain ⟨answers, -⟩ := h
  exact Option.not_isSome_iff_eq_none.1 fun hreply => hreceiver (answers.2 hreply)

/-- R153: the receiver returns to HUNT from a frame. -/
theorem State.ReceiverLaw.hunt (h : s.ReceiverLaw) (hreceiver : s.link.receiver ≠ .answer) (hlink : t.link = s.link) :
    t.hunt.ReceiverLaw :=
  .of_hunt rfl rfl ((congrArg Link.reply hlink).trans (h.reply_eq_none hreceiver))

/-- R153: bytes are collected in FRAME. -/
theorem State.ReceiverLaw.collecting (h : s.ReceiverLaw) (hreceiver : s.link.receiver ≠ .answer) (buffer : List Byte) :
    (s.collecting buffer).ReceiverLaw := by
  have noReply : (s.collecting buffer).link.reply = none := h.reply_eq_none hreceiver
  exact ⟨iff_of_false nofun (by simp [noReply]), fun hframe => absurd rfl hframe⟩

/-- R155: the reply waits, and the receiver is in ANSWER. -/
theorem State.postReply_receiverLaw (s : State) (kind : Byte) (a : Answer) : (s.postReply kind a).ReceiverLaw :=
  ⟨by simp, fun _ => rfl⟩

/-! ### Frames (R153 to R157) -/

theorem State.dropFrame_receiverLaw (h : s.ReceiverLaw) : s.dropFrame.ReceiverLaw := by
  cases hreceives : s.receives with
  | true =>
    obtain ⟨-, hreceiver⟩ := s.receives_iff.1 hreceives
    exact State.dropFrame_of_receives hreceives ▸ h.hunt hreceiver rfl
  | false => exact (State.dropFrame_of_not hreceives).symm ▸ h

theorem State.dispatchOwn_receiverLaw (h : s.ReceiverLaw) (kind : Byte) (p : List Byte) :
    (s.dispatchOwn kind p).ReceiverLaw := by
  cases htakes : s.takesOwn with
  | false => exact (State.dispatchOwn_of_not htakes).symm ▸ h
  | true =>
    obtain ⟨-, e⟩ | ⟨handle, e, -⟩ := State.dispatchOwn_cases kind p
    · rw [e]
      by_cases hok : s.restartStatus p = .ok
      · rw [State.restartOwn_accepted htakes hok]
        obtain ⟨link, -⟩ := (s.postReply 0x32 (Answer.mk .ok [])).restart_keeps
        exact (State.postReply_receiverLaw s _ _).of_link link
      · rw [State.restartOwn_refused htakes hok]
        exact State.postReply_receiverLaw s _ _
    · rw [e, State.answer_of_takes htakes]
      exact State.postReply_receiverLaw _ _ _

theorem State.dispatchBroadcast_receiverLaw (h : s.ReceiverLaw) (kind : Byte) (p : List Byte) :
    (s.dispatchBroadcast kind p).ReceiverLaw := by
  obtain ⟨-, -, -, e⟩ | e | ⟨handle, e, htreats⟩ := State.dispatchBroadcast_cases kind p
  · exact e s ▸ State.dropFrame_receiverLaw h
  · rw [(e s).2]
    cases hreceives : s.receives with
    | false => exact (State.restartBroadcast_of_not hreceives).symm ▸ h
    | true =>
      obtain ⟨-, hreceiver⟩ := s.receives_iff.1 hreceives
      have hunted : s.hunt.ReceiverLaw := h.hunt hreceiver rfl
      rw [State.restartBroadcast_of_receives hreceives]
      split
      · obtain ⟨link, -⟩ := s.hunt.restart_keeps
        exact hunted.of_link link
      · exact hunted
  · rw [(e s).2]
    cases hreceives : s.receives with
    | false => exact (State.broadcast_of_not hreceives handle).symm ▸ h
    | true =>
      obtain ⟨-, hreceiver⟩ := s.receives_iff.1 hreceives
      exact State.broadcast_of_receives hreceives handle ▸ h.hunt hreceiver (htreats s s.link).link

theorem State.judgeFrame_receiverLaw (h : s.ReceiverLaw) (buffer : List Byte) : (s.judgeFrame buffer).ReceiverLaw := by
  unfold State.judgeFrame
  dsimp only
  split
  · exact State.dropFrame_receiverLaw h
  · split
    · exact State.dispatchBroadcast_receiverLaw h _ _
    · split
      · exact State.dispatchOwn_receiverLaw h _ _
      · exact State.dropFrame_receiverLaw h

theorem State.huntByte_receiverLaw (h : s.ReceiverLaw) (hreceiver : s.link.receiver ≠ .answer) (b : Byte) :
    (s.huntByte b).ReceiverLaw := by
  unfold State.huntByte
  split
  · exact h.collecting hreceiver [b]
  · exact h.hunt hreceiver rfl

theorem State.frameByte_receiverLaw (h : s.ReceiverLaw) (hframe : s.link.receiver = .frame) (b : Byte) :
    (s.frameByte b).ReceiverLaw := by
  have hreceiver : s.link.receiver ≠ .answer := by rw [hframe]; exact Receiver.noConfusion
  unfold State.frameByte
  dsimp only
  split
  · exact h.hunt hreceiver rfl
  · split
    · exact State.judgeFrame_receiverLaw h _
    · have collected := h.collecting hreceiver (s.link.buffer ++ [b])
      rwa [State.collecting, ← hframe] at collected

theorem State.receiveByte_receiverLaw (h : s.ReceiverLaw) (b : Byte) (silence : Nat) :
    (s.receiveByte b silence).ReceiverLaw := by
  unfold State.receiveByte
  split
  next => exact h
  next hhunt => exact State.huntByte_receiverLaw h (by rw [hhunt]; exact Receiver.noConfusion) b
  next hframe =>
    split
    · exact State.huntByte_receiverLaw h (by rw [hframe]; exact Receiver.noConfusion) b
    · exact State.frameByte_receiverLaw h hframe b

/-! ### The reply (R153, R156) -/

theorem execReplyStart_receiverLaw (h : s.ReceiverLaw) : Meets State.ReceiverLaw (execReplyStart s) := by
  unfold execReplyStart
  split
  · cases hreply : s.link.reply with
    | none => exact h.of_link (by simp [Link.startReply, hreply])
    | some r =>
      obtain ⟨answers, buffer⟩ := h
      have started : s.link.startReply = { s.link with reply := some { r with sending := true } } := by
        simp [Link.startReply, hreply]
      rw [started]
      exact ⟨by simpa [hreply] using answers, buffer⟩
  · exact h

theorem execReplyEnd_receiverLaw (h : s.ReceiverLaw) : Meets State.ReceiverLaw (execReplyEnd s) := by
  unfold execReplyEnd Link.endReply
  split
  · cases hreply : s.link.reply with
    | none => exact h
    | some r =>
      dsimp only
      split
      · exact .of_hunt rfl rfl rfl
      · exact h
  · exact h

theorem execSecondsCount_receiverLaw (h : s.ReceiverLaw) : Meets State.ReceiverLaw (execSecondsCount s) := by
  unfold execSecondsCount
  split
  · exact h
  · exact h

theorem execByteReceived_receiverLaw (h : s.ReceiverLaw) (b : Byte) (silence : Nat) :
    Meets State.ReceiverLaw (execByteReceived b silence s) := by
  unfold execByteReceived
  split
  · exact State.receiveByte_receiverLaw h b silence
  · exact h

/-! ### Supply and reset (R153, R169) -/

theorem State.losePower_receiverLaw (s : State) (power : Power) :
    ({ s.losePower with power := power } : State).ReceiverLaw := .of_hunt rfl rfl rfl

theorem State.startUp_receiverLaw (s : State) (cause : Nat) (pins : StartPins) : (s.startUp cause pins).ReceiverLaw := by
  obtain ⟨link, -⟩ := s.startUpOn_keeps cause pins (s.store.startImage pins)
  exact State.ReceiverLaw.of_link (s := s.startedUp cause pins (s.store.startImage pins)) (.of_hunt rfl rfl rfl) link

theorem execPowerOn_receiverLaw (h : s.ReceiverLaw) (pins : StartPins) : Meets State.ReceiverLaw (execPowerOn pins s) := by
  unfold execPowerOn
  split
  · exact s.startUp_receiverLaw 1 pins
  · exact h
  · exact s.losePower_receiverLaw .held
  · exact State.startUp_receiverLaw _ 1 pins

theorem execResetPinRelease_receiverLaw (h : s.ReceiverLaw) (pins : StartPins) :
    Meets State.ReceiverLaw (execResetPinRelease pins s) := by
  unfold execResetPinRelease
  split
  · exact s.startUp_receiverLaw 2 pins
  · exact h
  · exact h
  · exact h

theorem execPowerLoss_receiverLaw (h : s.ReceiverLaw) : Meets State.ReceiverLaw (execPowerLoss s) := by
  unfold execPowerLoss
  split
  · exact h
  · exact h
  · exact s.losePower_receiverLaw .offHeld
  · exact s.losePower_receiverLaw .off

/-! ### Every command -/

/-- R153, R156: every command keeps the law; a request row keeps it whatever its kind. -/
theorem exec_receiverLaw (h : s.ReceiverLaw) (c : Instr) : Meets State.ReceiverLaw (exec c s) := by
  have broadcast (kind : Byte) (p : List Byte) : (s.dispatchBroadcast kind p).ReceiverLaw :=
    State.dispatchBroadcast_receiverLaw h kind p
  cases hrequest : ownRequest c with
  | some request =>
    obtain ⟨kind, p⟩ := request
    rw [exec_ownRequest hrequest]
    exact State.dispatchOwn_receiverLaw h kind p
  | none =>
    cases c with
    | powerOn pins => exact execPowerOn_receiverLaw h pins
    | resetPinAssert => exact h.of_stays (execResetPinAssert_link s)
    | resetPinRelease pins => exact execResetPinRelease_receiverLaw h pins
    | powerLoss => exact execPowerLoss_receiverLaw h
    | sweepRun dest r =>
      cases dest with
      | own => cases hrequest
      | broadcast => exact broadcast 0x20 (0 :: r)
    | sweepStop dest r =>
      cases dest with
      | own => cases hrequest
      | broadcast => exact broadcast 0x20 (1 :: r)
    | sweepOnce dest r =>
      cases dest with
      | own => cases hrequest
      | broadcast => exact broadcast 0x20 (2 :: r)
    | sweepInterval dest r =>
      cases dest with
      | own => cases hrequest
      | broadcast => exact broadcast 0x20 (3 :: r)
    | snapArm dest p =>
      cases dest with
      | own => cases hrequest
      | broadcast => exact broadcast 0x24 p
    | restart dest p =>
      cases dest with
      | own => cases hrequest
      | broadcast => exact broadcast 0x32 p
    | frameDiscard cause => exact State.dropFrame_receiverLaw h
    | frameAbandon cause => exact State.dropFrame_receiverLaw h
    | byteReceived b silence => exact execByteReceived_receiverLaw h b silence
    | replyStart => exact execReplyStart_receiverLaw h
    | replyEnd => exact execReplyEnd_receiverLaw h
    | secondsCount => exact execSecondsCount_receiverLaw h
    | sweepTimerExpiry => exact h.of_stays (execSweepTimerExpiry_link s)
    | startEdge port line => exact h.of_stays (execStartEdge_link s port line)
    | captureJobComplete port line total high => exact h.of_stays (execCaptureJobComplete_link s port line total high)
    | captureWindowExpiry port line => exact h.of_stays (execCaptureWindowExpiry_link s port line)
    | filteredLevelChange port line samples => exact h.of_stays (execFilteredLevelChange_link s port line samples)
    | heaterPeriodStart port => exact h.of_stays (execHeaterPeriodStart_link s port)
    | heaterOnTimeEnd port => exact h.of_stays (execHeaterOnTimeEnd_link s port)
    | purgeTimerExpiry port => exact h.of_stays (execPurgeTimerExpiry_link s port)
    | recoveryTimerExpiry port => exact h.of_stays (execRecoveryTimerExpiry_link s port)
    | rawLevelChange l ohms => exact h.of_stays (execRawLevelChange_link s l ohms)
    | debounceExpiry l => exact h.of_stays (execDebounceExpiry_link s l)
    | minOnExpiry o => exact h.of_stays (execMinOnExpiry_link s o)
    | minOffExpiry o => exact h.of_stays (execMinOffExpiry_link s o)
    | saveComplete verified => exact h.of_stays (execSaveComplete_link s verified)
    | _ => cases hrequest

end

/-- Settles O52: the idle step leaves the link controller alone, and every command keeps the law. -/
theorem receiverLawIsKept : Obligations.ReceiverLawIsKept := by
  intro s t h hstep
  have met : Meets State.ReceiverLaw (step s) := by
    unfold step
    split
    next => exact h.of_link s.tick_link
    next c rest _ => exact exec_receiverLaw (s := { s with pending := rest }) h c
  rwa [hstep] at met

end Sys2Proof.Machine
end
